-- ==== Sys2Proof/Word.lean ====
section
/-!
DEFINITION. The words the device handles and their plainest arithmetic. Registers and packet words are 64 bits wide and
little-endian (R8, R50).
-/
namespace Sys2Proof

/-- A register or packet word. -/
abbrev Word := BitVec 64

/-- A byte. -/
abbrev Byte := BitVec 8

/-- The bits `[lo + width - 1 : lo]` of a natural number. -/
def bitsOf (x lo width : Nat) : Nat := x >>> lo % 2 ^ width

/-- The bits `[lo + width - 1 : lo]` of a word, as a number. -/
def Word.field (w : Word) (lo width : Nat) : Nat := (w.toNat >>> lo) % 2 ^ width

/-- One bit of a word. -/
def Word.bit (w : Word) (i : Nat) : Bool := w.getLsbD i

/-- A word with ones in `[lo + width - 1 : lo]` and zeros elsewhere. -/
def Word.mask (lo width : Nat) : Word := BitVec.ofNat 64 ((2 ^ width - 1) <<< lo)

/-- A word with `[lo + width - 1 : lo]` replaced by the low bits of `v`. -/
def Word.setField (w : Word) (lo width v : Nat) : Word :=
  (w &&& ~~~(Word.mask lo width)) ||| BitVec.ofNat 64 ((v % 2 ^ width) <<< lo)

/-- A word from a number, modulo 2^64. -/
def Word.of (n : Nat) : Word := BitVec.ofNat 64 n

/-- Packs numbers into a word: each entry is (lowest bit, width, value). -/
def Word.pack : List (Nat × Nat × Nat) → Word
  | [] => 0
  | (lo, width, v) :: rest => Word.setField (Word.pack rest) lo width v

/-- The eight bytes of a word, least significant first (R8). -/
def Word.bytes (w : Word) : List Byte :=
  (List.range 8).map fun i => BitVec.ofNat 8 (w.toNat >>> (8 * i))

/-- A word from up to eight bytes, least significant first. -/
def Word.ofBytes : List Byte → Word
  | bs => BitVec.ofNat 64 (bs.foldr (fun b acc => acc * 256 + b.toNat) 0)

/-- A number written as `width` bits in two's complement, read back as an integer. -/
def signed (width n : Nat) : Int :=
  if n % 2 ^ width < 2 ^ (width - 1) then (n % 2 ^ width : Nat) else (n % 2 ^ width : Nat) - (2 ^ width : Nat)

/-- An integer as `width` bits in two's complement. -/
def toSigned (width : Nat) (i : Int) : Nat := (i % (2 ^ width : Nat)).toNat

/-- An integer held inside an interval. -/
def clampInt (lo hi x : Int) : Int := if x < lo then lo else if hi < x then hi else x

/-- A number held below a bound (saturating counters). -/
def satTo (bound n : Nat) : Nat := if n ≤ bound then n else bound

/-- Division rounded to the nearest integer, halves up. -/
def roundDiv (n d : Nat) : Nat := (2 * n + d) / (2 * d)

/-- Division rounded up. -/
def ceilDiv (n d : Nat) : Nat := (n + d - 1) / d

/-- The bits of a number below `width` in reverse order. -/
def reverseBits : Nat → Nat → Nat
  | 0, _ => 0
  | width + 1, n => (n % 2) * 2 ^ width + reverseBits width (n / 2)

/-- Sets or clears one bit of a number held as a bit mask. -/
def setBit (m i : Nat) (b : Bool) : Nat :=
  if m.testBit i = b then m else if b then m + 2 ^ i else m - 2 ^ i

/-- How many of the low `width` bits of a number are set. -/
def popCount : Nat → Nat → Nat
  | 0, _ => 0
  | width + 1, n => n % 2 + popCount width (n / 2)

/-- The entry of a list at an index, or a default. -/
def nth {α : Type} (l : List α) (i : Nat) (dflt : α) : α := (l[i]?).getD dflt

/-- A list with the entry at an index replaced by a function of it; indexes outside leave it unchanged. -/
def modifyNth {α : Type} (l : List α) (i : Nat) (f : α → α) : List α :=
  match l, i with
  | [], _ => []
  | x :: xs, 0 => f x :: xs
  | x :: xs, i + 1 => x :: modifyNth xs i f

/-- Groups bytes into words of eight, the last group as it is. -/
def chunksOf {α : Type} (k : Nat) : Nat → List α → List (List α)
  | 0, _ => []
  | _ + 1, [] => []
  | fuel + 1, l => l.take k :: chunksOf k fuel (l.drop k)

/-- Bytes as words, eight to a word, a short last group filled with zeros above. -/
def wordsOfBytes (bs : List Byte) : List Word :=
  (chunksOf 8 (bs.length / 8 + 1) bs).map Word.ofBytes

end Sys2Proof
end

