-- ==== Sys2Proof/Syntax.lean ====
section
/-!
DEFINITION. The commands: one constructor for each row of the table of operations and events, with the operands the row
carries. A command row of a host carries the packet's header fields and payload. An event row carries what the outside
world decides and the spec's rule reads: which unit, which frame, what was measured, what arrived.
-/
namespace Sys2Proof

/-- The fields of a command packet a host sends (R50, R51): the originator it arrives from (R45), SEQ, TXN, COOKIE, TARGET,
QUIET and the check word that R49 compares. -/
structure Hdr where
  orig : Fin 10
  seq : Nat
  txn : Nat
  cookie : Nat
  target : Nat
  quiet : Bool
  check : Nat
  deriving DecidableEq, Repr

/-- The straps sampled at the release of PORST_N (R1, R2, R495). -/
structure Straps where
  role : Nat
  pairPref : Bool
  vinKind : Nat
  flashMode : Nat
  deriving DecidableEq, Repr

/-- What is fitted on one DRAM channel (R122, R123), as its module data say, and how its training goes: every lane's eye at each rate
tried, highest first, as width in 1/1,000 UI and height in mV (R129). -/
structure DramFit where
  /-- 0 none, 1 RDIMM, 2 MRDIMM, 3 components, 4 anything R122 does not support. -/
  kind : Nat
  gib : Nat
  ranks : Nat
  /-- DRAM organisation: 4, 8 or 16 bits. -/
  org : Nat
  /-- Subchannels populated (components): 1 or 2. -/
  subch : Nat
  /-- Highest data rate the module data allow, in MT/s. -/
  maxRate : Nat
  eyes : List (List (Nat × Nat)) := []
  /-- The module data declare RFM (R139). -/
  rfm : Bool := false
  deriving DecidableEq, Repr

/-- The outcome of the cryptographic checks of one image slot: BODY_HASH and the XMSS signature (R457, R461). -/
structure Verdict where
  cls : Nat
  slot : Nat
  hashOk : Bool
  sigOk : Bool
  deriving DecidableEq, Repr

/-- What a device reset meets: the straps, whether HKO, REFCLK and the RPLL come up in their times, what the start-up test
finds, what DRAM is fitted, how the images' cryptographic checks end.
DESIGN CHOICE (unsafe): log 4. -/
structure BootInputs where
  straps : Straps
  hkoStable : Bool
  refQual : Bool
  rpllLock : Bool
  /-- A trip of the safety monitor before HKO is stable (R109): its cause, and whether its source is still active. -/
  trip : Option (Nat × Bool)
  estopLow : Bool
  failedEngines : List Nat
  failedBasins : List Nat
  /-- A detector failed its latent-fault check in the start-up test (R448). -/
  latentFail : Bool
  dram : List DramFit
  verdicts : List Verdict
  /-- Retained data check out after a wake from deep sleep (R118, R130, R142). -/
  sweepOk : Bool
  /-- The delay taps at which the flash map reads well in SDR reads, a mask of 16 (R512). -/
  taps : Nat
  deriving DecidableEq, Repr

/-! ### Operand types of the event rows -/

/-- Where a direct register write lands: the region windows, or PCIe BAR0 (R58). -/
inductive RegSpace where
  | window | bar0
  deriving DecidableEq, Repr

/-- The dataset of a PTP Announce in BMCA order, and the time properties it carries (R320). -/
structure Announce where
  priority1 : Nat
  clockClass : Nat
  accuracy : Nat
  variance : Nat
  priority2 : Nat
  identity : Nat
  steps : Nat
  domain : Nat
  utc : Nat
  utcValid : Bool
  leap61 : Bool
  leap59 : Bool
  deriving DecidableEq, Repr

/-- A TIME parcel as a side receives it (R322): the header INDEX, the stamps of words 1 to 5 in units of 2^-32 ns, the
time properties, and the arrival stamp. -/
structure TimeParcel where
  hops : Nat
  valid : Bool
  seq : Nat
  t1 : Nat
  t4 : Nat
  echoSeq : Nat
  echoValid : Bool
  arrival : Nat
  /-- Word 6: UTC offset and leap flags. -/
  info : Word
  deriving DecidableEq, Repr

/-- One sensor's conversion in a housekeeping round (R430, R431): the readings of its diodes in 1/16 °C (an external input
uses the first), whether a conversion completed, and what the bias test of an external input sees: 0 nothing, 1 open, 2 short. -/
structure SensorRead where
  a : Int
  b : Int
  done : Bool
  bias : Nat
  deriving DecidableEq, Repr

/-- One read of a DRAM burst (R133): eight words, each with the check bytes of its two beats. -/
abbrev BurstRead := List (Word × Nat × Nat)

/-- What a video port receives (R148, R149): INGEST_VINp_MODE's fields, and whether anything else about it is unsupported
(streams, compression, an encoding that is neither RGB nor YCbCr). -/
structure VinMode where
  w : Nat
  h : Nat
  /-- In units of 0.01 Hz, over 16 frames. -/
  rate : Nat
  sampling : Nat
  depth : Nat
  colorimetry : Nat
  tf : Nat
  limited : Bool
  interlaced : Bool
  link : Nat
  lanes : Nat
  other : Bool
  deriving DecidableEq, Repr

/-- A frame of a live source as it is received (R147, R158): the time key and the time it began, in ps of wall time, its
form, whether all its lines or packets came, and its samples by rows: R, G, B or Y, Cb, Cr. Where chroma is subsampled, the samples
of Cb and Cr stand in the even columns (and rows) and the others are ignored; `siting` gives a 4:2:0 chroma row's place below its even
row in half rows. -/
structure SrcFrame where
  key : Nat
  began : Nat
  w : Nat
  h : Nat
  sampling : Nat
  depth : Nat
  colorimetry : Nat
  tf : Nat
  limited : Bool
  siting : Nat
  whole : Bool
  rows : List (List (Nat × Nat × Nat))
  deriving DecidableEq, Repr

/-- Where a word with bad parity was found (R21 to R24, R30): an engine's own memories by engine index, a basin's pool or
fabric port, anything else of a region. -/
inductive FaultSite where
  | engine (index : Nat)
  | pool (basin : Nat)
  | basinPort (basin : Nat)
  | region (r : Nat)
  deriving DecidableEq, Repr

/-- Traffic classes of a region's fabric, in the order of R29's table. -/
inductive FabricClass where
  | lt | rt | bk | ct
  deriving DecidableEq, Repr

/-- A request at an arbiter (R25, R29): its class, the engine that asks (of a basin's pool and port), when it came (a smaller number
is older) and the word it moves. -/
structure FabricReq where
  cls : FabricClass
  engine : Nat
  since : Nat
  word : Word
  deriving DecidableEq, Repr

/-- What the clock monitor measured in a rate window (R101 to R103): the DCO periods counted, the intervals between REFCLK edges that were
not plain, in DCO periods and in order, and whether the RPLL's phase error stayed inside ±2 DCO periods. -/
structure RateWindow where
  count : Nat
  intervals : List Nat
  inside : Bool
  deriving DecidableEq, Repr

/-- What comes over a link up to a word that arrives broken (R21 to R23): the requests that come in, how many words the consumer
acknowledges first, which word in the replay buffer it is (0 the newest), and the bits flipped in its copies, first the original's,
then the replays': bits 63 to 0 of the word, bit 64 the parity bit. -/
structure FabricArrival where
  site : FaultSite
  requests : List FabricReq
  acks : Nat
  place : Nat
  flips : List Nat
  deriving DecidableEq, Repr

/-- A read of a stored word (R24): the array, the word's place in it, and the bits flipped in the copies read. -/
structure StoredRead where
  site : FaultSite
  addr : Nat
  flips : List Nat
  deriving DecidableEq, Repr

/-- What happens at the DRAM controller (R127, R137, R138): a port gives a read or write of a burst to its queue, at an age in ns; the
controller issues an access; a refresh interval passes. -/
inductive MemEvent where
  | accept (port : Nat) (write : Bool) (addr age : Nat)
  | access
  | refresh
  deriving DecidableEq, Repr

/-- FRAME_OPEN as a tile receives it (R267). -/
structure FrameOpen where
  mask : Nat
  q : Nat
  code : Nat
  decode : Bool
  enc : Bool
  key : Nat
  composed : Nat
  count : Nat
  deriving DecidableEq, Repr

/-- The commands and events, in the order of the table, each with the rule that gives it.
DEDUCED (unsafe): log 8. -/
inductive Instr where
  /-- PING (R69). -/
  | ping (h : Hdr)
  /-- GET_CAPS (R42). -/
  | getCaps (h : Hdr)
  /-- GET_STATE (R117). -/
  | getState (h : Hdr)
  /-- READ_REG (R48). -/
  | readReg (h : Hdr) (addr : Nat) (count : Nat)
  /-- WRITE_REG (R10). -/
  | writeReg (h : Hdr) (addr : Nat) (vals : List Word)
  /-- WRITE_FIELD (R10). -/
  | writeField (h : Hdr) (addr : Nat) (mask : Word) (value : Word)
  /-- MEM_READ (R70). -/
  | memRead (h : Hdr) (addr : Nat) (count : Nat)
  /-- MEM_WRITE (R70). -/
  | memWrite (h : Hdr) (addr : Nat) (vals : List Word)
  /-- DMA_IN (R161). -/
  | dmaIn (h : Hdr) (hostAddr : Nat) (devAddr : Nat) (bytes : Nat) (flags : Word) (data : List Byte)
  /-- DMA_OUT (R70). -/
  | dmaOut (h : Hdr) (hostAddr : Nat) (devAddr : Nat) (bytes : Nat) (flags : Word)
  /-- TXN_BEGIN (R76). -/
  | txnBegin (h : Hdr)
  /-- TXN_COMMIT (R82). -/
  | txnCommit (h : Hdr) (mode : Word) (time : Option (Word × Word))
  /-- TXN_ROLLBACK (R90). -/
  | txnRollback (h : Hdr)
  /-- TXN_STATUS (R69). -/
  | txnStatus (h : Hdr)
  /-- EVENT_SUBSCRIBE (R74). -/
  | eventSubscribe (h : Hdr) (mask : Word)
  /-- CV_RUN (R93). -/
  | cvRun (h : Hdr) (unit : Word) (addr : Nat) (len : Nat) (width : Nat)
  /-- RESET_REGION (R114). -/
  | resetRegion (h : Hdr) (idx : Nat)
  /-- RESET_DEVICE (R113). -/
  | resetDevice (h : Hdr)
  /-- POWER_STATE (R118). -/
  | powerState (h : Hdr) (target : Nat)
  /-- LOCATE (R410). -/
  | locate (h : Hdr) (w : Word)
  /-- LOOP_ENUM (R276). -/
  | loopEnum (h : Hdr) (loop : Nat)
  /-- TILE_STATUS (R287). -/
  | tileStatus (h : Hdr)
  /-- TABLE_PUSH (R369). -/
  | tablePush (h : Hdr) (mask : Word)
  /-- TOKEN_STATUS (R309). -/
  | tokenStatus (h : Hdr)
  /-- TOKEN_YIELD (R306). -/
  | tokenYield (h : Hdr)
  /-- IMAGE_LOAD (R464). -/
  | imageLoad (h : Hdr) (slot : Word) (cls : Word) (src : Nat) (bytes : Nat)
  /-- IMAGE_VERIFY (R465). -/
  | imageVerify (h : Hdr) (w : Word)
  /-- IMAGE_ACTIVATE (R466). -/
  | imageActivate (h : Hdr) (w : Word)
  /-- ATTEST (R475). -/
  | attest (h : Hdr) (n0 : Word) (n1 : Word) (n2 : Word) (n3 : Word)
  /-- BOOT_LOCK (R470). -/
  | bootLock (h : Hdr)
  /-- CAL_RUN (R427). -/
  | calRun (h : Hdr) (mask : Word)
  /-- LEDGER_SAVE (R360). -/
  | ledgerSave (h : Hdr)
  /-- TIME_GET (R313). -/
  | timeGet (h : Hdr)
  /-- COMMIT_VALIDATED (R84). -/
  | commitValidated (o : Fin 10)
  /-- TXN_TIMEOUT (R80). -/
  | txnTimeout (o : Fin 10)
  /-- CQ_TAIL_DOORBELL (R59). -/
  | cqTailDoorbell (q : Fin 4) (idx : Nat)
  /-- PCIE_COMMAND_SLOT (R524). -/
  | pcieCommandSlot (q : Fin 4) (words : List Word)
  /-- RQ_HEAD_UPDATE (R59). -/
  | rqHeadUpdate (q : Fin 4) (idx : Nat)
  /-- EQ_HEAD_UPDATE (R59). -/
  | eqHeadUpdate (idx : Nat)
  /-- Q_RESET (R58). -/
  | qReset (q : Fin 4)
  /-- PCIE_FLR_LINK_DOWN (R61). -/
  | pcieFlrLinkDown
  /-- ETH_DATAGRAM_RX (R62). -/
  | ethDatagramRx (ip : Nat) (port : Nat) (bytes : List Byte)
  /-- ETH_SESSION_TIMEOUT (R63). -/
  | ethSessionTimeout (k : Fin 4)
  /-- WRITE_PKT (R64). -/
  | writePkt (bytes : List Byte)
  /-- READ_STAT (R64). -/
  | readStat
  /-- READ_PKT (R64). -/
  | readPkt (clocked : Nat)
  /-- EV_LOST_DELIVER (R75). -/
  | evLostDeliver (o : Fin 10)
  /-- STATUS_FLAG_CLEAR (R12). -/
  | statusFlagClear (addr : Nat) (mask : Word) (hwSet : Word)
  /-- REGISTER_WRITE (R8). -/
  | registerWrite (space : RegSpace) (addr : Nat) (value : Word)
  /-- CVU_FEED (R92). -/
  | cvuFeed (unit : Fin 4) (width : Nat) (value : Word)
  /-- CVU_INIT_LOAD (R91). -/
  | cvuInitLoad (unit : Fin 4) (value : Word)
  /-- CVU_WIDTH_WRITE (R91). -/
  | cvuWidthWrite (unit : Fin 4) (value : Word)
  /-- AMCLK_CFG_WRITE (R97). -/
  | amclkCfgWrite (value : Word)
  /-- GATE_RUN_WRITE (R111). -/
  | gateRunWrite (value : Word)
  /-- RAIL_CFG_WRITE (R394). -/
  | railCfgWrite (n : Fin 12) (value : Word)
  /-- AUDIO_PORT_ENABLE (R164). -/
  | audioPortEnable (c : Fin 4)
  /-- AUDIO_PORT_DISABLE (R164). -/
  | audioPortDisable (c : Fin 4)
  /-- AUDIO_PORT_STOP_DONE (R164). -/
  | audioPortStopDone (c : Fin 4)
  /-- IKEY_ENROL (R459). -/
  | ikeyEnrol (slot : Nat)
  /-- IKEY_REVOKE (R459). -/
  | ikeyRevoke (slot : Nat)
  /-- IKEY_AUTOLOCK (R470). -/
  | ikeyAutolock
  /-- LAMP_MAP_CLEAR (R361). -/
  | lampMapClear
  /-- FAULT_RESUME (R405). -/
  | faultResume
  /-- FB_CLEAR (R426). -/
  | fbClear
  /-- PORST_ASSERT (R113). -/
  | porstAssert
  /-- PORST_RELEASE (R115). -/
  | porstRelease (x : BootInputs)
  /-- BROWNOUT (R113). -/
  | brownout
  /-- DATA_IMAGE_LOAD_DONE (R468). -/
  | dataImageLoadDone (cls : Nat)
  /-- CALDB_LOAD_DONE (R520). -/
  | caldbLoadDone
  /-- HKO_STABLE (R98). -/
  | hkoStable
  /-- HKO_START_TIMEOUT (R98). -/
  | hkoStartTimeout
  /-- REFCLK_QUAL_WINDOW (R100). -/
  | refclkQualWindow (count : Nat)
  /-- REFCLK_QUAL_TIMEOUT (R100). -/
  | refclkQualTimeout
  /-- RPLL_LOCK (R101). -/
  | rpllLock
  /-- REF_STOP (R102). -/
  | refStop
  /-- REF_GLITCH (R102). -/
  | refGlitch
  /-- RATE_WINDOW (R103). -/
  | rateWindow (seen : RateWindow)
  /-- REQUAL_WINDOW (R105). -/
  | requalWindow (count : Nat)
  /-- RELOCK_DONE (R105). -/
  | relockDone
  /-- CLOCK_HOLD_LONG (R106). -/
  | clockHoldLong
  /-- MUX_FORCE_SWITCH (R107). -/
  | muxForceSwitch
  /-- RPLL_FAULT (R108). -/
  | rpllFault
  /-- SLEEP_ENTRY (R118). -/
  | sleepEntry
  /-- DEEP_ENTRY (R118). -/
  | deepEntry
  /-- WAKE_EVENT (R118). -/
  | wakeEvent (port : Option Nat)
  /-- DEEP_WAKE_SUPPLY_OK (R494). -/
  | deepWakeSupplyOk (x : BootInputs)
  /-- DEEP_WAKE_SUPPLY_TIMEOUT (R494). -/
  | deepWakeSupplyTimeout
  /-- REGION_RESET_DONE (R114). -/
  | regionResetDone (r : Nat)
  /-- DRAM_READ_CHECK (R134). -/
  | dramReadCheck (port : Nat) (addr : Nat) (frame : Nat) (reads : List BurstRead)
  /-- DRIFT_UPDATE (R132). -/
  | driftUpdate (lanes : List (Int × Nat))
  /-- RH_THRESHOLD (R139). -/
  | rhThreshold (port : Nat) (addr : Nat) (acts : Nat)
  /-- RH_TABLE_CLEAR (R139). -/
  | rhTableClear
  /-- DRAM_TEMP_READ (R141). -/
  | dramTempRead (temps : List Int)
  /-- BACKGROUND_FILL_DONE (R131). -/
  | backgroundFillDone
  /-- PORT_URGENCY_RISE (R138). -/
  | portUrgencyRise (event : MemEvent) (more : List MemEvent)
  /-- PORT_TARGET_MISS (R138). -/
  | portTargetMiss (events : List MemEvent)
  /-- VIN_LOCKED (R148). -/
  | vinLocked (p : Fin 4) (m : VinMode)
  /-- VIN_LOCK_LOST (R148). -/
  | vinLockLost (p : Fin 4)
  /-- VIN_MODE_CHANGE (R149). -/
  | vinModeChange (p : Fin 4) (m : VinMode)
  /-- HPD_PULSE_END (R150). -/
  | hpdPulseEnd (p : Fin 4)
  /-- HDCP_AUTH_CHANGE (R151). -/
  | hdcpAuthChange (p : Fin 4) (result : Fin 3) (type1 : Bool)
  /-- SOURCE_FRAME_COMPLETE (R159). -/
  | sourceFrameComplete (src : Nat) (f : SrcFrame)
  /-- FLOW_PACKET_RX (R152). -/
  | flowPacketRx (f : Nat) (port : Nat) (seq : Nat) (t : Nat) (fmtOk : Bool) (inModel : Bool)
  /-- FLOW_LOST (R153). -/
  | flowLost (f : Nat)
  /-- ANC_PACKET_RX (R155). -/
  | ancPacketRx (f : Nat) (sec : Nat) (ns : Nat) (len : Nat) (payload : List Word)
  /-- AUDIO_SAMPLE_RX (R166). -/
  | audioSampleRx (kind : Nat) (index : Nat) (ch : Nat) (stamp : Nat) (sample : Nat) (rate : Nat) (compressed : Bool)
  /-- AUDIO_TRACK_TRIM (R163). -/
  | audioTrackTrim
  /-- SADDLE_LATCH (R190). -/
  | saddleLatch (m : Nat)
  /-- COMPOSITION_WINDOW_START (R185). -/
  | compositionWindowStart (n : Nat)
  /-- COMPOSITION_LINE (R34). -/
  | compositionLine (k : Fin 4)
  /-- CHECKPOINT_MISS (R186). -/
  | checkpointMiss (k : Fin 4) (slot : Nat) (tile : Nat)
  /-- FRAME_DEADLINE (R269). -/
  | frameDeadline (n : Nat)
  /-- WORK_ITEM_DISPATCH (R220). -/
  | workItemDispatch
  /-- WORK_ITEM_COMPLETE (R226). -/
  | workItemComplete (engine : Nat) (cycles : Nat) (fault : Bool)
  /-- ITEM_WATCHDOG (R222). -/
  | itemWatchdog (engine : Nat)
  /-- FABRIC_PARITY_MISMATCH (R23). -/
  | fabricParityMismatch (arrival : FabricArrival) (more : List FabricArrival)
  /-- STORED_WORD_PARITY (R24). -/
  | storedWordParity (read : StoredRead) (more : List StoredRead)
  /-- ENGINE_SUSPECT_EXPIRY (R26). -/
  | engineSuspectExpiry (engine : Nat)
  /-- BASIN_LOAD_DONE (R230). -/
  | basinLoadDone (b : Nat) (failed : List Nat)
  /-- DIAG_ENGINE_RUN (R231). -/
  | diagEngineRun (engine : Nat) (pass : Bool)
  /-- DIAG_POOL_RUN (R231). -/
  | diagPoolRun (b : Nat) (reads : List StoredRead)
  /-- FRAME_START (R363). -/
  | frameStart (n : Nat)
  /-- SLOT_UPLOAD (R386). -/
  | slotUpload (n : Nat) (slot : Nat)
  /-- SLOT_SWAP (R386). -/
  | slotSwap (n : Nat) (slot : Nat)
  /-- PWM_CYCLE_START (R247). -/
  | pwmCycleStart (n : Nat) (slot : Nat) (cycle : Nat) (samples : List (List Nat))
  /-- LINE_BOUNDARY (R383). -/
  | lineBoundary (n : Nat) (slot : Nat) (cycle : Nat) (line : Nat)
  /-- PROOF_VISIT (R401). -/
  | proofVisit (t : Int)
  /-- WAIT_EVENT_RETURN (R379). -/
  | waitEventReturn (g : Nat)
  /-- NOP (R377). -/
  | laneNop (g : Nat)
  /-- SHIFT (R377). -/
  | laneShift (g : Nat) (n : Nat)
  /-- SHIFTK (R377). -/
  | laneShiftK (g : Nat) (k : Nat) (n : Nat)
  /-- PINS (R377). -/
  | lanePins (g : Nat) (lat : Bool) (blk : Bool) (mask : Nat) (clken : Bool) (h : Nat)
  /-- WAIT (R379). -/
  | laneWait (g : Nat) (event : Nat)
  /-- TPULSE (R378). -/
  | laneTPulse (g : Nat) (pin : Nat) (level : Bool) (offset : Nat) (width : Nat)
  /-- SETC (R377). -/
  | laneSetC (g : Nat) (c : Nat) (value : Nat)
  /-- LOOP (R377). -/
  | laneLoop (g : Nat) (c : Nat) (target : Nat)
  /-- JUMP (R377). -/
  | laneJump (g : Nat) (target : Nat)
  /-- GCLK (R377). -/
  | laneGclk (g : Nat) (div : Nat)
  /-- RDIAG (R396). -/
  | laneRdiag (g : Nat) (flags : List Bool)
  /-- END (R377). -/
  | laneEnd (g : Nat)
  /-- PROOF_DUE (R400). -/
  | proofDue (lamp : Nat) (em : Nat)
  /-- COVERAGE_LOW (R403). -/
  | coverageLow (lamp : Nat) (em : Nat)
  /-- RAIL_START (R391). -/
  | railStart
  /-- RAIL_GOOD (R391). -/
  | railGood (n : Fin 12)
  /-- RAIL_SEQ_TIMEOUT (R391). -/
  | railSeqTimeout (n : Fin 12)
  /-- RAIL_STOP (R391). -/
  | railStop
  /-- RAIL_COMPARATOR_TRIP (R393). -/
  | railComparatorTrip (n : Fin 12)
  /-- RAIL_RESTART (R393). -/
  | railRestart (n : Fin 12)
  /-- RAIL_UNDERVOLTAGE (R393). -/
  | railUndervoltage (n : Fin 12)
  /-- CAP_EVALUATE (R409). -/
  | capEvaluate
  /-- DRIVE_ITEM_RX (R408). -/
  | driveItemRx (end_ : Fin 2) (cap : Nat) (blank : Bool) (from_ : Nat)
  /-- WALL_OFF_EVENT_RX (R406). -/
  | wallOffEventRx
  /-- TILE_THERMAL_REPORT_RX (R435). -/
  | tileThermalReportRx (loop : Nat) (pos : Nat) (thermal : Nat)
  /-- PHOTO_FRAME_RESULT (R415). -/
  | photoFrameResult (input : Fin 8) (lit : Nat) (dark : Nat) (hasLit : Bool) (sat : Bool) (shunts : List Int)
  /-- PHOTO_WINDOW_END (R420). -/
  | photoWindowEnd (input : Fin 8)
  /-- CAL_RUN_START (R421). -/
  | calRunStart
  /-- CAL_RUN_END (R423). -/
  | calRunEnd
  /-- PARCEL_RX (R263). -/
  | parcelRx (port : Fin 8) (words : List Word) (overflow : Bool)
  /-- FRAME_OPEN_RX (R267). -/
  | frameOpenRx (port : Fin 8) (n : Nat) (o : FrameOpen)
  /-- ABORT_RX (R274). -/
  | abortRx (port : Fin 8) (n : Nat) (index : Nat) (reason : Nat)
  /-- TAG_RX (R284). -/
  | tagRx (port : Fin 8) (n : Nat) (first : Nat) (tags : List (Word × Word))
  /-- COMMAND_ITEM_RX (R57). -/
  | commandItemRx (end_ : Fin 2) (words : List Word)
  /-- TXN_PREPARE (R89). -/
  | txnPrepare (end_ : Fin 2) (txn : Nat) (orig : Nat) (n : Nat)
  /-- TXN_APPLY (R89). -/
  | txnApply (end_ : Fin 2) (txn : Nat) (orig : Nat) (n : Nat)
  /-- TXN_DROP (R89). -/
  | txnDrop (end_ : Fin 2) (txn : Nat) (orig : Nat) (n : Nat)
  /-- CHAIN_ITEM_RX (R198). -/
  | chainItemRx (end_ : Fin 2) (records : List (Nat × Nat × Nat))
  /-- ENUM_ITEM_RX (R276). -/
  | enumItemRx (port : Fin 2) (hops : Nat) (fromB : Bool) (lid : Nat) (ml : Nat) (layout : List (Nat × Nat × Nat × Nat × Nat))
  /-- ENUM_RESP_RX (R277). -/
  | enumRespRx (loop : Nat) (pos : Nat) (uidLo : Word) (uidHi : Word) (epoch : Nat) (status : Word) (fwVer : Word) (fwWin : Word)
  /-- ENUM_TIMEOUT (R276). -/
  | enumTimeout (loop : Nat)
  /-- RATE_ITEM_RX (R282). -/
  | rateItemRx (end_ : Fin 2) (mode : Nat)
  /-- KEY_ITEM_RX (R283). -/
  | keyItemRx (end_ : Fin 2) (pos : Nat) (phase : Nat) (selector : Nat) (ok : Bool) (words : List Word)
  /-- KEY_RESP_RX (R283). -/
  | keyRespRx (loop : Nat) (pos : Nat) (ok : Bool) (pub : List Word)
  /-- LEASE_RX (R303). -/
  | leaseRx (port : Fin 8) (term : Nat) (yielding : Bool) (pref : Bool) (n : Nat) (epoch : Nat) (renewals : Nat) (uidLo : Word) (uidHi : Word)
  /-- TABLE_DATA (R367). -/
  | tableData (end_ : Fin 2) (pos : Nat) (cls : Nat) (off : Nat) (words : List Word)
  /-- TABLE_END (R367). -/
  | tableEnd (end_ : Fin 2) (pos : Nat) (cls : Nat) (crc : Nat) (len : Nat)
  /-- TABLE_COMMIT (R368). -/
  | tableCommit (end_ : Fin 2) (pos : Nat) (epoch : Nat) (mask : Nat)
  /-- IMAGE_ITEM_RX (R464). -/
  | imageItemRx (end_ : Fin 2) (off : Nat) (cls : Nat) (words : List Word)
  /-- REPLY_PARCEL_RX (R268). -/
  | replyParcelRx (port : Fin 8) (pos : Nat) (cnt : Nat) (payload : List Word)
  /-- LINK_PARCEL_RX (R270). -/
  | linkParcelRx (port : Fin 8) (uidLo : Word) (uidHi : Word) (lock : Nat) (lanes : Nat) (tile : Bool) (pport : Nat) (lid : Option Nat) (mode : Nat) (retire : Nat)
  /-- TIME_PARCEL_RX (R323). -/
  | timeParcelRx (port : Fin 8) (p : TimeParcel)
  /-- PARCEL_POSITION_TX (R271). -/
  | parcelPositionTx (port : Fin 8)
  /-- LINK_LOCK_LOST (R279). -/
  | linkLockLost (port : Fin 8)
  /-- LINK_SIGNAL_DETECT (R279). -/
  | linkSignalDetect (port : Fin 8)
  /-- LINK_REJOIN (R279). -/
  | linkRejoin (port : Fin 8) (mid : Option Bool)
  /-- LANE_BLOCK_LOCK_LOST (R280). -/
  | laneBlockLockLost (port : Fin 8) (lane : Fin 4)
  /-- LANE_ERROR_WINDOW (R280). -/
  | laneErrorWindow (port : Fin 8) (errs : List Nat)
  /-- LOOP_RETURN_TIMEOUT (R273). -/
  | loopReturnTimeout (loop : Nat)
  /-- ITEM_REASSEMBLY_TIMEOUT (R266). -/
  | itemReassemblyTimeout (port : Fin 8) (msg : Nat)
  /-- RELAY_REPLY_TIMEOUT (R67). -/
  | relayReplyTimeout (loop : Nat) (pos : Nat) (orig : Nat) (seq : Nat)
  /-- LOOP_BRINGUP (R278). -/
  | loopBringup (loop : Nat)
  /-- TILE_CORRECTION_START (R274). -/
  | tileCorrectionStart (n : Nat)
  /-- MIRROR_RX (R295). -/
  | mirrorRx (msg : Nat) (kind : Nat) (orig : Nat) (txn : Nat) (mode : Nat) (latch : Nat) (tiles : Bool) (entries : List (Nat × Word))
  /-- MIRROR_ACK_RX (R295). -/
  | mirrorAckRx (msg : Nat) (status : Nat) (detail : Nat) (epoch : Nat)
  /-- MEMCOPY_RX (R295). -/
  | memcopyRx (addr : Nat) (words : List Word)
  /-- SELECT_RX (R296). -/
  | selectRx (n : Nat) (picks : List (Nat × Nat))
  /-- DIGEST_RX (R297). -/
  | digestRx (n : Nat) (sums : List (Nat × Bool))
  /-- CTRL_COPY_RX (R299). -/
  | ctrlCopyRx (words : List Word)
  /-- REPLY_FWD_RX (R299). -/
  | replyFwdRx (loop : Nat) (pos : Nat) (cnt : Nat) (payload : List Word)
  /-- PAIR_KEY_RX (R298). -/
  | pairKeyRx (loop : Nat) (selector : Nat) (ok : Bool) (key : List Word)
  /-- LEASE_SEND (R300). -/
  | leaseSend
  /-- LEASE_EXPIRY (R301). -/
  | leaseExpiry
  /-- TAKEOVER (R304). -/
  | takeover
  /-- SEEK_TIMEOUT (R302). -/
  | seekTimeout
  /-- TOKEN_HANDOVER (R306). -/
  | tokenHandover
  /-- TOKEN_REQUEST (R307). -/
  | tokenRequest
  /-- HANDOVER_RELAY_TIMEOUT (R306). -/
  | handoverRelayTimeout
  /-- PTP_SYNC_RX (R320). -/
  | ptpSyncRx (path : Fin 3) (seq : Nat) (twoStep : Bool) (t1 : Int) (corr : Int) (t2 : Int)
  /-- PTP_FOLLOW_UP_RX (R320). -/
  | ptpFollowUpRx (path : Fin 3) (seq : Nat) (t1 : Int) (corr : Int)
  /-- PTP_DELAY_RESP_RX (R320). -/
  | ptpDelayRespRx (path : Fin 3) (seq : Nat) (t4 : Int) (corr : Int)
  /-- PTP_ANNOUNCE_RX (R319). -/
  | ptpAnnounceRx (path : Fin 3) (a : Announce)
  /-- PTP_MGMT_RX (R320). -/
  | ptpMgmtRx (path : Fin 3) (tlv : List Word)
  /-- PTP_DELAY_REQ_TX (R320). -/
  | ptpDelayReqTx (path : Fin 3) (t3 : Int)
  /-- SERVO_REF_LOST (R316). -/
  | servoRefLost
  /-- TIME_HOLD_LONG (R317). -/
  | timeHoldLong
  /-- MASTER_CHANGE_HOLD_END (R319). -/
  | masterChangeHoldEnd
  /-- FSYNC_IN_EDGE (R332). -/
  | fsyncInEdge (stamp : Int) (mark : Bool)
  /-- FSYNC_OUT_PULSE (R331). -/
  | fsyncOutPulse (o : Fin 2) (n : Nat)
  /-- TABLE_REBUILD_DONE (R344). -/
  | tableRebuildDone
  /-- LEDGER_SAVE_TIMER (R359). -/
  | ledgerSaveTimer
  /-- LEDGER_SAVE_DONE (R359). -/
  | ledgerSaveDone (good : Bool)
  /-- LEDGER_SAVE_RETRY (R359). -/
  | ledgerSaveRetry
  /-- LEDGER_MARK (R358). -/
  | ledgerMark
  /-- HOUSEKEEPING_ROUND (R431). -/
  | housekeepingRound (sensors : List SensorRead) (heartbeat : Bool) (suppliesOk : Bool) (straps : Straps) (rails : List (Nat × Nat))
  /-- ORDERLY_STOP_END (R437). -/
  | orderlyStopEnd
  /-- ESTOP_ASSERT (R440). -/
  | estopAssert
  /-- MONITOR_DISAGREE (R441). -/
  | monitorDisagree
  /-- LOCKSTEP_MISMATCH (R44). -/
  | lockstepMismatch
  /-- LATENT_LOCKSTEP_TEST (R448). -/
  | latentLockstepTest (flagged : Bool)
  /-- LATENT_DIODE_CHECK (R448). -/
  | latentDiodeCheck (bad : Nat)
  /-- IMAGE_LOAD_DONE (R464). -/
  | imageLoadDone (cls : Nat) (flashOk : Bool) (hashOk : Bool) (sigOk : Bool)
  /-- IMAGE_RECHECK_DONE (R465). -/
  | imageRecheckDone (cls : Nat) (hashOk : Bool) (sigOk : Bool)
  /-- ROLLOUT_STALL (R472). -/
  | rolloutStall
  /-- ROLLOUT_END (R472). -/
  | rolloutEnd
  /-- TILE_FULL_CATCHUP (R518). -/
  | tileFullCatchup (loop : Nat) (pos : Nat)
  /-- AOUT_WORD_SELECT_PERIOD (R165). -/
  | aoutWordSelectPeriod (c : Fin 4) (t : Nat)
  /-- LINK_TRAINED (R278). -/
  | linkTrained (port : Fin 8) (failed : Nat)
  /-- MIRROR_RESYNC_DONE (R310). -/
  | mirrorResyncDone (regs : List (Nat × Word)) (epoch : Nat)
  /-- TILE_UNREACHABLE (R289). -/
  | tileUnreachable (loop : Nat) (pos : Nat)
  /-- ESTOP_RELEASE (R440). -/
  | estopRelease
  /-- SUPPLY_MONITOR_RELEASE (R493). -/
  | supplyMonitorRelease (x : BootInputs)
  deriving DecidableEq, Repr

end Sys2Proof
end

