-- ==== Sys2Proof/Decode.lean ====
section
/-!
DEFINITION. The table of commands gives its rows no bits: no word spells a command.
-/
namespace Sys2Proof

/-- The command a word spells by the table's bits: none, for every row has none.
DESIGN CHOICE (unsafe): log 3. -/
def decodeTableWord (_nbits _w : Nat) : Option Instr := none

end Sys2Proof
end

