-- ==== Sys2Proof/Config.lean ====
section
/-!
DEFINITION. What an implementation fixes and the spec leaves open: opaque constants with no body, so that nothing can
evaluate them or prove a value of them. Each is named in the assumption log. A free value that may differ from one
occasion to the next takes the model's counter `Dev.free` as its first argument.
-/
namespace Sys2Proof.Config

open Sys2Proof

/-- The words of an EV_CLOCK packet after the time words: the spec names its causes (R104, R105) and lays no words out.
DESIGN CHOICE (safe): log 35. -/
opaque clockEventWords : (cause : Nat) → List Word

/-- The proportional and the integral gain of the servo at a bandwidth in mHz, from an offset in ps to 2^-32 ns for each TCLK edge
(R316): the spec gives a proportional-integral loop its bandwidths and no gains.
DESIGN CHOICE (safe): log 71. -/
opaque servoGains : (bandwidth : Nat) → Rat × Rat

/-- The filtered offset shown in TIME_SERVO (R316 gives no filter), in ps.
DESIGN CHOICE (safe): log 71. -/
opaque servoFilter : (source state : Nat) → (offset shown : Int) → Int

/-- Stamps of the device's own launches: the latencies held in OTP that correct them (R322), in 2^-32 ns.
DEDUCED (unsafe): log 72. -/
opaque launchLatency : (side : Nat) → Nat

/-- The HKO trim code for a die reading in 1/16 °C (ch. 3, before R99): the table is in OTP.
DESIGN CHOICE (safe): log 36. -/
opaque hkoTrim : (reading : Int) → Nat

/-- What a drift update measures of a lane as the ports reopen after self-refresh (R142): edge offset and width in 1/64 UI.
DEDUCED (unsafe): log 38. -/
opaque laneEdge : (draw lane : Nat) → Int × Nat

/-- Which of several rows of the lowest count leaves the activation table (R139).
DESIGN CHOICE (safe): log 39. -/
opaque rowVictim : (draw : Nat) → Nat

/-- The block of a data image that a poisoned burst of DRAM belongs to (R135): the spec does not say where the image lies.
DEDUCED (unsafe): log 41. -/
opaque poisonBlock : (draw : Nat) → Nat

/-- Blocks of a background load that were in flash when a reset cut it off (R473).
DEDUCED (unsafe): log 103. -/
opaque loadProgress : (draw : Nat) → Nat

/-- The milliseconds TOKEN_STATUS shows where no renewal has come in (R309 states none).
DEDUCED (unsafe): log 19. -/
opaque noRenewal : (draw : Nat) → Nat

/-- Whether a step of the rate reference is rounded up to a whole 1/32,768 of a count (R99, R103 give no rounding): the step as a
fraction.
DESIGN CHOICE (unsafe): log 37. -/
opaque rateUp : (num : Int) → (den : Nat) → Bool

/-- By how much HKO's frequency changes from one trim code to the next one, in parts in 10^9 (R99): used within the 100 ppm of R99.
DESIGN CHOICE (safe): log 36. -/
opaque trimStep : (oldTrim newTrim : Nat) → Int

/-- The control word of the RPLL, the mean of its words over the 128 HKO cycles R104 names.
DEDUCED (unsafe): log 34. -/
opaque controlWord : (draw : Nat) → Nat

/-- Coefficient of one tap of the 4-tap filter that upsamples chroma horizontally (R147 gives none), by siting and by whether the
column is odd.
DESIGN CHOICE (safe): log 46. -/
opaque chromaTap : (siting odd tap : Nat) → Rat

/-- The sample taken where a chroma filter reaches over the edge of a row or column of so many (R147 says nothing of it).
DESIGN CHOICE (safe): log 46. -/
opaque chromaEdge : (len : Nat) → (at_ : Int) → Nat

/-- The 32-bit sample put out where the ring holds none for the period: a fade-out after an underrun, a sample that never came
(R164, R165 give no value).
DESIGN CHOICE (safe): log 47. -/
opaque missingSample : (before : Nat) → Nat

/-- The trim in ppm that TRACK asks for, from the fill of the master channel's ring and its target (R163).
DESIGN CHOICE (safe): log 47. -/
opaque trackStep : (fill target : Nat) → Int

/-- INT, NUM and DEN of KEEP_AMCLK_CFG that the firmware takes for a trim of so many ppm from a divider (R163).
DESIGN CHOICE (safe): log 47. -/
opaque amclkTrimmed : (base : Word) → (ppm : Int) → Nat × Nat × Nat

/-- Deviation of a built-in curve from the exact value, rounded down, at a point: the spec bounds it by 2 LSB (R180, R265).
DESIGN CHOICE (safe): log 54. -/
opaque curveSlack : (curve point : Nat) → Nat

/-- Where a lamp's sample falls in the crop, in 1/64 of a source pixel, the scaler's phase (R174 does not place the samples): from crop
and destination length and the lamp.
DESIGN CHOICE (safe): log 53. -/
opaque scalePlace : (crop dst u : Nat) → Int

/-- A scaler coefficient the spec does not give a number (R174): of the windowed sinc, or of cubic convolution on fewer taps than it has.
DESIGN CHOICE (safe): log 53. -/
opaque scaleCoef : (filter taps phase index : Nat) → Rat

/-- The column or row a tap reads that lies outside the crop (R174 gives none).
DESIGN CHOICE (safe): log 53. -/
opaque scaleEdge : (length : Nat) → (index : Int) → Nat

/-- Whether a result that the spec defines exactly and does not round (R174, R213, R214, GAIN of R216, R147) rounds up: the result as a
fraction, and what it is of.
DESIGN CHOICE (safe): log 46.
DESIGN CHOICE (safe): log 53.
DESIGN CHOICE (safe): log 55. -/
opaque roundsUp : (what : Nat) → (num : Int) → (den : Nat) → Bool

/-- Whether the outer points of a warp mesh lie on the centres of the crop's outer pixels or on its edges (R213).
DESIGN CHOICE (safe): log 55. -/
opaque meshCentres : Bool

/-- The source column or row that NEAREST takes at a lamp (R174): the spec does not place the samples. From crop and
destination length and the lamp.
DESIGN CHOICE (safe): log 53. -/
opaque nearest : (crop dst u : Nat) → Nat

/-- What an engine's registers and local data hold after an item (R203): the spec describes no instruction set.
DESIGN CHOICE (safe): log 116. -/
opaque engineRegister : (draw index : Nat) → Word
/-- Here:
DESIGN CHOICE (safe): log 116. -/
opaque engineLocal : (draw index : Nat) → Word

/-- A loop code decoded with DECODE = 1 (R265, R345): whether the fraction of the exact value rounds up.
DEDUCED (unsafe): log 83. -/
opaque decodeUp : (width code : Nat) → Bool

/-- A value outside the working format of correction (R345 gives its width and no behaviour outside it).
DEDUCED (unsafe): log 83. -/
opaque wOverflow : Int → Int

/-- A product of seam gains outside 2.14 (R347).
DEDUCED (unsafe): log 83. -/
opaque seamOverflow : Nat → Nat

/-- Whether the stress an emitter takes in one slot-frame rounds up to the next 2^-20 s (R355 gives the formula and no rounding): D_e,
the slot's length in TCLK cycles, the zone temperature in 1/16 °C and TD.
DESIGN CHOICE (safe): log 85. -/
opaque stressUp : (drive len : Nat) → (temp : Int) → (td : Nat) → Bool

/-- The trim temperature term in codes that the OTP coefficient of a converter asks for at a die reading (R395).
DESIGN CHOICE (safe): log 98. -/
opaque trimTerm : (trim : Nat) → (reading : Int) → Int

/-- Bits a lane shifts where its group has no walk stream, or past the end of it (R375 gives the stream of one slot or line).
DESIGN CHOICE (safe): log 92. -/
opaque walkBeyond : (draw lane index : Nat) → Bool

/-- The address SCAN0 to SCAN5 carry in decoder mode while no line is selected (R384 gives none).
DEDUCED (unsafe): log 93. -/
opaque idleAddress : (draw : Nat) → Nat

/-- A lane counter of 0 decremented by LOOP (R377 gives no value).
DESIGN CHOICE (safe): log 92. -/
opaque counterBelow : (draw : Nat) → Nat

/-- A quotient of colour feedback whose denominator is 0 (R424 gives none): the numerator is given.
DEDUCED (unsafe): log 101. -/
opaque ratOverZero : (numerator : Rat) → Rat

/-- Whether the figure of an E_BUDGET reply rounds up where it is no whole number (R143, R223 give no rounding).
DESIGN CHOICE (safe): log 43. -/
opaque figureUp : (num den : Nat) → Bool

/-- Seconds since the previous save in the header of a save that has none before it (R357).
DESIGN CHOICE (safe): log 87. -/
opaque noSaveBefore : (draw : Nat) → Nat

/-- Whether the version of a CTRL_FW image lies in the PAIR window of the twin partner's firmware (R471): no message of the spec brings
that window.
DESIGN CHOICE (unsafe): log 76. -/
opaque partnerFits : (draw : Nat) → (version : Word) → Bool

/-- The XMSS signature of the device's own key over words, with an index (R474, R475), as 353 words.
PRESUMED (unsafe): log 69. -/
opaque xmssSign : (index : Nat) → List Word → Nat → Word

/-- The X25519 secret of a boot (R283), four words.
PRESUMED (unsafe): log 69. -/
opaque x25519Secret : (draw : Nat) → Nat → Word

/-- A loop key as a sender creates it (R283, R285), four words.
PRESUMED (unsafe): log 69. -/
opaque newKey : (draw : Nat) → Nat → Word

end Sys2Proof.Config
end

