-- ==== Sys2Proof/Machine/Packet.lean ====
section
/-!
DEFINITION. Command packets on the wire: headers (R50 to R52), TARGET (R55), and the check word (R53) over the generic
check-value arithmetic that the check-value units share (R91, R92). Packets are lists of words.
-/
namespace Sys2Proof.Machine

open Sys2Proof

/-! ### Check values -/

/-- One bit into a check-value accumulator of `width` bits: shift left, and add the generator when the bit that falls out
differs from the input bit. -/
def crcBit (width poly acc : Nat) (b : Bool) : Nat :=
  let top := acc.testBit (width - 1)
  let sh := (acc * 2) % 2 ^ width
  if top == b then sh else (sh ^^^ poly) % 2 ^ width

/-- The bits of a byte in the order they are processed (R91, REFIN). -/
def byteBits (refin : Bool) (b : Byte) : List Bool :=
  if refin then (List.range 8).map b.getLsbD else (List.range 8).map b.getMsbD

/-- One byte into an accumulator. -/
def crcByte (width poly : Nat) (refin : Bool) (acc : Nat) (b : Byte) : Nat :=
  (byteBits refin b).foldl (crcBit width poly) acc

/-- Bytes into an accumulator, in order. -/
def crcBytes (width poly : Nat) (refin : Bool) (acc : Nat) (bs : List Byte) : Nat :=
  bs.foldl (crcByte width poly refin) acc

/-- The result read from an accumulator (R91, CTRL_CVUn_RESULT). -/
def crcResult (width : Nat) (refout invert : Bool) (acc : Nat) : Nat :=
  let r := if refout then reverseBits width acc else acc
  if invert then r ^^^ (2 ^ width - 1) else r

/-- The initial value of a packet's check word (R53). -/
def packetInit (seq : Nat) : Nat := 0xFFFFFFFF ^^^ ((seq % 65536) * 0x00010001)

/-- The check word of the words before it (R53): CRC-32C, with SEQ folded into the initial value. -/
def checkWord (seq : Nat) (ws : List Word) : Word :=
  Word.of (crcResult 32 true true (crcBytes 32 0x1EDC6F41 true (packetInit seq) (ws.flatMap Word.bytes)))

/-! ### Word 0 (R50) -/

/-- The fields of word 0 of every packet (R50). -/
structure Head where
  opcode : Nat
  seq : Nat
  len : Nat
  txn : Nat
  kind : Nat
  more : Bool
  quiet : Bool
  relayed : Bool
  resv : Nat
  deriving DecidableEq, Repr

/-- Reads word 0 (R50). -/
def Head.ofWord (w : Word) : Head :=
  { opcode := Word.field w 0 16, seq := Word.field w 16 16, len := Word.field w 32 16, txn := Word.field w 48 8,
    kind := Word.field w 56 2, more := w.getLsbD 58, quiet := w.getLsbD 59, relayed := w.getLsbD 60,
    resv := Word.field w 61 3 }

/-- Writes word 0 (R50). -/
def Head.toWord (h : Head) : Word :=
  Word.of (h.opcode % 65536 + (h.seq % 65536) * 2 ^ 16 + (h.len % 65536) * 2 ^ 32 + (h.txn % 256) * 2 ^ 48 +
    (h.kind % 4) * 2 ^ 56 + h.more.toNat * 2 ^ 58 + h.quiet.toNat * 2 ^ 59 + h.relayed.toNat * 2 ^ 60 +
    (h.resv % 8) * 2 ^ 61)

/-! ### TARGET (R55) -/

/-- The fields of TARGET (R55). -/
structure Target where
  position : Nat
  loop : Nat
  sender : Nat
  scope : Nat
  resv : Nat
  deriving DecidableEq, Repr

/-- Reads a TARGET: the reserved bits 7, 15:14 and 31:18 are gathered in `resv`, which must be 0 (R55). -/
def Target.ofNat (t : Nat) : Target :=
  { position := t % 128, loop := bitsOf t 8 2, sender := bitsOf t 10 4, scope := bitsOf t 16 2,
    resv := bitsOf t 7 1 + bitsOf t 14 2 * 2 + bitsOf t 18 14 * 8 }

/-- Writes a TARGET (R55), its reserved bits 0. -/
def Target.toNat (t : Target) : Nat :=
  t.position % 128 + (t.loop % 4) * 2 ^ 8 + (t.sender % 16) * 2 ^ 10 + (t.scope % 4) * 2 ^ 16

/-- The address of one tile in TARGET form (R52, R55): SCOPE is TILE. -/
def tileTarget (sender loop position : Nat) : Nat := Target.toNat ⟨position, loop, sender, 1, 0⟩

/-- Fields that must be 0 in this scope are 0 (R55). -/
def Target.zerosOk (t : Target) : Bool :=
  t.resv == 0 &&
  match t.scope with
  | 0 => t.position == 0 && t.loop == 0 && t.sender == 0
  | 1 => true
  | 2 => t.position == 0
  | _ => t.position == 0 && t.loop == 0

/-! ### Whole packets -/

/-- A packet of these words, with its check word after them. -/
def sealPacket (seq : Nat) (ws : List Word) : List Word := ws ++ [checkWord seq ws]

/-- A reply (R52): header, status, detail, cookie, responder, payload, check word. -/
def replyPacket (opcode seq txn status detail cookie responder : Nat) (more : Bool) (payload : List Word) : List Word :=
  sealPacket seq
    (Head.toWord ⟨opcode, seq, payload.length, txn, 1, more, false, false, 0⟩ ::
      Word.pack [(0, 16, status), (16, 16, detail), (32, 32, cookie)] ::
      Word.of (responder % 2 ^ 32) :: payload)

/-- An event packet (R52, R72). -/
def eventPacket (code seq severity responder : Nat) (payload : List Word) : List Word :=
  sealPacket seq
    (Head.toWord ⟨code, seq, payload.length, 0, 2, false, false, false, 0⟩ ::
      Word.pack [(0, 16, severity)] :: Word.of (responder % 2 ^ 32) :: payload)

/-- A command packet (R51). -/
def commandPacket (opcode seq txn cookie target : Nat) (quiet relayed : Bool) (payload : List Word) : List Word :=
  sealPacket seq
    (Head.toWord ⟨opcode, seq, payload.length, txn, 0, false, quiet, relayed, 0⟩ ::
      Word.pack [(0, 32, target), (32, 32, cookie)] :: payload)

/-! ### Parcels (R260 to R263, R266) -/

/-- The header of a parcel (R261). -/
structure ParcelHead where
  ty : Nat
  enc : Bool
  key : Nat
  index : Nat
  frame : Nat
  sender : Nat
  loop : Nat
  resv : Nat
  deriving DecidableEq, Repr

/-- Reads a parcel header; the reserved bits 4 and 63:62 are gathered in `resv` (R261). -/
def ParcelHead.ofWord (w : Word) : ParcelHead :=
  { ty := Word.field w 0 4, enc := w.getLsbD 5, key := Word.field w 6 2, index := Word.field w 8 24,
    frame := Word.field w 32 24, sender := Word.field w 56 4, loop := Word.field w 60 2,
    resv := Word.field w 4 1 + Word.field w 62 2 * 2 }

/-- Writes a parcel header, its reserved bits 0 (R261). -/
def ParcelHead.toWord (h : ParcelHead) : Word :=
  Word.of (h.ty % 16 + h.enc.toNat * 2 ^ 5 + (h.key % 4) * 2 ^ 6 + (h.index % 2 ^ 24) * 2 ^ 8 +
    (h.frame % 2 ^ 24) * 2 ^ 32 + (h.sender % 16) * 2 ^ 56 + (h.loop % 4) * 2 ^ 60)

/-- LOOPID (R261). -/
def loopId (loop sender : Nat) : Nat := loop * 16 + sender

/-- The check word of a parcel's words 0 to 30 at a receiver of this LOOPID (R263). -/
def parcelCheck (lid : Nat) (h : ParcelHead) (ws : List Word) : Word :=
  let init := 0xFFFFFFFFFFFFFFFF ^^^ (lid % 64 * 2 ^ 58) ^^^ (h.frame % 2 ^ 24 * 2 ^ 24 + h.index % 2 ^ 24)
  Word.of (crcResult 64 true true (crcBytes 64 0x42F0E1EBA9EA3693 true init (ws.flatMap Word.bytes)))

/-- Parcel types (R262). -/
abbrev ptPixel : Nat := 0
abbrev ptOpen : Nat := 1
abbrev ptCtrl : Nat := 2
abbrev ptTime : Nat := 3
abbrev ptReply : Nat := 4
abbrev ptAbort : Nat := 5
abbrev ptTag : Nat := 6
abbrev ptLink : Nat := 7

/-- Words 0 to 30 of a parcel: the header and up to 30 payload words, filled with 0 (R260). -/
def parcelWords (h : ParcelHead) (payload : List Word) : List Word :=
  h.toWord :: (payload ++ List.replicate (30 - payload.length) 0).take 30

/-- The header of an item's fragment (R266). -/
def itemHead (item : Nat) (first last : Bool) (frag msg : Nat) : Word :=
  Word.pack [(0, 8, item), (8, 1, first.toNat), (9, 1, last.toNat), (16, 16, frag), (32, 32, msg)]

/-- The payloads of an item's fragments, up to 29 body words each (R266). -/
def itemPayloads (item msg : Nat) (body : List Word) : List (List Word) :=
  let parts := if body.isEmpty then [[]] else chunksOf 29 (body.length / 29 + 1) body
  let n := parts.length
  (List.range n).map fun i => itemHead item (i == 0) (i + 1 == n) i msg :: nth parts i []

/-! ### Opcodes (R69), status codes (R71), event codes (R73) -/

/-- Status codes (R71). -/
inductive Status where
  | ok | check | format | len | opcode | target | addr | absent | role | locked | perm | busy | txn | txnFull | noShadow
  | mode | lateTime | range | invalid | budget | lineBuf | state | link | token | timeout | partialDone | auth | conflict
  deriving DecidableEq, Repr

/-- The value of a status code (R71). -/
def Status.code : Status → Nat
  | .ok => 0x00 | .check => 0x01 | .format => 0x02 | .len => 0x03 | .opcode => 0x04 | .target => 0x05 | .addr => 0x06
  | .absent => 0x07 | .role => 0x08 | .locked => 0x09 | .perm => 0x0A | .busy => 0x0B | .txn => 0x0C | .txnFull => 0x0D
  | .noShadow => 0x0E | .mode => 0x0F | .lateTime => 0x10 | .range => 0x11 | .invalid => 0x12 | .budget => 0x13
  | .lineBuf => 0x14 | .state => 0x15 | .link => 0x16 | .token => 0x17 | .timeout => 0x18 | .partialDone => 0x19
  | .auth => 0x1A | .conflict => 0x1B

/-- The status a code stands for (R71). -/
def Status.ofCode (n : Nat) : Option Status :=
  [Status.ok, .check, .format, .len, .opcode, .target, .addr, .absent, .role, .locked, .perm, .busy, .txn, .txnFull, .noShadow, .mode,
    .lateTime, .range, .invalid, .budget, .lineBuf, .state, .link, .token, .timeout, .partialDone, .auth, .conflict].find? fun s => s.code == n

/-- Event codes (R73). -/
inductive EvCode where
  | capacity | fault | safe | thermal | clock | time | link | token | tile | lamp | picture | cal | txn | image | lost
  deriving DecidableEq, Repr

/-- The value of an event code (R73). -/
def EvCode.code : EvCode → Nat
  | .capacity => 0x8001 | .fault => 0x8002 | .safe => 0x8003 | .thermal => 0x8004 | .clock => 0x8005 | .time => 0x8006
  | .link => 0x8007 | .token => 0x8008 | .tile => 0x8009 | .lamp => 0x800A | .picture => 0x800B | .cal => 0x800C
  | .txn => 0x800D | .image => 0x800E | .lost => 0x800F

/-- The event code with this value. -/
def EvCode.ofCode (n : Nat) : Option EvCode :=
  [EvCode.capacity, .fault, .safe, .thermal, .clock, .time, .link, .token, .tile, .lamp, .picture, .cal, .txn, .image, .lost].find?
    fun e => e.code == n

/-- The class bit of an event code (R73); EV_LOST has none and is always delivered. -/
def EvCode.classBit : EvCode → Nat
  | .capacity => 0 | .fault => 1 | .safe => 1 | .thermal => 2 | .clock => 3 | .time => 3 | .link => 4 | .token => 4
  | .tile => 5 | .lamp => 6 | .picture => 7 | .cal => 8 | .txn => 9 | .image => 10 | .lost => 16

/-- Event severities (R52). -/
inductive Severity where
  | info | warning | fault | safety
  deriving DecidableEq, Repr

/-- The value of a severity (R52). -/
def Severity.code : Severity → Nat
  | .info => 0 | .warning => 1 | .fault => 2 | .safety => 3

/-- The command opcodes (R69). -/
inductive Op where
  | ping | getCaps | getState | readReg | writeReg | writeField | memRead | memWrite | dmaIn | dmaOut | txnBegin | txnCommit
  | txnRollback | txnStatus | eventSubscribe | cvRun | resetRegion | resetDevice | powerState | locate | loopEnum
  | tileStatus | tablePush | tokenStatus | tokenYield | imageLoad | imageVerify | imageActivate | attest | bootLock | calRun
  | ledgerSave | timeGet
  deriving DecidableEq, Repr

/-- The value of an opcode (R69). -/
def Op.code : Op → Nat
  | .ping => 0x01 | .getCaps => 0x02 | .getState => 0x03 | .readReg => 0x10 | .writeReg => 0x11 | .writeField => 0x12
  | .memRead => 0x18 | .memWrite => 0x19 | .dmaIn => 0x1A | .dmaOut => 0x1B | .txnBegin => 0x20 | .txnCommit => 0x21
  | .txnRollback => 0x22 | .txnStatus => 0x23 | .eventSubscribe => 0x30 | .cvRun => 0x38 | .resetRegion => 0x40
  | .resetDevice => 0x41 | .powerState => 0x42 | .locate => 0x48 | .loopEnum => 0x50 | .tileStatus => 0x51
  | .tablePush => 0x52 | .tokenStatus => 0x58 | .tokenYield => 0x59 | .imageLoad => 0x60 | .imageVerify => 0x61
  | .imageActivate => 0x62 | .attest => 0x63 | .bootLock => 0x64 | .calRun => 0x70 | .ledgerSave => 0x71 | .timeGet => 0x78

/-- Every opcode (R69). -/
def Op.all : List Op :=
  [.ping, .getCaps, .getState, .readReg, .writeReg, .writeField, .memRead, .memWrite, .dmaIn, .dmaOut, .txnBegin,
   .txnCommit, .txnRollback, .txnStatus, .eventSubscribe, .cvRun, .resetRegion, .resetDevice, .powerState, .locate,
   .loopEnum, .tileStatus, .tablePush, .tokenStatus, .tokenYield, .imageLoad, .imageVerify, .imageActivate, .attest,
   .bootLock, .calRun, .ledgerSave, .timeGet]

/-- The opcode with this value: none for event codes and values missing from R69 (R70). -/
def Op.ofCode (n : Nat) : Option Op := Op.all.find? fun o => o.code == n

/-- The payload lengths an opcode takes: least and greatest (R69, R82). -/
def Op.lenRange : Op → Nat × Nat
  | .ping => (0, 0) | .getCaps => (0, 0) | .getState => (0, 0) | .readReg => (2, 2) | .writeReg => (2, 1021)
  | .writeField => (3, 3) | .memRead => (2, 2) | .memWrite => (2, 1021) | .dmaIn => (4, 4) | .dmaOut => (4, 4)
  | .txnBegin => (0, 0) | .txnCommit => (1, 3) | .txnRollback => (0, 0) | .txnStatus => (0, 0) | .eventSubscribe => (1, 1)
  | .cvRun => (4, 4) | .resetRegion => (1, 1) | .resetDevice => (0, 0) | .powerState => (1, 1) | .locate => (1, 1)
  | .loopEnum => (1, 1) | .tileStatus => (0, 0) | .tablePush => (1, 1) | .tokenStatus => (0, 0) | .tokenYield => (0, 0)
  | .imageLoad => (4, 4) | .imageVerify => (1, 1) | .imageActivate => (1, 1) | .attest => (4, 4) | .bootLock => (0, 0)
  | .calRun => (1, 1) | .ledgerSave => (0, 0) | .timeGet => (0, 0)

/-- The length of a payload fits its opcode: a TXN_COMMIT has 1 or 3 words (R69). -/
def Op.lenOk (o : Op) (n : Nat) : Bool := o.lenRange.1 ≤ n && n ≤ o.lenRange.2 && !(o == .txnCommit && n == 2)

/-- The read class (R65). -/
def Op.readClass : Op → Bool
  | .ping | .getCaps | .getState | .readReg | .memRead | .txnStatus | .tileStatus | .tokenStatus | .timeGet
  | .eventSubscribe | .locate => true
  | _ => false

/-- Whether an opcode is transactional (R69, column Transactional). -/
def Op.transactional : Op → Bool
  | .readReg | .writeReg | .writeField | .txnBegin | .txnCommit | .txnRollback => true
  | _ => false

end Sys2Proof.Machine
end

