-- ==== Sys2Proof/Machine/Regs.lean ====
section
/-!
DEFINITION. The register map (R8, R9, R18, R19): the address of every register the spec lays out, the place of every
field, and one table that gives each field its type, its reset value and the values a write may give it. The rows follow
the register tables of the chapters. A reset value of 0 stands for every field whose reset comes from a strap, a fuse, the
flash, the variant or a rule: the boot sequence writes those (Machine/Chip.lean).
-/
namespace Sys2Proof.Machine

/-- Field types (R9). -/
inductive FieldType where
  | rw | ro | w1c | rws | rwl | wo
  deriving DecidableEq, Repr

/-- The unit a register belongs to (R7, R20); the register's index in its family says which one of several. -/
inductive UnitKind where
  | alwaysK | senderK | tileK | vinK | gbeK | audioK | ingestK | compositorK | pipeK | scalerK | basinK | ovlK | loopK | lampK | memPortK
  deriving DecidableEq, Repr

/-- The place of one field: the register's address, the lowest bit and the width. -/
structure Fld where
  addr : Nat
  lo : Nat
  width : Nat
  deriving DecidableEq, Repr

/-- One field of a register table: lowest bit, width, type, reset value, and the ranges a write may give it (none: any). -/
structure FieldSpec where
  lo : Nat
  width : Nat
  ty : FieldType
  reset : Nat
  allowed : List (Nat × Nat)
  deriving DecidableEq, Repr

/-- A field specification; most fields take every value. -/
def fs (lo width : Nat) (ty : FieldType) (reset : Nat) (allowed : List (Nat × Nat) := []) : FieldSpec :=
  ⟨lo, width, ty, reset, allowed⟩

/-- One register, or a family of `count` registers `stride` bytes apart numbered from `first`. -/
structure RegFam where
  name : String
  base : Nat
  stride : Nat
  count : Nat
  first : Nat
  unit : UnitKind
  fields : List FieldSpec
  deriving DecidableEq, Repr

/-! ### Register addresses -/

abbrev R.KEEP_CAP0 : Nat := 0xF000000100
abbrev R.KEEP_CAP1 : Nat := 0xF000000108
abbrev R.KEEP_UID_LO : Nat := 0xF000000110
abbrev R.KEEP_UID_HI : Nat := 0xF000000118
abbrev R.KEEP_INSVC : Nat := 0xF000000120
abbrev R.CTRL_PATH_CFG : Nat := 0xF001000100
abbrev R.CTRL_TXN_STAT : Nat := 0xF001000200
abbrev R.CTRL_TXN_OPEN : Nat := 0xF001000208
abbrev R.CTRL_TXN_CFG : Nat := 0xF001000210
abbrev R.CTRL_CMD_STAT : Nat := 0xF001000218
abbrev R.CTRL_CVU_CFG (n : Nat) : Nat := 0xF001001000 + 0x40 * n
abbrev R.CTRL_CVU_POLY (n : Nat) : Nat := 0xF001001008 + 0x40 * n
abbrev R.CTRL_CVU_INIT (n : Nat) : Nat := 0xF001001010 + 0x40 * n
abbrev R.CTRL_CVU_D8 (n : Nat) : Nat := 0xF001001018 + 0x40 * n
abbrev R.CTRL_CVU_D16 (n : Nat) : Nat := 0xF001001020 + 0x40 * n
abbrev R.CTRL_CVU_D32 (n : Nat) : Nat := 0xF001001028 + 0x40 * n
abbrev R.CTRL_CVU_D64 (n : Nat) : Nat := 0xF001001030 + 0x40 * n
abbrev R.CTRL_CVU_RESULT (n : Nat) : Nat := 0xF001001038 + 0x40 * n
abbrev R.KEEP_AMCLK_CFG : Nat := 0xF000000208
abbrev R.KEEP_SSC_CFG : Nat := 0xF000000220
abbrev R.KEEP_GATE_RUN : Nat := 0xF000000228
abbrev R.KEEP_GATE_SLEEP : Nat := 0xF000000230
abbrev R.KEEP_GATE_DEEP : Nat := 0xF000000238
abbrev R.KEEP_RST_CAUSE : Nat := 0xF000000248
abbrev R.KEEP_SVC_CTRL : Nat := 0xF000000250
abbrev R.KEEP_SVC_STAT : Nat := 0xF000000258
abbrev R.KEEP_CLK_CFG : Nat := 0xF000000200
abbrev R.KEEP_CLK_STAT : Nat := 0xF000000210
abbrev R.KEEP_CLK_MON : Nat := 0xF000000218
abbrev R.MEM_PORT_CFG (n : Nat) : Nat := 0xF002001000 + 0x10 * n
abbrev R.MEM_PORT_STAT (n : Nat) : Nat := 0xF002001008 + 0x10 * n
abbrev R.MEM_RH_CFG : Nat := 0xF002000200
abbrev R.MEM_CFG : Nat := 0xF002000100
abbrev R.MEM_INFO : Nat := 0xF002000108
abbrev R.MEM_STAT : Nat := 0xF002000110
abbrev R.MEM_ERR_CNT : Nat := 0xF002000118
abbrev R.MEM_ERR_ADDR : Nat := 0xF002000120
abbrev R.INGEST_VIN_CFG (n : Nat) : Nat := 0xF003000100 + 0x20 * n
abbrev R.INGEST_VIN_MODE (n : Nat) : Nat := 0xF003000108 + 0x20 * n
abbrev R.INGEST_VIN_STAT (n : Nat) : Nat := 0xF003000110 + 0x20 * n
abbrev R.INGEST_FLOW_DST (n : Nat) : Nat := 0xF003001000 + 0x20 * n
abbrev R.INGEST_FLOW_FMT (n : Nat) : Nat := 0xF003001008 + 0x20 * n
abbrev R.INGEST_FLOW_STAT (n : Nat) : Nat := 0xF003001010 + 0x20 * n
abbrev R.INGEST_ANC_RING : Nat := 0xF003001800
abbrev R.INGEST_BUDGET : Nat := 0xF003000080
abbrev R.INGEST_SRC_BASE (n : Nat) : Nat := 0xF003002000 + 0x20 * n
abbrev R.INGEST_SRC_CFG (n : Nat) : Nat := 0xF003002008 + 0x20 * n
abbrev R.INGEST_SRC_GEOM (n : Nat) : Nat := 0xF003002010 + 0x20 * n
abbrev R.INGEST_SRC_STAT (n : Nat) : Nat := 0xF003002018 + 0x20 * n
abbrev R.INGEST_AUD_CFG : Nat := 0xF003003000
abbrev R.INGEST_AOUT_CFG (n : Nat) : Nat := 0xF003003010 + 0x8 * n
abbrev R.INGEST_AIN_CFG : Nat := 0xF003003030
abbrev R.INGEST_ACH_CFG (n : Nat) : Nat := 0xF003003040 + 0x8 * n
abbrev R.INGEST_AUD_STAT : Nat := 0xF003003100
abbrev R.COMPOSE_CFG : Nat := 0xF004000100
abbrev R.COMPOSE_BG : Nat := 0xF004000108
abbrev R.COMPOSE_HDR : Nat := 0xF004000110
abbrev R.LAYER_SRC (n : Nat) : Nat := 0xF004004000 + 0x40 * n
abbrev R.LAYER_CROP (n : Nat) : Nat := 0xF004004008 + 0x40 * n
abbrev R.LAYER_DST (n : Nat) : Nat := 0xF004004010 + 0x40 * n
abbrev R.LAYER_MIX (n : Nat) : Nat := 0xF004004018 + 0x40 * n
abbrev R.LAYER_STAT (n : Nat) : Nat := 0xF004004020 + 0x40 * n
abbrev R.COMPOSE_SCL_INFO (n : Nat) : Nat := 0xF004000300 + 0x8 * n
abbrev R.COMPOSE_PIPE_CFG (n : Nat) : Nat := 0xF004000200 + 0x10 * n
abbrev R.COMPOSE_LUT_E (n : Nat) : Nat := 0xF004010000 + 0x8 * n
abbrev R.COMPOSE_STAT : Nat := 0xF004000180
abbrev R.COMPOSE_PIPE_STAT (n : Nat) : Nat := 0xF004000208 + 0x10 * n
abbrev R.COMPOSE_SADDLE : Nat := 0xF004000118
abbrev R.COMPOSE_SREC_POS (n : Nat) : Nat := 0xF004006000 + 0x40 * n
abbrev R.COMPOSE_SREC_CFG (n : Nat) : Nat := 0xF004006008 + 0x40 * n
abbrev R.COMPOSE_SREC_EXPECT (n : Nat) : Nat := 0xF004006010 + 0x40 * n
abbrev R.COMPOSE_SREC_STAT (n : Nat) : Nat := 0xF004006018 + 0x40 * n
abbrev R.COMPOSE_SREC_VAL (n : Nat) : Nat := 0xF004006020 + 0x40 * n
abbrev R.COMPOSE_SREC_FRAME (n : Nat) : Nat := 0xF004006028 + 0x40 * n
abbrev R.COMPOSE_KLIB : Nat := 0xF004000700
abbrev R.COMPOSE_KLOAD : Nat := 0xF004000708
abbrev R.COMPOSE_KERR : Nat := 0xF004000710
abbrev R.COMPOSE_BASIN_STAT (n : Nat) : Nat := 0xF004000800 + 0x10 * n
abbrev R.COMPOSE_BASIN_EPOCH (n : Nat) : Nat := 0xF004000808 + 0x10 * n
abbrev R.COMPOSE_KSTAGE_CFG (n : Nat) : Nat := 0xF004007000 + 0x20 * n
abbrev R.COMPOSE_KSTAGE_PARAM (n : Nat) : Nat := 0xF004007008 + 0x20 * n
abbrev R.COMPOSE_KSTAGE_STAT (n : Nat) : Nat := 0xF004007010 + 0x20 * n
abbrev R.COMPOSE_SLOTS : Nat := 0xF004000400
abbrev R.COMPOSE_SLOT_TIME (n : Nat) : Nat := 0xF004000410 + 0x10 * n
abbrev R.COMPOSE_SLOT_CFG (n : Nat) : Nat := 0xF004000418 + 0x10 * n
abbrev R.COMPOSE_CAM_CFG (n : Nat) : Nat := 0xF004000500 + 0x20 * n
abbrev R.COMPOSE_CAM_OPEN (n : Nat) : Nat := 0xF004000508 + 0x20 * n
abbrev R.COMPOSE_CAM_READ (n : Nat) : Nat := 0xF004000510 + 0x20 * n
abbrev R.COMPOSE_SLOT_MASK : Nat := 0xF004000408
abbrev R.COMPOSE_SLOT_STAT : Nat := 0xF0040004C0
abbrev R.LINK_CFG : Nat := 0xF005000100
abbrev R.LINK_OVL_STAT (n : Nat) : Nat := 0xF005000200 + 0x20 * n
abbrev R.LINK_OVL_CNT (n : Nat) : Nat := 0xF005000208 + 0x20 * n
abbrev R.LINK_OVL_PEER (n : Nat) : Nat := 0xF005000210 + 0x20 * n
abbrev R.LINK_LOOP_CFG (n : Nat) : Nat := 0xF005000400 + 0x20 * n
abbrev R.LINK_LOOP_STAT (n : Nat) : Nat := 0xF005000408 + 0x20 * n
abbrev R.LINK_TILE_STAT : Nat := 0xF005000600
abbrev R.LINK_TILE_CNT : Nat := 0xF005000608
abbrev R.CTRL_PAIR_CFG : Nat := 0xF001000300
abbrev R.CTRL_PAIR_STAT : Nat := 0xF001000308
abbrev R.CTRL_PAIR_TERM : Nat := 0xF001000310
abbrev R.CTRL_PAIR_CNT : Nat := 0xF001000318
abbrev R.TIME_NOW_S : Nat := 0xF007000100
abbrev R.TIME_NOW_NS : Nat := 0xF007000108
abbrev R.TIME_CFG : Nat := 0xF007000200
abbrev R.TIME_PTP_CFG : Nat := 0xF007000208
abbrev R.TIME_FRAME_TF : Nat := 0xF007000300
abbrev R.TIME_FRAME_BASE_S : Nat := 0xF007000308
abbrev R.TIME_FRAME_BASE_NS : Nat := 0xF007000310
abbrev R.TIME_FRAME_BASE_N : Nat := 0xF007000318
abbrev R.TIME_FSYNC_IN_CFG : Nat := 0xF007000400
abbrev R.TIME_FSYNC_OUT_CFG (n : Nat) : Nat := 0xF007000410 + 0x8 * n
abbrev R.TIME_STAT : Nat := 0xF007000500
abbrev R.TIME_SERVO : Nat := 0xF007000508
abbrev R.TIME_PTP_INFO : Nat := 0xF007000510
abbrev R.TIME_PTP_GM : Nat := 0xF007000518
abbrev R.TIME_FSYNC_STAT : Nat := 0xF007000520
abbrev R.TIME_LOOP_SIDE (n : Nat) : Nat := 0xF007000600 + 0x8 * n
abbrev R.LAMP_COR_CFG : Nat := 0xF006000100
abbrev R.LAMP_TBL_INFO : Nat := 0xF006000108
abbrev R.LAMP_TBL_EPOCH : Nat := 0xF006000110
abbrev R.LAMP_COR_GAIN : Nat := 0xF006000120
abbrev R.LAMP_COR_TEMP : Nat := 0xF006000128
abbrev R.LAMP_COR_STAT : Nat := 0xF006000180
abbrev R.LAMP_COR_CNT : Nat := 0xF006000188
abbrev R.LAMP_COR_SHOW : Nat := 0xF006000190
abbrev R.LAMP_LEDGER_CFG : Nat := 0xF006000200
abbrev R.LAMP_LEDGER_STAT : Nat := 0xF006000208
abbrev R.LAMP_LEDGER_TIME : Nat := 0xF006000210
abbrev R.LAMP_MAP_CTRL : Nat := 0xF006000220
abbrev R.LAMP_MAP_STAT : Nat := 0xF006000228
abbrev R.LAMP_MAP_E (n : Nat) : Nat := 0xF006008000 + 0x8 * n
abbrev R.LAMP_RAIL_CFG (n : Nat) : Nat := 0xF006000400 + 0x20 * n
abbrev R.LAMP_RAIL_LIM (n : Nat) : Nat := 0xF006000408 + 0x20 * n
abbrev R.LAMP_RAIL_STAT (n : Nat) : Nat := 0xF006000410 + 0x20 * n
abbrev R.LAMP_TRIM_CFG (n : Nat) : Nat := 0xF006000600 + 0x8 * n
abbrev R.LAMP_DRV_CFG : Nat := 0xF006000300
abbrev R.LAMP_FAULT_CFG : Nat := 0xF006000308
abbrev R.LAMP_LPROG_INFO : Nat := 0xF006000310
abbrev R.LAMP_DRV_STAT : Nat := 0xF006000318
abbrev R.LAMP_DIAG_STAT : Nat := 0xF006000320
abbrev R.LAMP_DIAG_CNT : Nat := 0xF006000328
abbrev R.LAMP_FAULT_CTRL : Nat := 0xF006000330
abbrev R.LAMP_CAP_STAT : Nat := 0xF006000338
abbrev R.CTRL_CAP_CFG : Nat := 0xF001000400
abbrev R.CTRL_CAP_EXT : Nat := 0xF001000418
abbrev R.CTRL_CAP_STAT : Nat := 0xF001000408
abbrev R.CTRL_CAP_CTRL : Nat := 0xF001000410
abbrev R.LAMP_PHOTO_CFG : Nat := 0xF006000700
abbrev R.LAMP_PHOTO_LIM : Nat := 0xF006000708
abbrev R.LAMP_PHOTO_CTRL : Nat := 0xF006000710
abbrev R.LAMP_PHOTO_VAL (n : Nat) : Nat := 0xF006000780 + 0x10 * n
abbrev R.LAMP_PHOTO_K (n : Nat) : Nat := 0xF006000788 + 0x10 * n
abbrev R.LAMP_CAL_STAT : Nat := 0xF006000800
abbrev R.LAMP_CAL_INFO : Nat := 0xF006000808
abbrev R.LAMP_CAL_TIME : Nat := 0xF006000810
abbrev R.LAMP_CAL_TZ : Nat := 0xF006000818
abbrev R.LAMP_PHOTO_FB : Nat := 0xF006000820
abbrev R.LAMP_HKA_RAIL (n : Nat) : Nat := 0xF006000840 + 0x8 * n
abbrev R.KEEP_THERM_LIM : Nat := 0xF000000300
abbrev R.KEEP_THERM_CFG : Nat := 0xF000000308
abbrev R.KEEP_SAFE_CFG : Nat := 0xF000000408
abbrev R.KEEP_THERM_STAT : Nat := 0xF000000310
abbrev R.KEEP_TSENS (n : Nat) : Nat := 0xF000000340 + 0x8 * n
abbrev R.KEEP_SAFE_STAT : Nat := 0xF000000400
abbrev R.CTRL_BOOT_STAT : Nat := 0xF001000800
abbrev R.CTRL_IMG_INFO (n : Nat) : Nat := 0xF001000880 + 0x8 * n
abbrev R.CTRL_IMG_VER (n : Nat) : Nat := 0xF001000A00 + 0x8 * n
abbrev R.CTRL_FW_VER : Nat := 0xF001000B00
abbrev R.CTRL_FW_WIN_T : Nat := 0xF001000B08
abbrev R.CTRL_FW_WIN_S : Nat := 0xF001000B10
abbrev R.CTRL_FW_WIN_P : Nat := 0xF001000B18
abbrev R.KEEP_XMSS_INFO : Nat := 0xF000000500
abbrev R.KEEP_KEY_INFO : Nat := 0xF000000508
abbrev R.KEEP_IKEY_CTRL : Nat := 0xF000000510
abbrev R.KEEP_IKEY_D (n : Nat) : Nat := 0xF000000540 + 0x8 * n
abbrev R.KEEP_STRAP_STAT : Nat := 0xF000000600

/-! ### Fields -/

abbrev F.KEEP_CAP0_BASINS : Fld := ⟨R.KEEP_CAP0, 0, 5⟩
abbrev F.KEEP_CAP0_VIN_MASK : Fld := ⟨R.KEEP_CAP0, 8, 4⟩
abbrev F.KEEP_CAP0_GBE_MASK : Fld := ⟨R.KEEP_CAP0, 12, 2⟩
abbrev F.KEEP_CAP0_PCIE : Fld := ⟨R.KEEP_CAP0, 14, 1⟩
abbrev F.KEEP_CAP0_AUDIO : Fld := ⟨R.KEEP_CAP0, 15, 1⟩
abbrev F.KEEP_CAP0_HDCP : Fld := ⟨R.KEEP_CAP0, 16, 1⟩
abbrev F.KEEP_CAP0_OVL_MASK : Fld := ⟨R.KEEP_CAP0, 24, 8⟩
abbrev F.KEEP_CAP0_DDR_MASK : Fld := ⟨R.KEEP_CAP0, 32, 2⟩
abbrev F.KEEP_CAP0_DDR_MAX_GIB : Fld := ⟨R.KEEP_CAP0, 36, 8⟩
abbrev F.KEEP_CAP0_VARIANT : Fld := ⟨R.KEEP_CAP0, 48, 8⟩
abbrev F.KEEP_CAP1_ROLE : Fld := ⟨R.KEEP_CAP1, 0, 2⟩
abbrev F.KEEP_CAP1_PAIR_PREF : Fld := ⟨R.KEEP_CAP1, 2, 1⟩
abbrev F.KEEP_CAP1_ROLE_FORCED : Fld := ⟨R.KEEP_CAP1, 3, 1⟩
abbrev F.KEEP_CAP1_STEPPING : Fld := ⟨R.KEEP_CAP1, 8, 8⟩
abbrev F.KEEP_CAP1_LOOPS : Fld := ⟨R.KEEP_CAP1, 16, 3⟩
abbrev F.KEEP_CAP1_TILES_MAX : Fld := ⟨R.KEEP_CAP1, 32, 10⟩
abbrev F.KEEP_CAP1_SLOTS_MAX : Fld := ⟨R.KEEP_CAP1, 48, 4⟩
abbrev F.KEEP_UID_LO_UID : Fld := ⟨R.KEEP_UID_LO, 0, 64⟩
abbrev F.KEEP_UID_HI_UID : Fld := ⟨R.KEEP_UID_HI, 0, 64⟩
abbrev F.KEEP_INSVC_BASINS_IN : Fld := ⟨R.KEEP_INSVC, 0, 5⟩
abbrev F.KEEP_INSVC_ENGINES_IN : Fld := ⟨R.KEEP_INSVC, 8, 9⟩
abbrev F.KEEP_INSVC_LANES : Fld := ⟨R.KEEP_INSVC, 32, 24⟩
abbrev F.KEEP_INSVC_OVERBUDGET : Fld := ⟨R.KEEP_INSVC, 56, 1⟩
abbrev F.CTRL_PATH_CFG_PCIE_EN : Fld := ⟨R.CTRL_PATH_CFG, 0, 1⟩
abbrev F.CTRL_PATH_CFG_ETH_EN : Fld := ⟨R.CTRL_PATH_CFG, 1, 1⟩
abbrev F.CTRL_PATH_CFG_SPI_EN : Fld := ⟨R.CTRL_PATH_CFG, 2, 1⟩
abbrev F.CTRL_PATH_CFG_ETH_WRITE : Fld := ⟨R.CTRL_PATH_CFG, 3, 1⟩
abbrev F.CTRL_PATH_CFG_SPI_WRITE : Fld := ⟨R.CTRL_PATH_CFG, 4, 1⟩
abbrev F.CTRL_PATH_CFG_LOCAL_WRITE : Fld := ⟨R.CTRL_PATH_CFG, 5, 1⟩
abbrev F.CTRL_PATH_CFG_ETH_UDP_PORT : Fld := ⟨R.CTRL_PATH_CFG, 16, 16⟩
abbrev F.CTRL_TXN_STAT_COMMIT_LATE : Fld := ⟨R.CTRL_TXN_STAT, 0, 1⟩
abbrev F.CTRL_TXN_STAT_TXN_TIMEOUT : Fld := ⟨R.CTRL_TXN_STAT, 1, 1⟩
abbrev F.CTRL_TXN_STAT_TXN_PATH_LOST : Fld := ⟨R.CTRL_TXN_STAT, 2, 1⟩
abbrev F.CTRL_TXN_STAT_VALIDATE_FAIL : Fld := ⟨R.CTRL_TXN_STAT, 3, 1⟩
abbrev F.CTRL_TXN_STAT_WALL_PARTIAL : Fld := ⟨R.CTRL_TXN_STAT, 4, 1⟩
abbrev F.CTRL_TXN_STAT_AGAIN : Fld := ⟨R.CTRL_TXN_STAT, 63, 1⟩
abbrev F.CTRL_TXN_OPEN_OPEN : Fld := ⟨R.CTRL_TXN_OPEN, 0, 10⟩
abbrev F.CTRL_TXN_OPEN_PENDING : Fld := ⟨R.CTRL_TXN_OPEN, 16, 10⟩
abbrev F.CTRL_TXN_CFG_TIMEOUT_MS : Fld := ⟨R.CTRL_TXN_CFG, 0, 16⟩
abbrev F.CTRL_CMD_STAT_CHECK_ERR : Fld := ⟨R.CTRL_CMD_STAT, 0, 1⟩
abbrev F.CTRL_CMD_STAT_FORMAT_ERR : Fld := ⟨R.CTRL_CMD_STAT, 1, 1⟩
abbrev F.CTRL_CMD_STAT_QUEUE_FULL : Fld := ⟨R.CTRL_CMD_STAT, 2, 1⟩
abbrev F.CTRL_CMD_STAT_EVENT_LOST : Fld := ⟨R.CTRL_CMD_STAT, 3, 1⟩
abbrev F.CTRL_CMD_STAT_AGAIN : Fld := ⟨R.CTRL_CMD_STAT, 63, 1⟩
abbrev F.CTRL_CVU_CFG_WIDTH (n : Nat) : Fld := ⟨R.CTRL_CVU_CFG n, 0, 7⟩
abbrev F.CTRL_CVU_CFG_REFIN (n : Nat) : Fld := ⟨R.CTRL_CVU_CFG n, 8, 1⟩
abbrev F.CTRL_CVU_CFG_REFOUT (n : Nat) : Fld := ⟨R.CTRL_CVU_CFG n, 9, 1⟩
abbrev F.CTRL_CVU_CFG_INVERT (n : Nat) : Fld := ⟨R.CTRL_CVU_CFG n, 10, 1⟩
abbrev F.CTRL_CVU_CFG_BUSY (n : Nat) : Fld := ⟨R.CTRL_CVU_CFG n, 11, 1⟩
abbrev F.CTRL_CVU_POLY_POLY (n : Nat) : Fld := ⟨R.CTRL_CVU_POLY n, 0, 64⟩
abbrev F.CTRL_CVU_INIT_INIT (n : Nat) : Fld := ⟨R.CTRL_CVU_INIT n, 0, 64⟩
abbrev F.CTRL_CVU_D8_DATA (n : Nat) : Fld := ⟨R.CTRL_CVU_D8 n, 0, 8⟩
abbrev F.CTRL_CVU_D16_DATA (n : Nat) : Fld := ⟨R.CTRL_CVU_D16 n, 0, 16⟩
abbrev F.CTRL_CVU_D32_DATA (n : Nat) : Fld := ⟨R.CTRL_CVU_D32 n, 0, 32⟩
abbrev F.CTRL_CVU_D64_DATA (n : Nat) : Fld := ⟨R.CTRL_CVU_D64 n, 0, 64⟩
abbrev F.CTRL_CVU_RESULT_RESULT (n : Nat) : Fld := ⟨R.CTRL_CVU_RESULT n, 0, 64⟩
abbrev F.KEEP_AMCLK_CFG_INT : Fld := ⟨R.KEEP_AMCLK_CFG, 0, 9⟩
abbrev F.KEEP_AMCLK_CFG_NUM : Fld := ⟨R.KEEP_AMCLK_CFG, 16, 16⟩
abbrev F.KEEP_AMCLK_CFG_DEN : Fld := ⟨R.KEEP_AMCLK_CFG, 32, 16⟩
abbrev F.KEEP_AMCLK_CFG_EN : Fld := ⟨R.KEEP_AMCLK_CFG, 48, 1⟩
abbrev F.KEEP_SSC_CFG_DEPTH : Fld := ⟨R.KEEP_SSC_CFG, 0, 5⟩
abbrev F.KEEP_SSC_CFG_RATE_KHZ : Fld := ⟨R.KEEP_SSC_CFG, 8, 8⟩
abbrev F.KEEP_GATE_RUN_BASIN : Fld := ⟨R.KEEP_GATE_RUN, 0, 16⟩
abbrev F.KEEP_GATE_RUN_SCALER : Fld := ⟨R.KEEP_GATE_RUN, 16, 8⟩
abbrev F.KEEP_GATE_RUN_BLEND : Fld := ⟨R.KEEP_GATE_RUN, 24, 4⟩
abbrev F.KEEP_GATE_RUN_VIN : Fld := ⟨R.KEEP_GATE_RUN, 28, 4⟩
abbrev F.KEEP_GATE_RUN_GBE : Fld := ⟨R.KEEP_GATE_RUN, 32, 2⟩
abbrev F.KEEP_GATE_RUN_PCIE : Fld := ⟨R.KEEP_GATE_RUN, 34, 1⟩
abbrev F.KEEP_GATE_RUN_AUDIO : Fld := ⟨R.KEEP_GATE_RUN, 35, 1⟩
abbrev F.KEEP_GATE_RUN_OVL : Fld := ⟨R.KEEP_GATE_RUN, 36, 8⟩
abbrev F.KEEP_GATE_RUN_DDR : Fld := ⟨R.KEEP_GATE_RUN, 44, 2⟩
abbrev F.KEEP_GATE_RUN_LANES : Fld := ⟨R.KEEP_GATE_RUN, 46, 1⟩
abbrev F.KEEP_GATE_RUN_RAILS : Fld := ⟨R.KEEP_GATE_RUN, 47, 1⟩
abbrev F.KEEP_GATE_RUN_PHOTO : Fld := ⟨R.KEEP_GATE_RUN, 48, 1⟩
abbrev F.KEEP_GATE_RUN_PTP : Fld := ⟨R.KEEP_GATE_RUN, 49, 1⟩
abbrev F.KEEP_GATE_RUN_MGMT : Fld := ⟨R.KEEP_GATE_RUN, 50, 1⟩
abbrev F.KEEP_GATE_RUN_SPI : Fld := ⟨R.KEEP_GATE_RUN, 51, 1⟩
abbrev F.KEEP_GATE_RUN_CTRL : Fld := ⟨R.KEEP_GATE_RUN, 52, 1⟩
abbrev F.KEEP_GATE_SLEEP_BASIN : Fld := ⟨R.KEEP_GATE_SLEEP, 0, 16⟩
abbrev F.KEEP_GATE_SLEEP_SCALER : Fld := ⟨R.KEEP_GATE_SLEEP, 16, 8⟩
abbrev F.KEEP_GATE_SLEEP_BLEND : Fld := ⟨R.KEEP_GATE_SLEEP, 24, 4⟩
abbrev F.KEEP_GATE_SLEEP_VIN : Fld := ⟨R.KEEP_GATE_SLEEP, 28, 4⟩
abbrev F.KEEP_GATE_SLEEP_GBE : Fld := ⟨R.KEEP_GATE_SLEEP, 32, 2⟩
abbrev F.KEEP_GATE_SLEEP_PCIE : Fld := ⟨R.KEEP_GATE_SLEEP, 34, 1⟩
abbrev F.KEEP_GATE_SLEEP_AUDIO : Fld := ⟨R.KEEP_GATE_SLEEP, 35, 1⟩
abbrev F.KEEP_GATE_SLEEP_OVL : Fld := ⟨R.KEEP_GATE_SLEEP, 36, 8⟩
abbrev F.KEEP_GATE_SLEEP_DDR : Fld := ⟨R.KEEP_GATE_SLEEP, 44, 2⟩
abbrev F.KEEP_GATE_SLEEP_LANES : Fld := ⟨R.KEEP_GATE_SLEEP, 46, 1⟩
abbrev F.KEEP_GATE_SLEEP_RAILS : Fld := ⟨R.KEEP_GATE_SLEEP, 47, 1⟩
abbrev F.KEEP_GATE_SLEEP_PHOTO : Fld := ⟨R.KEEP_GATE_SLEEP, 48, 1⟩
abbrev F.KEEP_GATE_SLEEP_PTP : Fld := ⟨R.KEEP_GATE_SLEEP, 49, 1⟩
abbrev F.KEEP_GATE_SLEEP_MGMT : Fld := ⟨R.KEEP_GATE_SLEEP, 50, 1⟩
abbrev F.KEEP_GATE_SLEEP_SPI : Fld := ⟨R.KEEP_GATE_SLEEP, 51, 1⟩
abbrev F.KEEP_GATE_SLEEP_CTRL : Fld := ⟨R.KEEP_GATE_SLEEP, 52, 1⟩
abbrev F.KEEP_GATE_DEEP_BASIN : Fld := ⟨R.KEEP_GATE_DEEP, 0, 16⟩
abbrev F.KEEP_GATE_DEEP_SCALER : Fld := ⟨R.KEEP_GATE_DEEP, 16, 8⟩
abbrev F.KEEP_GATE_DEEP_BLEND : Fld := ⟨R.KEEP_GATE_DEEP, 24, 4⟩
abbrev F.KEEP_GATE_DEEP_VIN : Fld := ⟨R.KEEP_GATE_DEEP, 28, 4⟩
abbrev F.KEEP_GATE_DEEP_GBE : Fld := ⟨R.KEEP_GATE_DEEP, 32, 2⟩
abbrev F.KEEP_GATE_DEEP_PCIE : Fld := ⟨R.KEEP_GATE_DEEP, 34, 1⟩
abbrev F.KEEP_GATE_DEEP_AUDIO : Fld := ⟨R.KEEP_GATE_DEEP, 35, 1⟩
abbrev F.KEEP_GATE_DEEP_OVL : Fld := ⟨R.KEEP_GATE_DEEP, 36, 8⟩
abbrev F.KEEP_GATE_DEEP_DDR : Fld := ⟨R.KEEP_GATE_DEEP, 44, 2⟩
abbrev F.KEEP_GATE_DEEP_LANES : Fld := ⟨R.KEEP_GATE_DEEP, 46, 1⟩
abbrev F.KEEP_GATE_DEEP_RAILS : Fld := ⟨R.KEEP_GATE_DEEP, 47, 1⟩
abbrev F.KEEP_GATE_DEEP_PHOTO : Fld := ⟨R.KEEP_GATE_DEEP, 48, 1⟩
abbrev F.KEEP_GATE_DEEP_PTP : Fld := ⟨R.KEEP_GATE_DEEP, 49, 1⟩
abbrev F.KEEP_GATE_DEEP_MGMT : Fld := ⟨R.KEEP_GATE_DEEP, 50, 1⟩
abbrev F.KEEP_GATE_DEEP_SPI : Fld := ⟨R.KEEP_GATE_DEEP, 51, 1⟩
abbrev F.KEEP_GATE_DEEP_CTRL : Fld := ⟨R.KEEP_GATE_DEEP, 52, 1⟩
abbrev F.KEEP_RST_CAUSE_POR : Fld := ⟨R.KEEP_RST_CAUSE, 0, 1⟩
abbrev F.KEEP_RST_CAUSE_BROWNOUT : Fld := ⟨R.KEEP_RST_CAUSE, 1, 1⟩
abbrev F.KEEP_RST_CAUSE_CMD : Fld := ⟨R.KEEP_RST_CAUSE, 2, 1⟩
abbrev F.KEEP_RST_CAUSE_SAFETY : Fld := ⟨R.KEEP_RST_CAUSE, 3, 1⟩
abbrev F.KEEP_RST_CAUSE_DEEP_WAKE : Fld := ⟨R.KEEP_RST_CAUSE, 4, 1⟩
abbrev F.KEEP_RST_CAUSE_REGION : Fld := ⟨R.KEEP_RST_CAUSE, 5, 1⟩
abbrev F.KEEP_RST_CAUSE_LAST_REGION : Fld := ⟨R.KEEP_RST_CAUSE, 16, 3⟩
abbrev F.KEEP_RST_CAUSE_SAFETY_CAUSE : Fld := ⟨R.KEEP_RST_CAUSE, 24, 8⟩
abbrev F.KEEP_RST_CAUSE_AGAIN : Fld := ⟨R.KEEP_RST_CAUSE, 63, 1⟩
abbrev F.KEEP_SVC_CTRL_FULL : Fld := ⟨R.KEEP_SVC_CTRL, 0, 1⟩
abbrev F.KEEP_SVC_STAT_SERVICE : Fld := ⟨R.KEEP_SVC_STAT, 0, 2⟩
abbrev F.KEEP_SVC_STAT_WHY_REQ : Fld := ⟨R.KEEP_SVC_STAT, 8, 1⟩
abbrev F.KEEP_SVC_STAT_WHY_TIME : Fld := ⟨R.KEEP_SVC_STAT, 9, 1⟩
abbrev F.KEEP_SVC_STAT_WHY_STALE : Fld := ⟨R.KEEP_SVC_STAT, 10, 1⟩
abbrev F.KEEP_SVC_STAT_WHY_TABLES : Fld := ⟨R.KEEP_SVC_STAT, 11, 1⟩
abbrev F.KEEP_SVC_STAT_WHY_ROLE : Fld := ⟨R.KEEP_SVC_STAT, 12, 1⟩
abbrev F.KEEP_SVC_STAT_WHY_LINK : Fld := ⟨R.KEEP_SVC_STAT, 13, 1⟩
abbrev F.KEEP_SVC_STAT_DROPPED : Fld := ⟨R.KEEP_SVC_STAT, 16, 1⟩
abbrev F.KEEP_SVC_STAT_AGAIN : Fld := ⟨R.KEEP_SVC_STAT, 63, 1⟩
abbrev F.KEEP_CLK_CFG_HOLD_LIMIT_MS : Fld := ⟨R.KEEP_CLK_CFG, 0, 16⟩
abbrev F.KEEP_CLK_STAT_REF_STOP : Fld := ⟨R.KEEP_CLK_STAT, 0, 1⟩
abbrev F.KEEP_CLK_STAT_REF_GLITCH : Fld := ⟨R.KEEP_CLK_STAT, 1, 1⟩
abbrev F.KEEP_CLK_STAT_REF_RATE : Fld := ⟨R.KEEP_CLK_STAT, 2, 1⟩
abbrev F.KEEP_CLK_STAT_FORCED : Fld := ⟨R.KEEP_CLK_STAT, 3, 1⟩
abbrev F.KEEP_CLK_STAT_RPLL_FAULT : Fld := ⟨R.KEEP_CLK_STAT, 4, 1⟩
abbrev F.KEEP_CLK_STAT_HOLD_LONG : Fld := ⟨R.KEEP_CLK_STAT, 5, 1⟩
abbrev F.KEEP_CLK_STAT_REQUAL_FAIL : Fld := ⟨R.KEEP_CLK_STAT, 6, 1⟩
abbrev F.KEEP_CLK_STAT_TRIP_HELD : Fld := ⟨R.KEEP_CLK_STAT, 7, 1⟩
abbrev F.KEEP_CLK_STAT_HOLDOVER : Fld := ⟨R.KEEP_CLK_STAT, 16, 1⟩
abbrev F.KEEP_CLK_STAT_REF_QUAL : Fld := ⟨R.KEEP_CLK_STAT, 17, 1⟩
abbrev F.KEEP_CLK_STAT_RPLL_LOCK : Fld := ⟨R.KEEP_CLK_STAT, 18, 1⟩
abbrev F.KEEP_CLK_STAT_SLEWING : Fld := ⟨R.KEEP_CLK_STAT, 19, 1⟩
abbrev F.KEEP_CLK_STAT_AGAIN : Fld := ⟨R.KEEP_CLK_STAT, 63, 1⟩
abbrev F.KEEP_CLK_MON_MISSED_EDGES : Fld := ⟨R.KEEP_CLK_MON, 0, 16⟩
abbrev F.KEEP_CLK_MON_RATE_DEV : Fld := ⟨R.KEEP_CLK_MON, 16, 16⟩
abbrev F.KEEP_CLK_MON_HKO_TRIM : Fld := ⟨R.KEEP_CLK_MON, 32, 16⟩
abbrev F.MEM_PORT_CFG_TARGET_NS (n : Nat) : Fld := ⟨R.MEM_PORT_CFG n, 0, 16⟩
abbrev F.MEM_PORT_CFG_RH_EXEMPT (n : Nat) : Fld := ⟨R.MEM_PORT_CFG n, 16, 1⟩
abbrev F.MEM_PORT_STAT_URGENCY (n : Nat) : Fld := ⟨R.MEM_PORT_STAT n, 0, 2⟩
abbrev F.MEM_PORT_STAT_URG3 (n : Nat) : Fld := ⟨R.MEM_PORT_STAT n, 8, 1⟩
abbrev F.MEM_PORT_STAT_MISSED (n : Nat) : Fld := ⟨R.MEM_PORT_STAT n, 9, 1⟩
abbrev F.MEM_PORT_STAT_THROTTLED (n : Nat) : Fld := ⟨R.MEM_PORT_STAT n, 10, 1⟩
abbrev F.MEM_PORT_STAT_MISS_CNT (n : Nat) : Fld := ⟨R.MEM_PORT_STAT n, 16, 32⟩
abbrev F.MEM_PORT_STAT_AGAIN (n : Nat) : Fld := ⟨R.MEM_PORT_STAT n, 63, 1⟩
abbrev F.MEM_RH_CFG_THRESH : Fld := ⟨R.MEM_RH_CFG, 0, 16⟩
abbrev F.MEM_RH_CFG_OFFENDER_LIMIT : Fld := ⟨R.MEM_RH_CFG, 16, 8⟩
abbrev F.MEM_RH_CFG_THROTTLE_NS : Fld := ⟨R.MEM_RH_CFG, 32, 16⟩
abbrev F.MEM_CFG_SPEED_MAX : Fld := ⟨R.MEM_CFG, 0, 4⟩
abbrev F.MEM_CFG_INTERLEAVE : Fld := ⟨R.MEM_CFG, 4, 1⟩
abbrev F.MEM_INFO_RATE_MTS : Fld := ⟨R.MEM_INFO, 0, 16⟩
abbrev F.MEM_INFO_KIND : Fld := ⟨R.MEM_INFO, 16, 3⟩
abbrev F.MEM_INFO_SUBCH : Fld := ⟨R.MEM_INFO, 19, 2⟩
abbrev F.MEM_INFO_RANKS : Fld := ⟨R.MEM_INFO, 21, 2⟩
abbrev F.MEM_INFO_USABLE_MIB : Fld := ⟨R.MEM_INFO, 32, 18⟩
abbrev F.MEM_STAT_CH_OK : Fld := ⟨R.MEM_STAT, 0, 2⟩
abbrev F.MEM_STAT_CH_FAIL : Fld := ⟨R.MEM_STAT, 2, 2⟩
abbrev F.MEM_STAT_CH1_MISMATCH : Fld := ⟨R.MEM_STAT, 4, 1⟩
abbrev F.MEM_STAT_SPEED_DOWN : Fld := ⟨R.MEM_STAT, 5, 1⟩
abbrev F.MEM_STAT_FILL_DONE : Fld := ⟨R.MEM_STAT, 6, 1⟩
abbrev F.MEM_STAT_REPLAYED : Fld := ⟨R.MEM_STAT, 8, 1⟩
abbrev F.MEM_STAT_MEM_FAULT : Fld := ⟨R.MEM_STAT, 9, 1⟩
abbrev F.MEM_STAT_DRIFT_ALARM : Fld := ⟨R.MEM_STAT, 10, 1⟩
abbrev F.MEM_STAT_RH_THROTTLE : Fld := ⟨R.MEM_STAT, 11, 1⟩
abbrev F.MEM_STAT_RH_EXEMPT : Fld := ⟨R.MEM_STAT, 12, 1⟩
abbrev F.MEM_STAT_HOT : Fld := ⟨R.MEM_STAT, 13, 1⟩
abbrev F.MEM_STAT_AGAIN : Fld := ⟨R.MEM_STAT, 63, 1⟩
abbrev F.MEM_ERR_CNT_REPLAY_OK : Fld := ⟨R.MEM_ERR_CNT, 0, 32⟩
abbrev F.MEM_ERR_CNT_FAULTS : Fld := ⟨R.MEM_ERR_CNT, 32, 16⟩
abbrev F.MEM_ERR_ADDR_ADDR : Fld := ⟨R.MEM_ERR_ADDR, 0, 45⟩
abbrev F.MEM_ERR_ADDR_PORT : Fld := ⟨R.MEM_ERR_ADDR, 48, 5⟩
abbrev F.MEM_ERR_ADDR_TAG : Fld := ⟨R.MEM_ERR_ADDR, 53, 1⟩
abbrev F.INGEST_VIN_CFG_EN (n : Nat) : Fld := ⟨R.INGEST_VIN_CFG n, 0, 1⟩
abbrev F.INGEST_VIN_CFG_KIND (n : Nat) : Fld := ⟨R.INGEST_VIN_CFG n, 1, 1⟩
abbrev F.INGEST_VIN_CFG_LINK_MAX (n : Nat) : Fld := ⟨R.INGEST_VIN_CFG n, 2, 3⟩
abbrev F.INGEST_VIN_CFG_LANES_MAX (n : Nat) : Fld := ⟨R.INGEST_VIN_CFG n, 5, 2⟩
abbrev F.INGEST_VIN_CFG_HDCP_EN (n : Nat) : Fld := ⟨R.INGEST_VIN_CFG n, 7, 1⟩
abbrev F.INGEST_VIN_CFG_AUDIO_EN (n : Nat) : Fld := ⟨R.INGEST_VIN_CFG n, 8, 1⟩
abbrev F.INGEST_VIN_MODE_ACT_W (n : Nat) : Fld := ⟨R.INGEST_VIN_MODE n, 0, 16⟩
abbrev F.INGEST_VIN_MODE_ACT_H (n : Nat) : Fld := ⟨R.INGEST_VIN_MODE n, 16, 16⟩
abbrev F.INGEST_VIN_MODE_RATE (n : Nat) : Fld := ⟨R.INGEST_VIN_MODE n, 32, 16⟩
abbrev F.INGEST_VIN_MODE_SAMPLING (n : Nat) : Fld := ⟨R.INGEST_VIN_MODE n, 48, 3⟩
abbrev F.INGEST_VIN_MODE_DEPTH (n : Nat) : Fld := ⟨R.INGEST_VIN_MODE n, 51, 2⟩
abbrev F.INGEST_VIN_MODE_COLORIMETRY (n : Nat) : Fld := ⟨R.INGEST_VIN_MODE n, 53, 2⟩
abbrev F.INGEST_VIN_MODE_TF (n : Nat) : Fld := ⟨R.INGEST_VIN_MODE n, 55, 2⟩
abbrev F.INGEST_VIN_MODE_LIMITED (n : Nat) : Fld := ⟨R.INGEST_VIN_MODE n, 57, 1⟩
abbrev F.INGEST_VIN_MODE_INTERLACED (n : Nat) : Fld := ⟨R.INGEST_VIN_MODE n, 58, 1⟩
abbrev F.INGEST_VIN_MODE_LINK (n : Nat) : Fld := ⟨R.INGEST_VIN_MODE n, 59, 3⟩
abbrev F.INGEST_VIN_MODE_VALID (n : Nat) : Fld := ⟨R.INGEST_VIN_MODE n, 63, 1⟩
abbrev F.INGEST_VIN_STAT_LOCK (n : Nat) : Fld := ⟨R.INGEST_VIN_STAT n, 0, 1⟩
abbrev F.INGEST_VIN_STAT_HDCP_AUTH (n : Nat) : Fld := ⟨R.INGEST_VIN_STAT n, 1, 1⟩
abbrev F.INGEST_VIN_STAT_HDCP_TYPE1 (n : Nat) : Fld := ⟨R.INGEST_VIN_STAT n, 2, 1⟩
abbrev F.INGEST_VIN_STAT_AUDIO_PRESENT (n : Nat) : Fld := ⟨R.INGEST_VIN_STAT n, 3, 1⟩
abbrev F.INGEST_VIN_STAT_LOCK_LOST (n : Nat) : Fld := ⟨R.INGEST_VIN_STAT n, 8, 1⟩
abbrev F.INGEST_VIN_STAT_MODE_CHANGE (n : Nat) : Fld := ⟨R.INGEST_VIN_STAT n, 9, 1⟩
abbrev F.INGEST_VIN_STAT_UNSUPPORTED (n : Nat) : Fld := ⟨R.INGEST_VIN_STAT n, 10, 1⟩
abbrev F.INGEST_VIN_STAT_HDCP_FAIL (n : Nat) : Fld := ⟨R.INGEST_VIN_STAT n, 11, 1⟩
abbrev F.INGEST_VIN_STAT_AUDIO_COMPRESSED (n : Nat) : Fld := ⟨R.INGEST_VIN_STAT n, 12, 1⟩
abbrev F.INGEST_VIN_STAT_AGAIN (n : Nat) : Fld := ⟨R.INGEST_VIN_STAT n, 63, 1⟩
abbrev F.INGEST_FLOW_DST_GROUP (n : Nat) : Fld := ⟨R.INGEST_FLOW_DST n, 0, 32⟩
abbrev F.INGEST_FLOW_DST_UDP_PORT (n : Nat) : Fld := ⟨R.INGEST_FLOW_DST n, 32, 16⟩
abbrev F.INGEST_FLOW_DST_PT (n : Nat) : Fld := ⟨R.INGEST_FLOW_DST n, 48, 7⟩
abbrev F.INGEST_FLOW_DST_PORTS (n : Nat) : Fld := ⟨R.INGEST_FLOW_DST n, 56, 2⟩
abbrev F.INGEST_FLOW_DST_SSM (n : Nat) : Fld := ⟨R.INGEST_FLOW_DST n, 58, 1⟩
abbrev F.INGEST_FLOW_DST_EN (n : Nat) : Fld := ⟨R.INGEST_FLOW_DST n, 59, 1⟩
abbrev F.INGEST_FLOW_FMT_TYPE (n : Nat) : Fld := ⟨R.INGEST_FLOW_FMT n, 0, 2⟩
abbrev F.INGEST_FLOW_FMT_PARAM (n : Nat) : Fld := ⟨R.INGEST_FLOW_FMT n, 2, 14⟩
abbrev F.INGEST_FLOW_FMT_SRC_IP (n : Nat) : Fld := ⟨R.INGEST_FLOW_FMT n, 32, 32⟩
abbrev F.INGEST_FLOW_STAT_RECEIVING (n : Nat) : Fld := ⟨R.INGEST_FLOW_STAT n, 0, 1⟩
abbrev F.INGEST_FLOW_STAT_PAIRED (n : Nat) : Fld := ⟨R.INGEST_FLOW_STAT n, 1, 1⟩
abbrev F.INGEST_FLOW_STAT_FLOW_LOST (n : Nat) : Fld := ⟨R.INGEST_FLOW_STAT n, 8, 1⟩
abbrev F.INGEST_FLOW_STAT_PKT_LOST (n : Nat) : Fld := ⟨R.INGEST_FLOW_STAT n, 9, 1⟩
abbrev F.INGEST_FLOW_STAT_TIMING (n : Nat) : Fld := ⟨R.INGEST_FLOW_STAT n, 10, 1⟩
abbrev F.INGEST_FLOW_STAT_FORMAT (n : Nat) : Fld := ⟨R.INGEST_FLOW_STAT n, 11, 1⟩
abbrev F.INGEST_FLOW_STAT_LOST_CNT (n : Nat) : Fld := ⟨R.INGEST_FLOW_STAT n, 16, 24⟩
abbrev F.INGEST_FLOW_STAT_AGAIN (n : Nat) : Fld := ⟨R.INGEST_FLOW_STAT n, 63, 1⟩
abbrev F.INGEST_ANC_RING_BASE : Fld := ⟨R.INGEST_ANC_RING, 0, 45⟩
abbrev F.INGEST_ANC_RING_SIZE_LOG2 : Fld := ⟨R.INGEST_ANC_RING, 48, 5⟩
abbrev F.INGEST_BUDGET_RESERVED : Fld := ⟨R.INGEST_BUDGET, 0, 12⟩
abbrev F.INGEST_BUDGET_LIMIT : Fld := ⟨R.INGEST_BUDGET, 16, 12⟩
abbrev F.INGEST_BUDGET_ACTUAL : Fld := ⟨R.INGEST_BUDGET, 32, 12⟩
abbrev F.INGEST_SRC_BASE_BASE (n : Nat) : Fld := ⟨R.INGEST_SRC_BASE n, 0, 45⟩
abbrev F.INGEST_SRC_CFG_COUNT (n : Nat) : Fld := ⟨R.INGEST_SRC_CFG n, 0, 16⟩
abbrev F.INGEST_SRC_CFG_STORE (n : Nat) : Fld := ⟨R.INGEST_SRC_CFG n, 16, 1⟩
abbrev F.INGEST_SRC_CFG_EN (n : Nat) : Fld := ⟨R.INGEST_SRC_CFG n, 17, 1⟩
abbrev F.INGEST_SRC_CFG_LOOP (n : Nat) : Fld := ⟨R.INGEST_SRC_CFG n, 18, 1⟩
abbrev F.INGEST_SRC_CFG_PLAY (n : Nat) : Fld := ⟨R.INGEST_SRC_CFG n, 19, 1⟩
abbrev F.INGEST_SRC_CFG_HOLD (n : Nat) : Fld := ⟨R.INGEST_SRC_CFG n, 20, 8⟩
abbrev F.INGEST_SRC_CFG_RES (n : Nat) : Fld := ⟨R.INGEST_SRC_CFG n, 28, 12⟩
abbrev F.INGEST_SRC_CFG_DELAY_US (n : Nat) : Fld := ⟨R.INGEST_SRC_CFG n, 40, 20⟩
abbrev F.INGEST_SRC_GEOM_WIDTH (n : Nat) : Fld := ⟨R.INGEST_SRC_GEOM n, 0, 16⟩
abbrev F.INGEST_SRC_GEOM_HEIGHT (n : Nat) : Fld := ⟨R.INGEST_SRC_GEOM n, 16, 16⟩
abbrev F.INGEST_SRC_STAT_HAS_FRAME (n : Nat) : Fld := ⟨R.INGEST_SRC_STAT n, 0, 1⟩
abbrev F.INGEST_SRC_STAT_PROTECTED (n : Nat) : Fld := ⟨R.INGEST_SRC_STAT n, 1, 1⟩
abbrev F.INGEST_SRC_STAT_TF (n : Nat) : Fld := ⟨R.INGEST_SRC_STAT n, 2, 2⟩
abbrev F.INGEST_SRC_STAT_NO_FIT (n : Nat) : Fld := ⟨R.INGEST_SRC_STAT n, 8, 1⟩
abbrev F.INGEST_SRC_STAT_DROPPED (n : Nat) : Fld := ⟨R.INGEST_SRC_STAT n, 9, 1⟩
abbrev F.INGEST_SRC_STAT_INCOMPLETE (n : Nat) : Fld := ⟨R.INGEST_SRC_STAT n, 10, 1⟩
abbrev F.INGEST_SRC_STAT_CLIP_END (n : Nat) : Fld := ⟨R.INGEST_SRC_STAT n, 11, 1⟩
abbrev F.INGEST_SRC_STAT_DROP_CNT (n : Nat) : Fld := ⟨R.INGEST_SRC_STAT n, 16, 16⟩
abbrev F.INGEST_SRC_STAT_REPEAT_CNT (n : Nat) : Fld := ⟨R.INGEST_SRC_STAT n, 32, 16⟩
abbrev F.INGEST_SRC_STAT_SKIP_CNT (n : Nat) : Fld := ⟨R.INGEST_SRC_STAT n, 48, 15⟩
abbrev F.INGEST_SRC_STAT_AGAIN (n : Nat) : Fld := ⟨R.INGEST_SRC_STAT n, 63, 1⟩
abbrev F.INGEST_AUD_CFG_EN : Fld := ⟨R.INGEST_AUD_CFG, 0, 1⟩
abbrev F.INGEST_AUD_CFG_TRACK : Fld := ⟨R.INGEST_AUD_CFG, 2, 1⟩
abbrev F.INGEST_AUD_CFG_MASTER_CH : Fld := ⟨R.INGEST_AUD_CFG, 3, 3⟩
abbrev F.INGEST_AUD_CFG_RING_LOG2 : Fld := ⟨R.INGEST_AUD_CFG, 6, 5⟩
abbrev F.INGEST_AUD_CFG_RING_BASE : Fld := ⟨R.INGEST_AUD_CFG, 12, 33⟩
abbrev F.INGEST_AUD_CFG_TRIM_US : Fld := ⟨R.INGEST_AUD_CFG, 45, 16⟩
abbrev F.INGEST_AOUT_CFG_EN (n : Nat) : Fld := ⟨R.INGEST_AOUT_CFG n, 0, 1⟩
abbrev F.INGEST_AOUT_CFG_FORMAT (n : Nat) : Fld := ⟨R.INGEST_AOUT_CFG n, 1, 1⟩
abbrev F.INGEST_AOUT_CFG_SLOT (n : Nat) : Fld := ⟨R.INGEST_AOUT_CFG n, 2, 2⟩
abbrev F.INGEST_AOUT_CFG_RATE (n : Nat) : Fld := ⟨R.INGEST_AOUT_CFG n, 4, 3⟩
abbrev F.INGEST_AIN_CFG_EN : Fld := ⟨R.INGEST_AIN_CFG, 0, 1⟩
abbrev F.INGEST_AIN_CFG_FORMAT : Fld := ⟨R.INGEST_AIN_CFG, 1, 1⟩
abbrev F.INGEST_AIN_CFG_SLOT : Fld := ⟨R.INGEST_AIN_CFG, 2, 2⟩
abbrev F.INGEST_AIN_CFG_RATE : Fld := ⟨R.INGEST_AIN_CFG, 4, 3⟩
abbrev F.INGEST_AIN_CFG_CLOCK_IN : Fld := ⟨R.INGEST_AIN_CFG, 8, 1⟩
abbrev F.INGEST_ACH_CFG_KIND (n : Nat) : Fld := ⟨R.INGEST_ACH_CFG n, 0, 2⟩
abbrev F.INGEST_ACH_CFG_INDEX (n : Nat) : Fld := ⟨R.INGEST_ACH_CFG n, 2, 6⟩
abbrev F.INGEST_ACH_CFG_CH (n : Nat) : Fld := ⟨R.INGEST_ACH_CFG n, 8, 4⟩
abbrev F.INGEST_ACH_CFG_VIDEO_SRC (n : Nat) : Fld := ⟨R.INGEST_ACH_CFG n, 12, 6⟩
abbrev F.INGEST_ACH_CFG_MUTE (n : Nat) : Fld := ⟨R.INGEST_ACH_CFG n, 18, 1⟩
abbrev F.INGEST_AUD_STAT_SILENT : Fld := ⟨R.INGEST_AUD_STAT, 0, 8⟩
abbrev F.INGEST_AUD_STAT_RATE_MISMATCH : Fld := ⟨R.INGEST_AUD_STAT, 8, 1⟩
abbrev F.INGEST_AUD_STAT_UNDERRUN : Fld := ⟨R.INGEST_AUD_STAT, 9, 1⟩
abbrev F.INGEST_AUD_STAT_OVERRUN : Fld := ⟨R.INGEST_AUD_STAT, 10, 1⟩
abbrev F.INGEST_AUD_STAT_DELAY_CLAMP : Fld := ⟨R.INGEST_AUD_STAT, 11, 1⟩
abbrev F.INGEST_AUD_STAT_TRACK_LIMIT : Fld := ⟨R.INGEST_AUD_STAT, 12, 1⟩
abbrev F.INGEST_AUD_STAT_SLIP_CNT : Fld := ⟨R.INGEST_AUD_STAT, 16, 32⟩
abbrev F.INGEST_AUD_STAT_AGAIN : Fld := ⟨R.INGEST_AUD_STAT, 63, 1⟩
abbrev F.COMPOSE_CFG_ORDER : Fld := ⟨R.COMPOSE_CFG, 0, 1⟩
abbrev F.COMPOSE_CFG_ABORT_SCOPE : Fld := ⟨R.COMPOSE_CFG, 1, 1⟩
abbrev F.COMPOSE_BG_BG_R : Fld := ⟨R.COMPOSE_BG, 0, 16⟩
abbrev F.COMPOSE_BG_BG_G : Fld := ⟨R.COMPOSE_BG, 16, 16⟩
abbrev F.COMPOSE_BG_BG_B : Fld := ⟨R.COMPOSE_BG, 32, 16⟩
abbrev F.COMPOSE_BG_BG_W : Fld := ⟨R.COMPOSE_BG, 48, 16⟩
abbrev F.COMPOSE_HDR_PQ_REF : Fld := ⟨R.COMPOSE_HDR, 0, 16⟩
abbrev F.COMPOSE_HDR_HLG_GAMMA : Fld := ⟨R.COMPOSE_HDR, 16, 8⟩
abbrev F.LAYER_SRC_SOURCE (n : Nat) : Fld := ⟨R.LAYER_SRC n, 0, 6⟩
abbrev F.LAYER_SRC_EN (n : Nat) : Fld := ⟨R.LAYER_SRC n, 6, 1⟩
abbrev F.LAYER_SRC_FLIP_H (n : Nat) : Fld := ⟨R.LAYER_SRC n, 7, 1⟩
abbrev F.LAYER_SRC_FLIP_V (n : Nat) : Fld := ⟨R.LAYER_SRC n, 8, 1⟩
abbrev F.LAYER_SRC_POLICY (n : Nat) : Fld := ⟨R.LAYER_SRC n, 9, 2⟩
abbrev F.LAYER_SRC_SLATE_SRC (n : Nat) : Fld := ⟨R.LAYER_SRC n, 11, 6⟩
abbrev F.LAYER_SRC_Z (n : Nat) : Fld := ⟨R.LAYER_SRC n, 17, 8⟩
abbrev F.LAYER_SRC_STALE_FRAMES (n : Nat) : Fld := ⟨R.LAYER_SRC n, 25, 7⟩
abbrev F.LAYER_CROP_X (n : Nat) : Fld := ⟨R.LAYER_CROP n, 0, 16⟩
abbrev F.LAYER_CROP_Y (n : Nat) : Fld := ⟨R.LAYER_CROP n, 16, 16⟩
abbrev F.LAYER_CROP_W (n : Nat) : Fld := ⟨R.LAYER_CROP n, 32, 16⟩
abbrev F.LAYER_CROP_H (n : Nat) : Fld := ⟨R.LAYER_CROP n, 48, 16⟩
abbrev F.LAYER_DST_X (n : Nat) : Fld := ⟨R.LAYER_DST n, 0, 16⟩
abbrev F.LAYER_DST_Y (n : Nat) : Fld := ⟨R.LAYER_DST n, 16, 16⟩
abbrev F.LAYER_DST_W (n : Nat) : Fld := ⟨R.LAYER_DST n, 32, 16⟩
abbrev F.LAYER_DST_H (n : Nat) : Fld := ⟨R.LAYER_DST n, 48, 16⟩
abbrev F.LAYER_MIX_GALPHA (n : Nat) : Fld := ⟨R.LAYER_MIX n, 0, 16⟩
abbrev F.LAYER_MIX_AMODE (n : Nat) : Fld := ⟨R.LAYER_MIX n, 16, 2⟩
abbrev F.LAYER_MIX_PRE_LUT (n : Nat) : Fld := ⟨R.LAYER_MIX n, 18, 4⟩
abbrev F.LAYER_MIX_FILTER (n : Nat) : Fld := ⟨R.LAYER_MIX n, 22, 2⟩
abbrev F.LAYER_MIX_VTAPS (n : Nat) : Fld := ⟨R.LAYER_MIX n, 24, 4⟩
abbrev F.LAYER_MIX_KSTAGE (n : Nat) : Fld := ⟨R.LAYER_MIX n, 28, 8⟩
abbrev F.LAYER_STAT_READY (n : Nat) : Fld := ⟨R.LAYER_STAT n, 0, 1⟩
abbrev F.LAYER_STAT_SCALED (n : Nat) : Fld := ⟨R.LAYER_STAT n, 1, 1⟩
abbrev F.LAYER_STAT_TAPS_IN_USE (n : Nat) : Fld := ⟨R.LAYER_STAT n, 2, 4⟩
abbrev F.LAYER_STAT_SCALERS (n : Nat) : Fld := ⟨R.LAYER_STAT n, 6, 8⟩
abbrev F.LAYER_STAT_NOT_READY (n : Nat) : Fld := ⟨R.LAYER_STAT n, 16, 1⟩
abbrev F.LAYER_STAT_TAPS_REDUCED (n : Nat) : Fld := ⟨R.LAYER_STAT n, 17, 1⟩
abbrev F.LAYER_STAT_HIDDEN_LB (n : Nat) : Fld := ⟨R.LAYER_STAT n, 18, 1⟩
abbrev F.LAYER_STAT_NOTREADY_CNT (n : Nat) : Fld := ⟨R.LAYER_STAT n, 24, 24⟩
abbrev F.LAYER_STAT_AGAIN (n : Nat) : Fld := ⟨R.LAYER_STAT n, 63, 1⟩
abbrev F.COMPOSE_SCL_INFO_PIPE (n : Nat) : Fld := ⟨R.COMPOSE_SCL_INFO n, 0, 4⟩
abbrev F.COMPOSE_SCL_INFO_LAYERS (n : Nat) : Fld := ⟨R.COMPOSE_SCL_INFO n, 4, 4⟩
abbrev F.COMPOSE_SCL_INFO_LB_USED (n : Nat) : Fld := ⟨R.COMPOSE_SCL_INFO n, 8, 16⟩
abbrev F.COMPOSE_SCL_INFO_LOAD_PCT (n : Nat) : Fld := ⟨R.COMPOSE_SCL_INFO n, 24, 8⟩
abbrev F.COMPOSE_PIPE_CFG_OUT_LUT (n : Nat) : Fld := ⟨R.COMPOSE_PIPE_CFG n, 0, 4⟩
abbrev F.COMPOSE_LUT_E_E_R (n : Nat) : Fld := ⟨R.COMPOSE_LUT_E n, 0, 16⟩
abbrev F.COMPOSE_LUT_E_E_G (n : Nat) : Fld := ⟨R.COMPOSE_LUT_E n, 16, 16⟩
abbrev F.COMPOSE_LUT_E_E_B (n : Nat) : Fld := ⟨R.COMPOSE_LUT_E n, 32, 16⟩
abbrev F.COMPOSE_LUT_E_E_W (n : Nat) : Fld := ⟨R.COMPOSE_LUT_E n, 48, 16⟩
abbrev F.COMPOSE_STAT_ABORTED : Fld := ⟨R.COMPOSE_STAT, 0, 1⟩
abbrev F.COMPOSE_STAT_NOT_READY : Fld := ⟨R.COMPOSE_STAT, 1, 1⟩
abbrev F.COMPOSE_STAT_TAPS_REDUCED : Fld := ⟨R.COMPOSE_STAT, 2, 1⟩
abbrev F.COMPOSE_STAT_HIDDEN_LB : Fld := ⟨R.COMPOSE_STAT, 3, 1⟩
abbrev F.COMPOSE_STAT_CHECK_FAIL : Fld := ⟨R.COMPOSE_STAT, 4, 1⟩
abbrev F.COMPOSE_STAT_FROZEN : Fld := ⟨R.COMPOSE_STAT, 5, 1⟩
abbrev F.COMPOSE_STAT_LAST_REASON : Fld := ⟨R.COMPOSE_STAT, 8, 4⟩
abbrev F.COMPOSE_STAT_LAST_LOOPS : Fld := ⟨R.COMPOSE_STAT, 12, 4⟩
abbrev F.COMPOSE_STAT_ABORT_CNT : Fld := ⟨R.COMPOSE_STAT, 16, 32⟩
abbrev F.COMPOSE_STAT_AGAIN : Fld := ⟨R.COMPOSE_STAT, 63, 1⟩
abbrev F.COMPOSE_PIPE_STAT_ABORTED (n : Nat) : Fld := ⟨R.COMPOSE_PIPE_STAT n, 0, 1⟩
abbrev F.COMPOSE_PIPE_STAT_MARGIN_US (n : Nat) : Fld := ⟨R.COMPOSE_PIPE_STAT n, 16, 16⟩
abbrev F.COMPOSE_PIPE_STAT_DEPTH_MAX (n : Nat) : Fld := ⟨R.COMPOSE_PIPE_STAT n, 32, 5⟩
abbrev F.COMPOSE_PIPE_STAT_AGAIN (n : Nat) : Fld := ⟨R.COMPOSE_PIPE_STAT n, 63, 1⟩
abbrev F.COMPOSE_SADDLE_PERMILLE : Fld := ⟨R.COMPOSE_SADDLE, 0, 8⟩
abbrev F.COMPOSE_SADDLE_S_US : Fld := ⟨R.COMPOSE_SADDLE, 32, 16⟩
abbrev F.COMPOSE_SREC_POS_X (n : Nat) : Fld := ⟨R.COMPOSE_SREC_POS n, 0, 16⟩
abbrev F.COMPOSE_SREC_POS_Y (n : Nat) : Fld := ⟨R.COMPOSE_SREC_POS n, 16, 16⟩
abbrev F.COMPOSE_SREC_POS_W (n : Nat) : Fld := ⟨R.COMPOSE_SREC_POS n, 32, 16⟩
abbrev F.COMPOSE_SREC_POS_H (n : Nat) : Fld := ⟨R.COMPOSE_SREC_POS n, 48, 16⟩
abbrev F.COMPOSE_SREC_CFG_EN (n : Nat) : Fld := ⟨R.COMPOSE_SREC_CFG n, 0, 1⟩
abbrev F.COMPOSE_SREC_CFG_EXPECT_EN (n : Nat) : Fld := ⟨R.COMPOSE_SREC_CFG n, 1, 1⟩
abbrev F.COMPOSE_SREC_CFG_FROZEN_EN (n : Nat) : Fld := ⟨R.COMPOSE_SREC_CFG n, 2, 1⟩
abbrev F.COMPOSE_SREC_CFG_CHAIN_EN (n : Nat) : Fld := ⟨R.COMPOSE_SREC_CFG n, 3, 1⟩
abbrev F.COMPOSE_SREC_CFG_ACTION (n : Nat) : Fld := ⟨R.COMPOSE_SREC_CFG n, 4, 2⟩
abbrev F.COMPOSE_SREC_CFG_HOLD (n : Nat) : Fld := ⟨R.COMPOSE_SREC_CFG n, 8, 8⟩
abbrev F.COMPOSE_SREC_EXPECT_EXPECT (n : Nat) : Fld := ⟨R.COMPOSE_SREC_EXPECT n, 0, 32⟩
abbrev F.COMPOSE_SREC_STAT_MISMATCH (n : Nat) : Fld := ⟨R.COMPOSE_SREC_STAT n, 0, 1⟩
abbrev F.COMPOSE_SREC_STAT_FROZEN (n : Nat) : Fld := ⟨R.COMPOSE_SREC_STAT n, 1, 1⟩
abbrev F.COMPOSE_SREC_STAT_CHAIN_FAIL (n : Nat) : Fld := ⟨R.COMPOSE_SREC_STAT n, 2, 1⟩
abbrev F.COMPOSE_SREC_STAT_FAIL_CNT (n : Nat) : Fld := ⟨R.COMPOSE_SREC_STAT n, 16, 32⟩
abbrev F.COMPOSE_SREC_STAT_AGAIN (n : Nat) : Fld := ⟨R.COMPOSE_SREC_STAT n, 63, 1⟩
abbrev F.COMPOSE_SREC_VAL_C (n : Nat) : Fld := ⟨R.COMPOSE_SREC_VAL n, 0, 32⟩
abbrev F.COMPOSE_SREC_VAL_V (n : Nat) : Fld := ⟨R.COMPOSE_SREC_VAL n, 32, 32⟩
abbrev F.COMPOSE_SREC_FRAME_FRAME (n : Nat) : Fld := ⟨R.COMPOSE_SREC_FRAME n, 0, 64⟩
abbrev F.COMPOSE_KLIB_VERSION : Fld := ⟨R.COMPOSE_KLIB, 0, 32⟩
abbrev F.COMPOSE_KLIB_KERNELS : Fld := ⟨R.COMPOSE_KLIB, 32, 16⟩
abbrev F.COMPOSE_KLOAD_LOAD_PERMILLE : Fld := ⟨R.COMPOSE_KLOAD, 0, 16⟩
abbrev F.COMPOSE_KLOAD_LIMIT_PERMILLE : Fld := ⟨R.COMPOSE_KLOAD, 16, 16⟩
abbrev F.COMPOSE_KLOAD_BUSY_PERMILLE : Fld := ⟨R.COMPOSE_KLOAD, 32, 16⟩
abbrev F.COMPOSE_KERR_CORRECTED : Fld := ⟨R.COMPOSE_KERR, 0, 32⟩
abbrev F.COMPOSE_KERR_REDISPATCH : Fld := ⟨R.COMPOSE_KERR, 32, 16⟩
abbrev F.COMPOSE_KERR_KFAULT : Fld := ⟨R.COMPOSE_KERR, 48, 16⟩
abbrev F.COMPOSE_BASIN_STAT_IN_SVC (n : Nat) : Fld := ⟨R.COMPOSE_BASIN_STAT n, 0, 16⟩
abbrev F.COMPOSE_BASIN_STAT_SUSPECT (n : Nat) : Fld := ⟨R.COMPOSE_BASIN_STAT n, 16, 16⟩
abbrev F.COMPOSE_BASIN_STAT_STATE (n : Nat) : Fld := ⟨R.COMPOSE_BASIN_STAT n, 32, 3⟩
abbrev F.COMPOSE_BASIN_STAT_REDISPATCHED (n : Nat) : Fld := ⟨R.COMPOSE_BASIN_STAT n, 36, 1⟩
abbrev F.COMPOSE_BASIN_STAT_KERNEL_FAULT (n : Nat) : Fld := ⟨R.COMPOSE_BASIN_STAT n, 37, 1⟩
abbrev F.COMPOSE_BASIN_STAT_WATCHDOG (n : Nat) : Fld := ⟨R.COMPOSE_BASIN_STAT n, 38, 1⟩
abbrev F.COMPOSE_BASIN_STAT_ENG_RETIRED (n : Nat) : Fld := ⟨R.COMPOSE_BASIN_STAT n, 39, 1⟩
abbrev F.COMPOSE_BASIN_STAT_AGAIN (n : Nat) : Fld := ⟨R.COMPOSE_BASIN_STAT n, 63, 1⟩
abbrev F.COMPOSE_BASIN_EPOCH_EPOCH (n : Nat) : Fld := ⟨R.COMPOSE_BASIN_EPOCH n, 0, 32⟩
abbrev F.COMPOSE_BASIN_EPOCH_RECORD (n : Nat) : Fld := ⟨R.COMPOSE_BASIN_EPOCH n, 32, 32⟩
abbrev F.COMPOSE_KSTAGE_CFG_KERNEL_ID (n : Nat) : Fld := ⟨R.COMPOSE_KSTAGE_CFG n, 0, 16⟩
abbrev F.COMPOSE_KSTAGE_CFG_EN (n : Nat) : Fld := ⟨R.COMPOSE_KSTAGE_CFG n, 16, 1⟩
abbrev F.COMPOSE_KSTAGE_CFG_MARGIN (n : Nat) : Fld := ⟨R.COMPOSE_KSTAGE_CFG n, 24, 4⟩
abbrev F.COMPOSE_KSTAGE_PARAM_ADDR (n : Nat) : Fld := ⟨R.COMPOSE_KSTAGE_PARAM n, 0, 45⟩
abbrev F.COMPOSE_KSTAGE_PARAM_WORDS (n : Nat) : Fld := ⟨R.COMPOSE_KSTAGE_PARAM n, 48, 11⟩
abbrev F.COMPOSE_KSTAGE_STAT_ACTIVE (n : Nat) : Fld := ⟨R.COMPOSE_KSTAGE_STAT n, 0, 1⟩
abbrev F.COMPOSE_KSTAGE_STAT_PARAM_BAD (n : Nat) : Fld := ⟨R.COMPOSE_KSTAGE_STAT n, 8, 1⟩
abbrev F.COMPOSE_KSTAGE_STAT_CLAMPED (n : Nat) : Fld := ⟨R.COMPOSE_KSTAGE_STAT n, 9, 1⟩
abbrev F.COMPOSE_KSTAGE_STAT_AGAIN (n : Nat) : Fld := ⟨R.COMPOSE_KSTAGE_STAT n, 63, 1⟩
abbrev F.COMPOSE_SLOTS_COUNT : Fld := ⟨R.COMPOSE_SLOTS, 0, 4⟩
abbrev F.COMPOSE_SLOTS_GUARD_NS : Fld := ⟨R.COMPOSE_SLOTS, 16, 16⟩
abbrev F.COMPOSE_SLOT_TIME_START (n : Nat) : Fld := ⟨R.COMPOSE_SLOT_TIME n, 0, 26⟩
abbrev F.COMPOSE_SLOT_TIME_LEN (n : Nat) : Fld := ⟨R.COMPOSE_SLOT_TIME n, 32, 26⟩
abbrev F.COMPOSE_SLOT_CFG_CONTENT (n : Nat) : Fld := ⟨R.COMPOSE_SLOT_CFG n, 0, 1⟩
abbrev F.COMPOSE_SLOT_CFG_CLOSED (n : Nat) : Fld := ⟨R.COMPOSE_SLOT_CFG n, 1, 1⟩
abbrev F.COMPOSE_SLOT_CFG_PWM_N (n : Nat) : Fld := ⟨R.COMPOSE_SLOT_CFG n, 2, 6⟩
abbrev F.COMPOSE_SLOT_CFG_LAYERS (n : Nat) : Fld := ⟨R.COMPOSE_SLOT_CFG n, 32, 32⟩
abbrev F.COMPOSE_CAM_CFG_EN (n : Nat) : Fld := ⟨R.COMPOSE_CAM_CFG n, 0, 1⟩
abbrev F.COMPOSE_CAM_CFG_SLOT (n : Nat) : Fld := ⟨R.COMPOSE_CAM_CFG n, 1, 3⟩
abbrev F.COMPOSE_CAM_CFG_DIV (n : Nat) : Fld := ⟨R.COMPOSE_CAM_CFG n, 4, 2⟩
abbrev F.COMPOSE_CAM_CFG_PHASE (n : Nat) : Fld := ⟨R.COMPOSE_CAM_CFG n, 6, 2⟩
abbrev F.COMPOSE_CAM_OPEN_OPEN (n : Nat) : Fld := ⟨R.COMPOSE_CAM_OPEN n, 0, 26⟩
abbrev F.COMPOSE_CAM_OPEN_EXPOSE (n : Nat) : Fld := ⟨R.COMPOSE_CAM_OPEN n, 32, 26⟩
abbrev F.COMPOSE_CAM_READ_READOUT (n : Nat) : Fld := ⟨R.COMPOSE_CAM_READ n, 0, 26⟩
abbrev F.COMPOSE_SLOT_MASK_MASK : Fld := ⟨R.COMPOSE_SLOT_MASK, 0, 8⟩
abbrev F.COMPOSE_SLOT_STAT_MASK : Fld := ⟨R.COMPOSE_SLOT_STAT, 0, 8⟩
abbrev F.COMPOSE_SLOT_STAT_Q : Fld := ⟨R.COMPOSE_SLOT_STAT, 8, 4⟩
abbrev F.COMPOSE_SLOT_STAT_PWM_BEAT : Fld := ⟨R.COMPOSE_SLOT_STAT, 16, 1⟩
abbrev F.COMPOSE_SLOT_STAT_REPEAT_MASK : Fld := ⟨R.COMPOSE_SLOT_STAT, 17, 1⟩
abbrev F.COMPOSE_SLOT_STAT_USE_PERMILLE : Fld := ⟨R.COMPOSE_SLOT_STAT, 32, 10⟩
abbrev F.COMPOSE_SLOT_STAT_AGAIN : Fld := ⟨R.COMPOSE_SLOT_STAT, 63, 1⟩
abbrev F.LINK_CFG_LANE_ERR_MAX : Fld := ⟨R.LINK_CFG, 0, 16⟩
abbrev F.LINK_OVL_STAT_STATE (n : Nat) : Fld := ⟨R.LINK_OVL_STAT n, 0, 3⟩
abbrev F.LINK_OVL_STAT_RX_LANES (n : Nat) : Fld := ⟨R.LINK_OVL_STAT n, 3, 3⟩
abbrev F.LINK_OVL_STAT_TX_LANES (n : Nat) : Fld := ⟨R.LINK_OVL_STAT n, 6, 3⟩
abbrev F.LINK_OVL_STAT_LOCK_LOST (n : Nat) : Fld := ⟨R.LINK_OVL_STAT n, 16, 1⟩
abbrev F.LINK_OVL_STAT_LANE_RETIRED (n : Nat) : Fld := ⟨R.LINK_OVL_STAT n, 17, 1⟩
abbrev F.LINK_OVL_STAT_CHECK_ERR (n : Nat) : Fld := ⟨R.LINK_OVL_STAT n, 18, 1⟩
abbrev F.LINK_OVL_STAT_RM_OVF (n : Nat) : Fld := ⟨R.LINK_OVL_STAT n, 19, 1⟩
abbrev F.LINK_OVL_STAT_MISWIRED (n : Nat) : Fld := ⟨R.LINK_OVL_STAT n, 20, 1⟩
abbrev F.LINK_OVL_STAT_AGAIN (n : Nat) : Fld := ⟨R.LINK_OVL_STAT n, 63, 1⟩
abbrev F.LINK_OVL_CNT_CHECK_ERRS (n : Nat) : Fld := ⟨R.LINK_OVL_CNT n, 0, 32⟩
abbrev F.LINK_OVL_CNT_STOMPS (n : Nat) : Fld := ⟨R.LINK_OVL_CNT n, 32, 16⟩
abbrev F.LINK_OVL_CNT_RELOCKS (n : Nat) : Fld := ⟨R.LINK_OVL_CNT n, 48, 16⟩
abbrev F.LINK_OVL_PEER_PEER_UID (n : Nat) : Fld := ⟨R.LINK_OVL_PEER n, 0, 64⟩
abbrev F.LINK_LOOP_CFG_EN (n : Nat) : Fld := ⟨R.LINK_LOOP_CFG n, 0, 1⟩
abbrev F.LINK_LOOP_CFG_CODE (n : Nat) : Fld := ⟨R.LINK_LOOP_CFG n, 1, 2⟩
abbrev F.LINK_LOOP_CFG_ENC (n : Nat) : Fld := ⟨R.LINK_LOOP_CFG n, 3, 1⟩
abbrev F.LINK_LOOP_CFG_KEYS (n : Nat) : Fld := ⟨R.LINK_LOOP_CFG n, 4, 1⟩
abbrev F.LINK_LOOP_CFG_RATE (n : Nat) : Fld := ⟨R.LINK_LOOP_CFG n, 5, 2⟩
abbrev F.LINK_LOOP_STAT_STATE (n : Nat) : Fld := ⟨R.LINK_LOOP_STAT n, 0, 3⟩
abbrev F.LINK_LOOP_STAT_CLOSED (n : Nat) : Fld := ⟨R.LINK_LOOP_STAT n, 3, 1⟩
abbrev F.LINK_LOOP_STAT_TILES (n : Nat) : Fld := ⟨R.LINK_LOOP_STAT n, 4, 8⟩
abbrev F.LINK_LOOP_STAT_CUT_AFTER (n : Nat) : Fld := ⟨R.LINK_LOOP_STAT n, 12, 7⟩
abbrev F.LINK_LOOP_STAT_CUT (n : Nat) : Fld := ⟨R.LINK_LOOP_STAT n, 24, 1⟩
abbrev F.LINK_LOOP_STAT_HEALED (n : Nat) : Fld := ⟨R.LINK_LOOP_STAT n, 25, 1⟩
abbrev F.LINK_LOOP_STAT_LAYOUT_BAD (n : Nat) : Fld := ⟨R.LINK_LOOP_STAT n, 26, 1⟩
abbrev F.LINK_LOOP_STAT_DRAIN_ABORT (n : Nat) : Fld := ⟨R.LINK_LOOP_STAT n, 27, 1⟩
abbrev F.LINK_LOOP_STAT_AGAIN (n : Nat) : Fld := ⟨R.LINK_LOOP_STAT n, 63, 1⟩
abbrev F.LINK_TILE_STAT_POSITION : Fld := ⟨R.LINK_TILE_STAT, 0, 7⟩
abbrev F.LINK_TILE_STAT_REVERSED : Fld := ⟨R.LINK_TILE_STAT, 7, 1⟩
abbrev F.LINK_TILE_STAT_LOOP : Fld := ⟨R.LINK_TILE_STAT, 8, 2⟩
abbrev F.LINK_TILE_STAT_SENDER : Fld := ⟨R.LINK_TILE_STAT, 10, 4⟩
abbrev F.LINK_TILE_STAT_IDENT : Fld := ⟨R.LINK_TILE_STAT, 14, 1⟩
abbrev F.LINK_TILE_STAT_KEYED : Fld := ⟨R.LINK_TILE_STAT, 15, 1⟩
abbrev F.LINK_TILE_STAT_RX_DIRS : Fld := ⟨R.LINK_TILE_STAT, 16, 2⟩
abbrev F.LINK_TILE_STAT_INCOMPLETE : Fld := ⟨R.LINK_TILE_STAT, 24, 1⟩
abbrev F.LINK_TILE_STAT_ABORT_RX : Fld := ⟨R.LINK_TILE_STAT, 25, 1⟩
abbrev F.LINK_TILE_STAT_TAG_FAIL : Fld := ⟨R.LINK_TILE_STAT, 26, 1⟩
abbrev F.LINK_TILE_STAT_STALE_SEQ : Fld := ⟨R.LINK_TILE_STAT, 27, 1⟩
abbrev F.LINK_TILE_STAT_AGAIN : Fld := ⟨R.LINK_TILE_STAT, 63, 1⟩
abbrev F.LINK_TILE_CNT_COMPLETE : Fld := ⟨R.LINK_TILE_CNT, 0, 32⟩
abbrev F.LINK_TILE_CNT_INCOMPLETE : Fld := ⟨R.LINK_TILE_CNT, 32, 16⟩
abbrev F.LINK_TILE_CNT_ABORTED : Fld := ⟨R.LINK_TILE_CNT, 48, 16⟩
abbrev F.CTRL_PAIR_CFG_TWIN : Fld := ⟨R.CTRL_PAIR_CFG, 0, 1⟩
abbrev F.CTRL_PAIR_CFG_MUTE_EN : Fld := ⟨R.CTRL_PAIR_CFG, 1, 1⟩
abbrev F.CTRL_PAIR_CFG_DIVERGE_LIMIT : Fld := ⟨R.CTRL_PAIR_CFG, 8, 8⟩
abbrev F.CTRL_PAIR_CFG_HOLDOFF_S : Fld := ⟨R.CTRL_PAIR_CFG, 16, 10⟩
abbrev F.CTRL_PAIR_CFG_SEL_TOL_US : Fld := ⟨R.CTRL_PAIR_CFG, 32, 16⟩
abbrev F.CTRL_PAIR_STAT_STATE : Fld := ⟨R.CTRL_PAIR_STAT, 0, 2⟩
abbrev F.CTRL_PAIR_STAT_PREF : Fld := ⟨R.CTRL_PAIR_STAT, 2, 1⟩
abbrev F.CTRL_PAIR_STAT_PAIR_UP : Fld := ⟨R.CTRL_PAIR_STAT, 3, 1⟩
abbrev F.CTRL_PAIR_STAT_MUTED : Fld := ⟨R.CTRL_PAIR_STAT, 4, 1⟩
abbrev F.CTRL_PAIR_STAT_IN_SYNC : Fld := ⟨R.CTRL_PAIR_STAT, 5, 1⟩
abbrev F.CTRL_PAIR_STAT_EXPIRED : Fld := ⟨R.CTRL_PAIR_STAT, 8, 1⟩
abbrev F.CTRL_PAIR_STAT_TAKEOVER : Fld := ⟨R.CTRL_PAIR_STAT, 9, 1⟩
abbrev F.CTRL_PAIR_STAT_HANDOVER : Fld := ⟨R.CTRL_PAIR_STAT, 10, 1⟩
abbrev F.CTRL_PAIR_STAT_DUAL_HOLDER : Fld := ⟨R.CTRL_PAIR_STAT, 11, 1⟩
abbrev F.CTRL_PAIR_STAT_DIVERGE : Fld := ⟨R.CTRL_PAIR_STAT, 12, 1⟩
abbrev F.CTRL_PAIR_STAT_SEL_MISS : Fld := ⟨R.CTRL_PAIR_STAT, 13, 1⟩
abbrev F.CTRL_PAIR_STAT_MIRROR_FAIL : Fld := ⟨R.CTRL_PAIR_STAT, 14, 1⟩
abbrev F.CTRL_PAIR_STAT_PAIR_DOWN : Fld := ⟨R.CTRL_PAIR_STAT, 15, 1⟩
abbrev F.CTRL_PAIR_STAT_PREF_CONFLICT : Fld := ⟨R.CTRL_PAIR_STAT, 16, 1⟩
abbrev F.CTRL_PAIR_STAT_STALE_TAKEOVER : Fld := ⟨R.CTRL_PAIR_STAT, 17, 1⟩
abbrev F.CTRL_PAIR_STAT_CMD_REJECT : Fld := ⟨R.CTRL_PAIR_STAT, 18, 1⟩
abbrev F.CTRL_PAIR_STAT_AGAIN : Fld := ⟨R.CTRL_PAIR_STAT, 63, 1⟩
abbrev F.CTRL_PAIR_TERM_TERM : Fld := ⟨R.CTRL_PAIR_TERM, 0, 32⟩
abbrev F.CTRL_PAIR_TERM_MIRROR_EPOCH : Fld := ⟨R.CTRL_PAIR_TERM, 32, 32⟩
abbrev F.CTRL_PAIR_CNT_TAKEOVERS : Fld := ⟨R.CTRL_PAIR_CNT, 0, 16⟩
abbrev F.CTRL_PAIR_CNT_HANDOVERS : Fld := ⟨R.CTRL_PAIR_CNT, 16, 16⟩
abbrev F.CTRL_PAIR_CNT_DIVERGE_CNT : Fld := ⟨R.CTRL_PAIR_CNT, 32, 16⟩
abbrev F.CTRL_PAIR_CNT_REJECTS : Fld := ⟨R.CTRL_PAIR_CNT, 48, 16⟩
abbrev F.TIME_NOW_S_SECONDS : Fld := ⟨R.TIME_NOW_S, 0, 64⟩
abbrev F.TIME_NOW_NS_NS : Fld := ⟨R.TIME_NOW_NS, 0, 30⟩
abbrev F.TIME_NOW_NS_FRAC : Fld := ⟨R.TIME_NOW_NS, 32, 32⟩
abbrev F.TIME_CFG_SRC : Fld := ⟨R.TIME_CFG, 0, 3⟩
abbrev F.TIME_CFG_MGMT_FALLBACK : Fld := ⟨R.TIME_CFG, 3, 1⟩
abbrev F.TIME_CFG_COARSE : Fld := ⟨R.TIME_CFG, 4, 2⟩
abbrev F.TIME_CFG_MAX_SLEW_PPM : Fld := ⟨R.TIME_CFG, 8, 8⟩
abbrev F.TIME_CFG_STEP_US : Fld := ⟨R.TIME_CFG, 16, 16⟩
abbrev F.TIME_CFG_HOLD_LIMIT_S : Fld := ⟨R.TIME_CFG, 32, 16⟩
abbrev F.TIME_PTP_CFG_DOMAIN : Fld := ⟨R.TIME_PTP_CFG, 0, 7⟩
abbrev F.TIME_PTP_CFG_UNICAST_DREQ : Fld := ⟨R.TIME_PTP_CFG, 7, 1⟩
abbrev F.TIME_PTP_CFG_ANN_TIMEOUT : Fld := ⟨R.TIME_PTP_CFG, 8, 4⟩
abbrev F.TIME_PTP_CFG_PORTS : Fld := ⟨R.TIME_PTP_CFG, 12, 2⟩
abbrev F.TIME_PTP_CFG_MGMT_EN : Fld := ⟨R.TIME_PTP_CFG, 14, 1⟩
abbrev F.TIME_PTP_CFG_ASYM_PS : Fld := ⟨R.TIME_PTP_CFG, 16, 32⟩
abbrev F.TIME_FRAME_TF_NUM : Fld := ⟨R.TIME_FRAME_TF, 0, 32⟩
abbrev F.TIME_FRAME_TF_DEN : Fld := ⟨R.TIME_FRAME_TF, 32, 32⟩
abbrev F.TIME_FRAME_BASE_S_BASE_S : Fld := ⟨R.TIME_FRAME_BASE_S, 0, 64⟩
abbrev F.TIME_FRAME_BASE_NS_BASE_NS : Fld := ⟨R.TIME_FRAME_BASE_NS, 0, 30⟩
abbrev F.TIME_FRAME_BASE_N_BASE_N : Fld := ⟨R.TIME_FRAME_BASE_N, 0, 64⟩
abbrev F.TIME_FSYNC_IN_CFG_MODE : Fld := ⟨R.TIME_FSYNC_IN_CFG, 0, 2⟩
abbrev F.TIME_FSYNC_IN_CFG_POL : Fld := ⟨R.TIME_FSYNC_IN_CFG, 2, 1⟩
abbrev F.TIME_FSYNC_IN_CFG_CABLE_PS : Fld := ⟨R.TIME_FSYNC_IN_CFG, 8, 24⟩
abbrev F.TIME_FSYNC_IN_CFG_OFFSET : Fld := ⟨R.TIME_FSYNC_IN_CFG, 32, 32⟩
abbrev F.TIME_FSYNC_OUT_CFG_MODE (n : Nat) : Fld := ⟨R.TIME_FSYNC_OUT_CFG n, 0, 3⟩
abbrev F.TIME_FSYNC_OUT_CFG_POL (n : Nat) : Fld := ⟨R.TIME_FSYNC_OUT_CFG n, 3, 1⟩
abbrev F.TIME_FSYNC_OUT_CFG_DIV (n : Nat) : Fld := ⟨R.TIME_FSYNC_OUT_CFG n, 4, 2⟩
abbrev F.TIME_FSYNC_OUT_CFG_PHASE (n : Nat) : Fld := ⟨R.TIME_FSYNC_OUT_CFG n, 6, 2⟩
abbrev F.TIME_FSYNC_OUT_CFG_SLOT (n : Nat) : Fld := ⟨R.TIME_FSYNC_OUT_CFG n, 8, 3⟩
abbrev F.TIME_FSYNC_OUT_CFG_WIDTH (n : Nat) : Fld := ⟨R.TIME_FSYNC_OUT_CFG n, 12, 16⟩
abbrev F.TIME_FSYNC_OUT_CFG_OFFSET (n : Nat) : Fld := ⟨R.TIME_FSYNC_OUT_CFG n, 32, 32⟩
abbrev F.TIME_STAT_STATE : Fld := ⟨R.TIME_STAT, 0, 2⟩
abbrev F.TIME_STAT_SRC_IN_USE : Fld := ⟨R.TIME_STAT, 4, 3⟩
abbrev F.TIME_STAT_SIDE : Fld := ⟨R.TIME_STAT, 7, 1⟩
abbrev F.TIME_STAT_LOCK_LOST : Fld := ⟨R.TIME_STAT, 8, 1⟩
abbrev F.TIME_STAT_MASTER_CHANGE : Fld := ⟨R.TIME_STAT, 9, 1⟩
abbrev F.TIME_STAT_STEPPED : Fld := ⟨R.TIME_STAT, 10, 1⟩
abbrev F.TIME_STAT_OFFSET_LARGE : Fld := ⟨R.TIME_STAT, 11, 1⟩
abbrev F.TIME_STAT_FSYNC_LOST : Fld := ⟨R.TIME_STAT, 12, 1⟩
abbrev F.TIME_STAT_HOLD_LONG : Fld := ⟨R.TIME_STAT, 13, 1⟩
abbrev F.TIME_STAT_SIDE_CHANGE : Fld := ⟨R.TIME_STAT, 14, 1⟩
abbrev F.TIME_STAT_FALLBACK : Fld := ⟨R.TIME_STAT, 15, 1⟩
abbrev F.TIME_STAT_HOPS : Fld := ⟨R.TIME_STAT, 16, 7⟩
abbrev F.TIME_STAT_AGAIN : Fld := ⟨R.TIME_STAT, 63, 1⟩
abbrev F.TIME_SERVO_OFFSET_PS : Fld := ⟨R.TIME_SERVO, 0, 32⟩
abbrev F.TIME_SERVO_RATE_PPB : Fld := ⟨R.TIME_SERVO, 32, 32⟩
abbrev F.TIME_PTP_INFO_PORT_IN_USE : Fld := ⟨R.TIME_PTP_INFO, 0, 2⟩
abbrev F.TIME_PTP_INFO_STEPS_REMOVED : Fld := ⟨R.TIME_PTP_INFO, 8, 8⟩
abbrev F.TIME_PTP_INFO_UTC_OFFSET : Fld := ⟨R.TIME_PTP_INFO, 16, 16⟩
abbrev F.TIME_PTP_INFO_UTC_VALID : Fld := ⟨R.TIME_PTP_INFO, 32, 1⟩
abbrev F.TIME_PTP_INFO_LEAP61 : Fld := ⟨R.TIME_PTP_INFO, 33, 1⟩
abbrev F.TIME_PTP_INFO_LEAP59 : Fld := ⟨R.TIME_PTP_INFO, 34, 1⟩
abbrev F.TIME_PTP_INFO_MEAN_PATH_NS : Fld := ⟨R.TIME_PTP_INFO, 40, 24⟩
abbrev F.TIME_PTP_GM_GM_ID : Fld := ⟨R.TIME_PTP_GM, 0, 64⟩
abbrev F.TIME_FSYNC_STAT_IN_OFFSET_PS : Fld := ⟨R.TIME_FSYNC_STAT, 0, 32⟩
abbrev F.TIME_FSYNC_STAT_IN_PRESENT : Fld := ⟨R.TIME_FSYNC_STAT, 32, 1⟩
abbrev F.TIME_FSYNC_STAT_IN_EDGE_ERR : Fld := ⟨R.TIME_FSYNC_STAT, 33, 1⟩
abbrev F.TIME_FSYNC_STAT_AGAIN : Fld := ⟨R.TIME_FSYNC_STAT, 63, 1⟩
abbrev F.TIME_LOOP_SIDE_THETA_PS (n : Nat) : Fld := ⟨R.TIME_LOOP_SIDE n, 0, 32⟩
abbrev F.TIME_LOOP_SIDE_DELAY_PS (n : Nat) : Fld := ⟨R.TIME_LOOP_SIDE n, 32, 24⟩
abbrev F.TIME_LOOP_SIDE_HOPS (n : Nat) : Fld := ⟨R.TIME_LOOP_SIDE n, 56, 7⟩
abbrev F.TIME_LOOP_SIDE_VALID (n : Nat) : Fld := ⟨R.TIME_LOOP_SIDE n, 63, 1⟩
abbrev F.LAMP_COR_CFG_DITHER_EN : Fld := ⟨R.LAMP_COR_CFG, 0, 1⟩
abbrev F.LAMP_COR_CFG_PLAIN_LEVEL : Fld := ⟨R.LAMP_COR_CFG, 8, 9⟩
abbrev F.LAMP_COR_CFG_FILL : Fld := ⟨R.LAMP_COR_CFG, 32, 16⟩
abbrev F.LAMP_COR_CFG_AGE_CAP : Fld := ⟨R.LAMP_COR_CFG, 48, 16⟩
abbrev F.LAMP_TBL_INFO_WIDTH : Fld := ⟨R.LAMP_TBL_INFO, 0, 16⟩
abbrev F.LAMP_TBL_INFO_HEIGHT : Fld := ⟨R.LAMP_TBL_INFO, 16, 16⟩
abbrev F.LAMP_TBL_INFO_W_EN : Fld := ⟨R.LAMP_TBL_INFO, 32, 1⟩
abbrev F.LAMP_TBL_INFO_ZONES : Fld := ⟨R.LAMP_TBL_INFO, 33, 2⟩
abbrev F.LAMP_TBL_INFO_CLASSES : Fld := ⟨R.LAMP_TBL_INFO, 35, 6⟩
abbrev F.LAMP_TBL_EPOCH_EPOCH : Fld := ⟨R.LAMP_TBL_EPOCH, 0, 32⟩
abbrev F.LAMP_TBL_EPOCH_FLASH_EPOCH : Fld := ⟨R.LAMP_TBL_EPOCH, 32, 32⟩
abbrev F.LAMP_COR_GAIN_G_R : Fld := ⟨R.LAMP_COR_GAIN, 0, 16⟩
abbrev F.LAMP_COR_GAIN_G_G : Fld := ⟨R.LAMP_COR_GAIN, 16, 16⟩
abbrev F.LAMP_COR_GAIN_G_B : Fld := ⟨R.LAMP_COR_GAIN, 32, 16⟩
abbrev F.LAMP_COR_GAIN_G_W : Fld := ⟨R.LAMP_COR_GAIN, 48, 16⟩
abbrev F.LAMP_COR_TEMP_T0 : Fld := ⟨R.LAMP_COR_TEMP, 0, 16⟩
abbrev F.LAMP_COR_TEMP_T1 : Fld := ⟨R.LAMP_COR_TEMP, 16, 16⟩
abbrev F.LAMP_COR_TEMP_T2 : Fld := ⟨R.LAMP_COR_TEMP, 32, 16⟩
abbrev F.LAMP_COR_TEMP_T3 : Fld := ⟨R.LAMP_COR_TEMP, 48, 16⟩
abbrev F.LAMP_COR_STAT_REPEATED : Fld := ⟨R.LAMP_COR_STAT, 0, 1⟩
abbrev F.LAMP_COR_STAT_CLIP : Fld := ⟨R.LAMP_COR_STAT, 1, 1⟩
abbrev F.LAMP_COR_STAT_AGE_CAPPED : Fld := ⟨R.LAMP_COR_STAT, 2, 1⟩
abbrev F.LAMP_COR_STAT_TEMP_SUBST : Fld := ⟨R.LAMP_COR_STAT, 3, 1⟩
abbrev F.LAMP_COR_STAT_TABLE_REJECT : Fld := ⟨R.LAMP_COR_STAT, 4, 1⟩
abbrev F.LAMP_COR_STAT_MAP_FULL : Fld := ⟨R.LAMP_COR_STAT, 5, 1⟩
abbrev F.LAMP_COR_STAT_LAST_CAUSE : Fld := ⟨R.LAMP_COR_STAT, 8, 4⟩
abbrev F.LAMP_COR_STAT_ALT : Fld := ⟨R.LAMP_COR_STAT, 12, 1⟩
abbrev F.LAMP_COR_STAT_AGAIN : Fld := ⟨R.LAMP_COR_STAT, 63, 1⟩
abbrev F.LAMP_COR_CNT_REPEATS : Fld := ⟨R.LAMP_COR_CNT, 0, 32⟩
abbrev F.LAMP_COR_CNT_CLIP_FRAMES : Fld := ⟨R.LAMP_COR_CNT, 32, 16⟩
abbrev F.LAMP_COR_SHOW_FRAME : Fld := ⟨R.LAMP_COR_SHOW, 0, 64⟩
abbrev F.LAMP_LEDGER_CFG_EN : Fld := ⟨R.LAMP_LEDGER_CFG, 0, 1⟩
abbrev F.LAMP_LEDGER_CFG_TD : Fld := ⟨R.LAMP_LEDGER_CFG, 8, 8⟩
abbrev F.LAMP_LEDGER_STAT_EPOCH : Fld := ⟨R.LAMP_LEDGER_STAT, 0, 32⟩
abbrev F.LAMP_LEDGER_STAT_SAVING : Fld := ⟨R.LAMP_LEDGER_STAT, 32, 1⟩
abbrev F.LAMP_LEDGER_STAT_SAVE_FAIL : Fld := ⟨R.LAMP_LEDGER_STAT, 33, 1⟩
abbrev F.LAMP_LEDGER_STAT_ESTIMATED : Fld := ⟨R.LAMP_LEDGER_STAT, 34, 1⟩
abbrev F.LAMP_LEDGER_STAT_NO_LEDGER : Fld := ⟨R.LAMP_LEDGER_STAT, 35, 1⟩
abbrev F.LAMP_LEDGER_STAT_SKIPPED : Fld := ⟨R.LAMP_LEDGER_STAT, 36, 1⟩
abbrev F.LAMP_LEDGER_STAT_AGAIN : Fld := ⟨R.LAMP_LEDGER_STAT, 63, 1⟩
abbrev F.LAMP_LEDGER_TIME_SAVED_S : Fld := ⟨R.LAMP_LEDGER_TIME, 0, 64⟩
abbrev F.LAMP_MAP_CTRL_CLEAR : Fld := ⟨R.LAMP_MAP_CTRL, 0, 1⟩
abbrev F.LAMP_MAP_STAT_ENTRIES : Fld := ⟨R.LAMP_MAP_STAT, 0, 13⟩
abbrev F.LAMP_MAP_E_ENTRY (n : Nat) : Fld := ⟨R.LAMP_MAP_E n, 0, 64⟩
abbrev F.LAMP_RAIL_CFG_MODE (n : Nat) : Fld := ⟨R.LAMP_RAIL_CFG n, 0, 2⟩
abbrev F.LAMP_RAIL_CFG_SEQ (n : Nat) : Fld := ⟨R.LAMP_RAIL_CFG n, 2, 4⟩
abbrev F.LAMP_RAIL_CFG_HR_EN (n : Nat) : Fld := ⟨R.LAMP_RAIL_CFG n, 6, 1⟩
abbrev F.LAMP_RAIL_CFG_FSW (n : Nat) : Fld := ⟨R.LAMP_RAIL_CFG n, 8, 6⟩
abbrev F.LAMP_RAIL_CFG_TARGET (n : Nat) : Fld := ⟨R.LAMP_RAIL_CFG n, 16, 12⟩
abbrev F.LAMP_RAIL_CFG_HR_MV (n : Nat) : Fld := ⟨R.LAMP_RAIL_CFG n, 32, 12⟩
abbrev F.LAMP_RAIL_CFG_SOFT (n : Nat) : Fld := ⟨R.LAMP_RAIL_CFG n, 48, 8⟩
abbrev F.LAMP_RAIL_LIM_VMIN_MV (n : Nat) : Fld := ⟨R.LAMP_RAIL_LIM n, 0, 12⟩
abbrev F.LAMP_RAIL_LIM_VMAX_MV (n : Nat) : Fld := ⟨R.LAMP_RAIL_LIM n, 12, 12⟩
abbrev F.LAMP_RAIL_LIM_OC_MV (n : Nat) : Fld := ⟨R.LAMP_RAIL_LIM n, 24, 8⟩
abbrev F.LAMP_RAIL_LIM_RETRY_MAX (n : Nat) : Fld := ⟨R.LAMP_RAIL_LIM n, 32, 3⟩
abbrev F.LAMP_RAIL_STAT_STATE (n : Nat) : Fld := ⟨R.LAMP_RAIL_STAT n, 0, 3⟩
abbrev F.LAMP_RAIL_STAT_REF (n : Nat) : Fld := ⟨R.LAMP_RAIL_STAT n, 16, 12⟩
abbrev F.LAMP_RAIL_STAT_CUT (n : Nat) : Fld := ⟨R.LAMP_RAIL_STAT n, 32, 1⟩
abbrev F.LAMP_RAIL_STAT_UV (n : Nat) : Fld := ⟨R.LAMP_RAIL_STAT n, 33, 1⟩
abbrev F.LAMP_RAIL_STAT_HR_LIMIT (n : Nat) : Fld := ⟨R.LAMP_RAIL_STAT n, 34, 1⟩
abbrev F.LAMP_RAIL_STAT_SEQ_TIMEOUT (n : Nat) : Fld := ⟨R.LAMP_RAIL_STAT n, 35, 1⟩
abbrev F.LAMP_RAIL_STAT_CUTS (n : Nat) : Fld := ⟨R.LAMP_RAIL_STAT n, 40, 8⟩
abbrev F.LAMP_RAIL_STAT_AGAIN (n : Nat) : Fld := ⟨R.LAMP_RAIL_STAT n, 63, 1⟩
abbrev F.LAMP_TRIM_CFG_BASE (n : Nat) : Fld := ⟨R.LAMP_TRIM_CFG n, 0, 12⟩
abbrev F.LAMP_TRIM_CFG_RANGE (n : Nat) : Fld := ⟨R.LAMP_TRIM_CFG n, 12, 2⟩
abbrev F.LAMP_TRIM_CFG_EN (n : Nat) : Fld := ⟨R.LAMP_TRIM_CFG n, 14, 1⟩
abbrev F.LAMP_TRIM_CFG_ADJ (n : Nat) : Fld := ⟨R.LAMP_TRIM_CFG n, 16, 13⟩
abbrev F.LAMP_TRIM_CFG_EFF (n : Nat) : Fld := ⟨R.LAMP_TRIM_CFG n, 32, 12⟩
abbrev F.LAMP_DRV_CFG_BRIGHT : Fld := ⟨R.LAMP_DRV_CFG, 0, 16⟩
abbrev F.LAMP_FAULT_CFG_POLICY : Fld := ⟨R.LAMP_FAULT_CFG, 0, 2⟩
abbrev F.LAMP_FAULT_CFG_PROOF_EN : Fld := ⟨R.LAMP_FAULT_CFG, 2, 1⟩
abbrev F.LAMP_FAULT_CFG_CONFIRM : Fld := ⟨R.LAMP_FAULT_CFG, 8, 4⟩
abbrev F.LAMP_FAULT_CFG_DIAG_S : Fld := ⟨R.LAMP_FAULT_CFG, 16, 8⟩
abbrev F.LAMP_FAULT_CFG_DT_S : Fld := ⟨R.LAMP_FAULT_CFG, 24, 8⟩
abbrev F.LAMP_LPROG_INFO_LINES : Fld := ⟨R.LAMP_LPROG_INFO, 0, 7⟩
abbrev F.LAMP_LPROG_INFO_DECODER : Fld := ⟨R.LAMP_LPROG_INFO, 7, 1⟩
abbrev F.LAMP_LPROG_INFO_BANKS : Fld := ⟨R.LAMP_LPROG_INFO, 8, 2⟩
abbrev F.LAMP_LPROG_INFO_BITS : Fld := ⟨R.LAMP_LPROG_INFO, 16, 8⟩
abbrev F.LAMP_LPROG_INFO_RB : Fld := ⟨R.LAMP_LPROG_INFO, 24, 1⟩
abbrev F.LAMP_LPROG_INFO_PROOF : Fld := ⟨R.LAMP_LPROG_INFO, 25, 1⟩
abbrev F.LAMP_LPROG_INFO_F_MAX : Fld := ⟨R.LAMP_LPROG_INFO, 32, 16⟩
abbrev F.LAMP_LPROG_INFO_GROUPS : Fld := ⟨R.LAMP_LPROG_INFO, 48, 16⟩
abbrev F.LAMP_DRV_STAT_LATE_GRP : Fld := ⟨R.LAMP_DRV_STAT, 0, 16⟩
abbrev F.LAMP_DRV_STAT_UPLOAD_LATE : Fld := ⟨R.LAMP_DRV_STAT, 16, 1⟩
abbrev F.LAMP_DRV_STAT_TPULSE_LATE : Fld := ⟨R.LAMP_DRV_STAT, 17, 1⟩
abbrev F.LAMP_DRV_STAT_LPROG_MISMATCH : Fld := ⟨R.LAMP_DRV_STAT, 18, 1⟩
abbrev F.LAMP_DRV_STAT_AGAIN : Fld := ⟨R.LAMP_DRV_STAT, 63, 1⟩
abbrev F.LAMP_DIAG_STAT_OPEN : Fld := ⟨R.LAMP_DIAG_STAT, 0, 1⟩
abbrev F.LAMP_DIAG_STAT_SHORT : Fld := ⟨R.LAMP_DIAG_STAT, 1, 1⟩
abbrev F.LAMP_DIAG_STAT_SCAN_SHORT : Fld := ⟨R.LAMP_DIAG_STAT, 2, 1⟩
abbrev F.LAMP_DIAG_STAT_COVERAGE_LOW : Fld := ⟨R.LAMP_DIAG_STAT, 3, 1⟩
abbrev F.LAMP_DIAG_STAT_LATCHED : Fld := ⟨R.LAMP_DIAG_STAT, 4, 1⟩
abbrev F.LAMP_DIAG_STAT_LINE : Fld := ⟨R.LAMP_DIAG_STAT, 8, 7⟩
abbrev F.LAMP_DIAG_STAT_AGAIN : Fld := ⟨R.LAMP_DIAG_STAT, 63, 1⟩
abbrev F.LAMP_DIAG_CNT_UNVERIFIED : Fld := ⟨R.LAMP_DIAG_CNT, 0, 23⟩
abbrev F.LAMP_DIAG_CNT_COVER_PERMILLE : Fld := ⟨R.LAMP_DIAG_CNT, 32, 10⟩
abbrev F.LAMP_DIAG_CNT_PROOF_MISSED : Fld := ⟨R.LAMP_DIAG_CNT, 48, 16⟩
abbrev F.LAMP_FAULT_CTRL_RESUME : Fld := ⟨R.LAMP_FAULT_CTRL, 0, 1⟩
abbrev F.LAMP_CAP_STAT_CAP : Fld := ⟨R.LAMP_CAP_STAT, 0, 16⟩
abbrev F.LAMP_CAP_STAT_BLANK : Fld := ⟨R.LAMP_CAP_STAT, 16, 1⟩
abbrev F.LAMP_CAP_STAT_CAP_LATE : Fld := ⟨R.LAMP_CAP_STAT, 17, 1⟩
abbrev F.LAMP_CAP_STAT_AGAIN : Fld := ⟨R.LAMP_CAP_STAT, 63, 1⟩
abbrev F.CTRL_CAP_CFG_CAP_STEP : Fld := ⟨R.CTRL_CAP_CFG, 0, 16⟩
abbrev F.CTRL_CAP_CFG_CAP_MIN : Fld := ⟨R.CTRL_CAP_CFG, 16, 16⟩
abbrev F.CTRL_CAP_CFG_CAP_INTERVAL_MS : Fld := ⟨R.CTRL_CAP_CFG, 32, 16⟩
abbrev F.CTRL_CAP_CFG_CAP_RECOVER_S : Fld := ⟨R.CTRL_CAP_CFG, 48, 8⟩
abbrev F.CTRL_CAP_EXT_CAP_EXT : Fld := ⟨R.CTRL_CAP_EXT, 0, 16⟩
abbrev F.CTRL_CAP_STAT_CAP : Fld := ⟨R.CTRL_CAP_STAT, 0, 16⟩
abbrev F.CTRL_CAP_STAT_WALL_BLANK : Fld := ⟨R.CTRL_CAP_STAT, 16, 1⟩
abbrev F.CTRL_CAP_STAT_LOWERED : Fld := ⟨R.CTRL_CAP_STAT, 17, 1⟩
abbrev F.CTRL_CAP_STAT_THROTTLING : Fld := ⟨R.CTRL_CAP_STAT, 32, 10⟩
abbrev F.CTRL_CAP_STAT_AGAIN : Fld := ⟨R.CTRL_CAP_STAT, 63, 1⟩
abbrev F.CTRL_CAP_CTRL_BLANK : Fld := ⟨R.CTRL_CAP_CTRL, 0, 1⟩
abbrev F.LAMP_PHOTO_CFG_FB_MODE : Fld := ⟨R.LAMP_PHOTO_CFG, 0, 2⟩
abbrev F.LAMP_PHOTO_CFG_CAL_DELTA : Fld := ⟨R.LAMP_PHOTO_CFG, 8, 8⟩
abbrev F.LAMP_PHOTO_CFG_WINDOW : Fld := ⟨R.LAMP_PHOTO_CFG, 16, 12⟩
abbrev F.LAMP_PHOTO_CFG_AGREE_PERMILLE : Fld := ⟨R.LAMP_PHOTO_CFG, 28, 8⟩
abbrev F.LAMP_PHOTO_CFG_RUN_MAX : Fld := ⟨R.LAMP_PHOTO_CFG, 36, 4⟩
abbrev F.LAMP_PHOTO_CFG_PERIOD_H : Fld := ⟨R.LAMP_PHOTO_CFG, 40, 8⟩
abbrev F.LAMP_PHOTO_CFG_FB_STEP_PERMILLE : Fld := ⟨R.LAMP_PHOTO_CFG, 48, 8⟩
abbrev F.LAMP_PHOTO_CFG_RETRY_MIN : Fld := ⟨R.LAMP_PHOTO_CFG, 56, 8⟩
abbrev F.LAMP_PHOTO_LIM_FB_TRIM_MAX : Fld := ⟨R.LAMP_PHOTO_LIM, 0, 10⟩
abbrev F.LAMP_PHOTO_LIM_GCOL_MIN : Fld := ⟨R.LAMP_PHOTO_LIM, 16, 16⟩
abbrev F.LAMP_PHOTO_LIM_GCOL_MAX : Fld := ⟨R.LAMP_PHOTO_LIM, 32, 16⟩
abbrev F.LAMP_PHOTO_LIM_MIN_SD_PERMILLE : Fld := ⟨R.LAMP_PHOTO_LIM, 48, 8⟩
abbrev F.LAMP_PHOTO_CTRL_FB_CLEAR : Fld := ⟨R.LAMP_PHOTO_CTRL, 0, 1⟩
abbrev F.LAMP_PHOTO_VAL_LIT (n : Nat) : Fld := ⟨R.LAMP_PHOTO_VAL n, 0, 16⟩
abbrev F.LAMP_PHOTO_VAL_DARK (n : Nat) : Fld := ⟨R.LAMP_PHOTO_VAL n, 16, 16⟩
abbrev F.LAMP_PHOTO_VAL_FRAMES (n : Nat) : Fld := ⟨R.LAMP_PHOTO_VAL n, 32, 16⟩
abbrev F.LAMP_PHOTO_VAL_STALE (n : Nat) : Fld := ⟨R.LAMP_PHOTO_VAL n, 48, 1⟩
abbrev F.LAMP_PHOTO_VAL_CAL_OK (n : Nat) : Fld := ⟨R.LAMP_PHOTO_VAL n, 49, 1⟩
abbrev F.LAMP_PHOTO_K_K_R (n : Nat) : Fld := ⟨R.LAMP_PHOTO_K n, 0, 16⟩
abbrev F.LAMP_PHOTO_K_K_G (n : Nat) : Fld := ⟨R.LAMP_PHOTO_K n, 16, 16⟩
abbrev F.LAMP_PHOTO_K_K_B (n : Nat) : Fld := ⟨R.LAMP_PHOTO_K n, 32, 16⟩
abbrev F.LAMP_PHOTO_K_K_W (n : Nat) : Fld := ⟨R.LAMP_PHOTO_K n, 48, 16⟩
abbrev F.LAMP_CAL_STAT_STATE : Fld := ⟨R.LAMP_CAL_STAT, 0, 2⟩
abbrev F.LAMP_CAL_STAT_LAST_RESULT : Fld := ⟨R.LAMP_CAL_STAT, 8, 8⟩
abbrev F.LAMP_CAL_STAT_ACCEPTED_MASK : Fld := ⟨R.LAMP_CAL_STAT, 16, 8⟩
abbrev F.LAMP_CAL_STAT_ACCEPTED : Fld := ⟨R.LAMP_CAL_STAT, 32, 1⟩
abbrev F.LAMP_CAL_STAT_REJECTED : Fld := ⟨R.LAMP_CAL_STAT, 33, 1⟩
abbrev F.LAMP_CAL_STAT_NO_CONTENT : Fld := ⟨R.LAMP_CAL_STAT, 34, 1⟩
abbrev F.LAMP_CAL_STAT_FB_LIMIT : Fld := ⟨R.LAMP_CAL_STAT, 35, 1⟩
abbrev F.LAMP_CAL_STAT_PREDICT_FAIL : Fld := ⟨R.LAMP_CAL_STAT, 36, 1⟩
abbrev F.LAMP_CAL_STAT_ABANDONED : Fld := ⟨R.LAMP_CAL_STAT, 37, 1⟩
abbrev F.LAMP_CAL_STAT_SAT : Fld := ⟨R.LAMP_CAL_STAT, 38, 1⟩
abbrev F.LAMP_CAL_STAT_AGAIN : Fld := ⟨R.LAMP_CAL_STAT, 63, 1⟩
abbrev F.LAMP_CAL_INFO_RUNS : Fld := ⟨R.LAMP_CAL_INFO, 0, 16⟩
abbrev F.LAMP_CAL_INFO_REJECTS : Fld := ⟨R.LAMP_CAL_INFO, 16, 16⟩
abbrev F.LAMP_CAL_TIME_SECONDS : Fld := ⟨R.LAMP_CAL_TIME, 0, 64⟩
abbrev F.LAMP_CAL_TZ_T0 : Fld := ⟨R.LAMP_CAL_TZ, 0, 16⟩
abbrev F.LAMP_CAL_TZ_T1 : Fld := ⟨R.LAMP_CAL_TZ, 16, 16⟩
abbrev F.LAMP_CAL_TZ_T2 : Fld := ⟨R.LAMP_CAL_TZ, 32, 16⟩
abbrev F.LAMP_CAL_TZ_T3 : Fld := ⟨R.LAMP_CAL_TZ, 48, 16⟩
abbrev F.LAMP_PHOTO_FB_C_R : Fld := ⟨R.LAMP_PHOTO_FB, 0, 16⟩
abbrev F.LAMP_PHOTO_FB_C_G : Fld := ⟨R.LAMP_PHOTO_FB, 16, 16⟩
abbrev F.LAMP_PHOTO_FB_C_B : Fld := ⟨R.LAMP_PHOTO_FB, 32, 16⟩
abbrev F.LAMP_PHOTO_FB_C_W : Fld := ⟨R.LAMP_PHOTO_FB, 48, 16⟩
abbrev F.LAMP_HKA_RAIL_V_MV (n : Nat) : Fld := ⟨R.LAMP_HKA_RAIL n, 0, 16⟩
abbrev F.LAMP_HKA_RAIL_ISH (n : Nat) : Fld := ⟨R.LAMP_HKA_RAIL n, 16, 16⟩
abbrev F.LAMP_HKA_RAIL_OFS (n : Nat) : Fld := ⟨R.LAMP_HKA_RAIL n, 32, 16⟩
abbrev F.KEEP_THERM_LIM_WARN : Fld := ⟨R.KEEP_THERM_LIM, 0, 8⟩
abbrev F.KEEP_THERM_LIM_THROT : Fld := ⟨R.KEEP_THERM_LIM, 8, 8⟩
abbrev F.KEEP_THERM_LIM_SHUT : Fld := ⟨R.KEEP_THERM_LIM, 16, 8⟩
abbrev F.KEEP_THERM_LIM_EXT_WARN : Fld := ⟨R.KEEP_THERM_LIM, 24, 8⟩
abbrev F.KEEP_THERM_LIM_EXT_THROT : Fld := ⟨R.KEEP_THERM_LIM, 32, 8⟩
abbrev F.KEEP_THERM_LIM_EXT_SHUT : Fld := ⟨R.KEEP_THERM_LIM, 40, 8⟩
abbrev F.KEEP_THERM_CFG_EXT_EN : Fld := ⟨R.KEEP_THERM_CFG, 0, 4⟩
abbrev F.KEEP_THERM_CFG_STOP_MS : Fld := ⟨R.KEEP_THERM_CFG, 8, 8⟩
abbrev F.KEEP_THERM_CFG_AUTO_RESET : Fld := ⟨R.KEEP_THERM_CFG, 16, 1⟩
abbrev F.KEEP_SAFE_CFG_FREEZE_LIMIT : Fld := ⟨R.KEEP_SAFE_CFG, 0, 8⟩
abbrev F.KEEP_SAFE_CFG_FAULT_PIN : Fld := ⟨R.KEEP_SAFE_CFG, 8, 1⟩
abbrev F.KEEP_THERM_STAT_STATE : Fld := ⟨R.KEEP_THERM_STAT, 0, 2⟩
abbrev F.KEEP_THERM_STAT_REGION_STATE : Fld := ⟨R.KEEP_THERM_STAT, 8, 16⟩
abbrev F.KEEP_THERM_STAT_WARN : Fld := ⟨R.KEEP_THERM_STAT, 32, 1⟩
abbrev F.KEEP_THERM_STAT_THROTTLE : Fld := ⟨R.KEEP_THERM_STAT, 33, 1⟩
abbrev F.KEEP_THERM_STAT_SHUTDOWN : Fld := ⟨R.KEEP_THERM_STAT, 34, 1⟩
abbrev F.KEEP_THERM_STAT_SENSOR_BAD : Fld := ⟨R.KEEP_THERM_STAT, 35, 1⟩
abbrev F.KEEP_THERM_STAT_STOPPING : Fld := ⟨R.KEEP_THERM_STAT, 36, 1⟩
abbrev F.KEEP_THERM_STAT_AGAIN : Fld := ⟨R.KEEP_THERM_STAT, 63, 1⟩
abbrev F.KEEP_TSENS_READING (n : Nat) : Fld := ⟨R.KEEP_TSENS n, 0, 16⟩
abbrev F.KEEP_TSENS_BAD (n : Nat) : Fld := ⟨R.KEEP_TSENS n, 16, 3⟩
abbrev F.KEEP_TSENS_REGION (n : Nat) : Fld := ⟨R.KEEP_TSENS n, 24, 3⟩
abbrev F.KEEP_TSENS_PEAK (n : Nat) : Fld := ⟨R.KEEP_TSENS n, 32, 16⟩
abbrev F.KEEP_SAFE_STAT_SAFE : Fld := ⟨R.KEEP_SAFE_STAT, 0, 1⟩
abbrev F.KEEP_SAFE_STAT_ESTOP : Fld := ⟨R.KEEP_SAFE_STAT, 1, 1⟩
abbrev F.KEEP_SAFE_STAT_CAUSE : Fld := ⟨R.KEEP_SAFE_STAT, 8, 8⟩
abbrev F.KEEP_SAFE_STAT_CAUSE_HELD : Fld := ⟨R.KEEP_SAFE_STAT, 16, 8⟩
abbrev F.KEEP_SAFE_STAT_ENTERED : Fld := ⟨R.KEEP_SAFE_STAT, 24, 1⟩
abbrev F.KEEP_SAFE_STAT_FAULT : Fld := ⟨R.KEEP_SAFE_STAT, 25, 1⟩
abbrev F.KEEP_SAFE_STAT_FROZEN_DARK : Fld := ⟨R.KEEP_SAFE_STAT, 26, 1⟩
abbrev F.KEEP_SAFE_STAT_LATENT_FAIL : Fld := ⟨R.KEEP_SAFE_STAT, 27, 1⟩
abbrev F.KEEP_SAFE_STAT_HELD : Fld := ⟨R.KEEP_SAFE_STAT, 28, 1⟩
abbrev F.KEEP_SAFE_STAT_AGAIN : Fld := ⟨R.KEEP_SAFE_STAT, 63, 1⟩
abbrev F.CTRL_BOOT_STAT_LOCKED : Fld := ⟨R.CTRL_BOOT_STAT, 0, 1⟩
abbrev F.CTRL_BOOT_STAT_AUTOLOCK : Fld := ⟨R.CTRL_BOOT_STAT, 1, 1⟩
abbrev F.CTRL_BOOT_STAT_RECOVERY : Fld := ⟨R.CTRL_BOOT_STAT, 2, 1⟩
abbrev F.CTRL_BOOT_STAT_TRIAL : Fld := ⟨R.CTRL_BOOT_STAT, 3, 1⟩
abbrev F.CTRL_BOOT_STAT_ROLL_POS : Fld := ⟨R.CTRL_BOOT_STAT, 8, 7⟩
abbrev F.CTRL_BOOT_STAT_ROLL_LOOP : Fld := ⟨R.CTRL_BOOT_STAT, 15, 2⟩
abbrev F.CTRL_BOOT_STAT_ROLL_SELF : Fld := ⟨R.CTRL_BOOT_STAT, 17, 1⟩
abbrev F.CTRL_BOOT_STAT_ACT_FAIL : Fld := ⟨R.CTRL_BOOT_STAT, 32, 1⟩
abbrev F.CTRL_BOOT_STAT_BOOT_FAIL : Fld := ⟨R.CTRL_BOOT_STAT, 33, 1⟩
abbrev F.CTRL_BOOT_STAT_INCOMPAT : Fld := ⟨R.CTRL_BOOT_STAT, 34, 1⟩
abbrev F.CTRL_BOOT_STAT_STALL : Fld := ⟨R.CTRL_BOOT_STAT, 35, 1⟩
abbrev F.CTRL_BOOT_STAT_AGAIN : Fld := ⟨R.CTRL_BOOT_STAT, 63, 1⟩
abbrev F.CTRL_IMG_INFO_ACTIVE (n : Nat) : Fld := ⟨R.CTRL_IMG_INFO n, 0, 1⟩
abbrev F.CTRL_IMG_INFO_PENDING (n : Nat) : Fld := ⟨R.CTRL_IMG_INFO n, 1, 1⟩
abbrev F.CTRL_IMG_INFO_TRIALS (n : Nat) : Fld := ⟨R.CTRL_IMG_INFO n, 2, 2⟩
abbrev F.CTRL_IMG_INFO_STATE0 (n : Nat) : Fld := ⟨R.CTRL_IMG_INFO n, 4, 3⟩
abbrev F.CTRL_IMG_INFO_STATE1 (n : Nat) : Fld := ⟨R.CTRL_IMG_INFO n, 8, 3⟩
abbrev F.CTRL_IMG_INFO_REASON (n : Nat) : Fld := ⟨R.CTRL_IMG_INFO n, 16, 8⟩
abbrev F.CTRL_IMG_INFO_DONE_BLOCKS (n : Nat) : Fld := ⟨R.CTRL_IMG_INFO n, 32, 21⟩
abbrev F.CTRL_IMG_VER_HDR (n : Nat) : Fld := ⟨R.CTRL_IMG_VER n, 0, 64⟩
abbrev F.CTRL_FW_VER_HDR : Fld := ⟨R.CTRL_FW_VER, 0, 64⟩
abbrev F.CTRL_FW_WIN_T_HDR : Fld := ⟨R.CTRL_FW_WIN_T, 0, 64⟩
abbrev F.CTRL_FW_WIN_S_HDR : Fld := ⟨R.CTRL_FW_WIN_S, 0, 64⟩
abbrev F.CTRL_FW_WIN_P_HDR : Fld := ⟨R.CTRL_FW_WIN_P, 0, 64⟩
abbrev F.KEEP_XMSS_INFO_BLOCKS_USED : Fld := ⟨R.KEEP_XMSS_INFO, 0, 13⟩
abbrev F.KEEP_XMSS_INFO_NEXT_INDEX : Fld := ⟨R.KEEP_XMSS_INFO, 32, 20⟩
abbrev F.KEEP_XMSS_INFO_EXHAUSTED : Fld := ⟨R.KEEP_XMSS_INFO, 52, 1⟩
abbrev F.KEEP_KEY_INFO_V_PRESENT : Fld := ⟨R.KEEP_KEY_INFO, 0, 2⟩
abbrev F.KEEP_KEY_INFO_V_REVOKED : Fld := ⟨R.KEEP_KEY_INFO, 2, 2⟩
abbrev F.KEEP_KEY_INFO_I_ENROLLED : Fld := ⟨R.KEEP_KEY_INFO, 4, 4⟩
abbrev F.KEEP_KEY_INFO_I_REVOKED : Fld := ⟨R.KEEP_KEY_INFO, 8, 4⟩
abbrev F.KEEP_KEY_INFO_AUTOLOCK : Fld := ⟨R.KEEP_KEY_INFO, 12, 1⟩
abbrev F.KEEP_KEY_INFO_SVN_FW : Fld := ⟨R.KEEP_KEY_INFO, 32, 6⟩
abbrev F.KEEP_KEY_INFO_SVN_KLIB : Fld := ⟨R.KEEP_KEY_INFO, 40, 6⟩
abbrev F.KEEP_KEY_INFO_SVN_LPROG : Fld := ⟨R.KEEP_KEY_INFO, 48, 6⟩
abbrev F.KEEP_KEY_INFO_SVN_SAFETY : Fld := ⟨R.KEEP_KEY_INFO, 56, 6⟩
abbrev F.KEEP_IKEY_CTRL_SLOT : Fld := ⟨R.KEEP_IKEY_CTRL, 0, 2⟩
abbrev F.KEEP_IKEY_CTRL_ENROL : Fld := ⟨R.KEEP_IKEY_CTRL, 8, 1⟩
abbrev F.KEEP_IKEY_CTRL_REVOKE : Fld := ⟨R.KEEP_IKEY_CTRL, 9, 1⟩
abbrev F.KEEP_IKEY_CTRL_AUTOLOCK : Fld := ⟨R.KEEP_IKEY_CTRL, 10, 1⟩
abbrev F.KEEP_IKEY_D_KEY (n : Nat) : Fld := ⟨R.KEEP_IKEY_D n, 0, 64⟩
abbrev F.KEEP_STRAP_STAT_ROLE : Fld := ⟨R.KEEP_STRAP_STAT, 0, 2⟩
abbrev F.KEEP_STRAP_STAT_PAIR_PREF : Fld := ⟨R.KEEP_STRAP_STAT, 2, 1⟩
abbrev F.KEEP_STRAP_STAT_VIN_KIND : Fld := ⟨R.KEEP_STRAP_STAT, 4, 4⟩
abbrev F.KEEP_STRAP_STAT_FLASH_MODE : Fld := ⟨R.KEEP_STRAP_STAT, 8, 2⟩
abbrev F.KEEP_STRAP_STAT_ROLE_BAD : Fld := ⟨R.KEEP_STRAP_STAT, 16, 1⟩
abbrev F.KEEP_STRAP_STAT_STRAP_CHANGED : Fld := ⟨R.KEEP_STRAP_STAT, 17, 1⟩
abbrev F.KEEP_STRAP_STAT_AGAIN : Fld := ⟨R.KEEP_STRAP_STAT, 63, 1⟩

/-! ### The table, region by region -/

/-- Registers of region KEEP, part 1. -/
def regTableKeepA : List RegFam := [
  ⟨"KEEP_CAP0", 0xF000000100, 0x0, 1, 0, .alwaysK,
    [fs 0 5 .ro 0,
     fs 8 4 .ro 0,
     fs 12 2 .ro 0,
     fs 14 1 .ro 0,
     fs 15 1 .ro 0,
     fs 16 1 .ro 0,
     fs 24 8 .ro 0,
     fs 32 2 .ro 0,
     fs 36 8 .ro 0,
     fs 48 8 .ro 0]⟩,
  ⟨"KEEP_CAP1", 0xF000000108, 0x0, 1, 0, .alwaysK,
    [fs 0 2 .ro 0,
     fs 2 1 .ro 0,
     fs 3 1 .ro 0,
     fs 8 8 .ro 0,
     fs 16 3 .ro 0,
     fs 32 10 .ro 0,
     fs 48 4 .ro 8]⟩,
  ⟨"KEEP_UID_LO", 0xF000000110, 0x0, 1, 0, .alwaysK,
    [fs 0 64 .ro 0]⟩,
  ⟨"KEEP_UID_HI", 0xF000000118, 0x0, 1, 0, .alwaysK,
    [fs 0 64 .ro 0]⟩,
  ⟨"KEEP_INSVC", 0xF000000120, 0x0, 1, 0, .alwaysK,
    [fs 0 5 .ro 0,
     fs 8 9 .ro 0,
     fs 32 24 .ro 0,
     fs 56 1 .ro 0]⟩,
  ⟨"KEEP_AMCLK_CFG", 0xF000000208, 0x0, 1, 0, .audioK,
    [fs 0 9 .rw 195 [(96, 400)],
     fs 16 16 .rw 5,
     fs 32 16 .rw 16 [(1, 65535)],
     fs 48 1 .rw 0]⟩,
  ⟨"KEEP_SSC_CFG", 0xF000000220, 0x0, 1, 0, .lampK,
    [fs 0 5 .rws 0 [(0, 16)],
     fs 8 8 .rws 30 [(20, 120)]]⟩,
  ⟨"KEEP_GATE_RUN", 0xF000000228, 0x0, 1, 0, .alwaysK,
    [fs 0 16 .rw 0,
     fs 16 8 .rw 0,
     fs 24 4 .rw 0,
     fs 28 4 .rw 0,
     fs 32 2 .rw 0,
     fs 34 1 .rw 0,
     fs 35 1 .rw 0,
     fs 36 8 .rw 0,
     fs 44 2 .rw 0,
     fs 46 1 .rw 0,
     fs 47 1 .rw 0,
     fs 48 1 .rw 0,
     fs 49 1 .rw 0,
     fs 50 1 .rw 0,
     fs 51 1 .rw 0,
     fs 52 1 .rw 0]⟩,
  ⟨"KEEP_GATE_SLEEP", 0xF000000230, 0x0, 1, 0, .alwaysK,
    [fs 0 16 .rw 0,
     fs 16 8 .rw 0,
     fs 24 4 .rw 0,
     fs 28 4 .rw 0,
     fs 32 2 .rw 0,
     fs 34 1 .rw 0,
     fs 35 1 .rw 0,
     fs 36 8 .rw 0,
     fs 44 2 .rw 0,
     fs 46 1 .rw 0,
     fs 47 1 .rw 0,
     fs 48 1 .rw 0,
     fs 49 1 .rw 0,
     fs 50 1 .rw 0,
     fs 51 1 .rw 0,
     fs 52 1 .rw 0]⟩,
  ⟨"KEEP_GATE_DEEP", 0xF000000238, 0x0, 1, 0, .alwaysK,
    [fs 0 16 .rw 0,
     fs 16 8 .rw 0,
     fs 24 4 .rw 0,
     fs 28 4 .rw 0,
     fs 32 2 .rw 0,
     fs 34 1 .rw 0,
     fs 35 1 .rw 0,
     fs 36 8 .rw 0,
     fs 44 2 .rw 0,
     fs 46 1 .rw 0,
     fs 47 1 .rw 0,
     fs 48 1 .rw 0,
     fs 49 1 .rw 0,
     fs 50 1 .rw 0,
     fs 51 1 .rw 0,
     fs 52 1 .rw 0]⟩,
  ⟨"KEEP_RST_CAUSE", 0xF000000248, 0x0, 1, 0, .alwaysK,
    [fs 0 1 .w1c 1,
     fs 1 1 .w1c 0,
     fs 2 1 .w1c 0,
     fs 3 1 .w1c 0,
     fs 4 1 .w1c 0,
     fs 5 1 .w1c 0,
     fs 16 3 .ro 0,
     fs 24 8 .ro 0,
     fs 63 1 .w1c 0]⟩,
  ⟨"KEEP_SVC_CTRL", 0xF000000250, 0x0, 1, 0, .alwaysK,
    [fs 0 1 .rws 0]⟩]

/-- Registers of region KEEP, part 2. -/
def regTableKeepB : List RegFam := [
  ⟨"KEEP_SVC_STAT", 0xF000000258, 0x0, 1, 0, .alwaysK,
    [fs 0 2 .ro 0,
     fs 8 1 .ro 1,
     fs 9 1 .ro 1,
     fs 10 1 .ro 0,
     fs 11 1 .ro 0,
     fs 12 1 .ro 0,
     fs 13 1 .ro 1,
     fs 16 1 .w1c 0,
     fs 63 1 .w1c 0]⟩,
  ⟨"KEEP_CLK_CFG", 0xF000000200, 0x0, 1, 0, .alwaysK,
    [fs 0 16 .rw 10000 [(100, 60000)]]⟩,
  ⟨"KEEP_CLK_STAT", 0xF000000210, 0x0, 1, 0, .alwaysK,
    [fs 0 1 .w1c 0,
     fs 1 1 .w1c 0,
     fs 2 1 .w1c 0,
     fs 3 1 .w1c 0,
     fs 4 1 .w1c 0,
     fs 5 1 .w1c 0,
     fs 6 1 .w1c 0,
     fs 7 1 .w1c 0,
     fs 16 1 .ro 0,
     fs 17 1 .ro 0,
     fs 18 1 .ro 0,
     fs 19 1 .ro 0,
     fs 63 1 .w1c 0]⟩,
  ⟨"KEEP_CLK_MON", 0xF000000218, 0x0, 1, 0, .alwaysK,
    [fs 0 16 .ro 0,
     fs 16 16 .ro 0,
     fs 32 16 .ro 0]⟩,
  ⟨"KEEP_THERM_LIM", 0xF000000300, 0x0, 1, 0, .alwaysK,
    [fs 0 8 .rwl 100,
     fs 8 8 .rwl 110,
     fs 16 8 .rwl 120,
     fs 24 8 .rwl 80,
     fs 32 8 .rwl 90,
     fs 40 8 .rwl 100]⟩,
  ⟨"KEEP_THERM_CFG", 0xF000000308, 0x0, 1, 0, .alwaysK,
    [fs 0 4 .rwl 0,
     fs 8 8 .rwl 20 [(0, 100)],
     fs 16 1 .rwl 0]⟩,
  ⟨"KEEP_SAFE_CFG", 0xF000000408, 0x0, 1, 0, .alwaysK,
    [fs 0 8 .rwl 0,
     fs 8 1 .rwl 1]⟩,
  ⟨"KEEP_THERM_STAT", 0xF000000310, 0x0, 1, 0, .alwaysK,
    [fs 0 2 .ro 0,
     fs 8 16 .ro 0,
     fs 32 1 .w1c 0,
     fs 33 1 .w1c 0,
     fs 34 1 .w1c 0,
     fs 35 1 .w1c 0,
     fs 36 1 .ro 0,
     fs 63 1 .w1c 0]⟩,
  ⟨"KEEP_TSENS", 0xF000000340, 0x8, 12, 0, .alwaysK,
    [fs 0 16 .ro 0,
     fs 16 3 .ro 6,
     fs 24 3 .ro 0,
     fs 32 16 .ro 0]⟩,
  ⟨"KEEP_SAFE_STAT", 0xF000000400, 0x0, 1, 0, .alwaysK,
    [fs 0 1 .ro 0,
     fs 1 1 .ro 0,
     fs 8 8 .ro 0,
     fs 16 8 .ro 0,
     fs 24 1 .w1c 0,
     fs 25 1 .w1c 0,
     fs 26 1 .w1c 0,
     fs 27 1 .w1c 0,
     fs 28 1 .w1c 0,
     fs 63 1 .w1c 0]⟩,
  ⟨"KEEP_XMSS_INFO", 0xF000000500, 0x0, 1, 0, .alwaysK,
    [fs 0 13 .ro 0,
     fs 32 20 .ro 0,
     fs 52 1 .ro 0]⟩,
  ⟨"KEEP_KEY_INFO", 0xF000000508, 0x0, 1, 0, .alwaysK,
    [fs 0 2 .ro 0,
     fs 2 2 .ro 0,
     fs 4 4 .ro 0,
     fs 8 4 .ro 0,
     fs 12 1 .ro 0,
     fs 32 6 .ro 0,
     fs 40 6 .ro 0,
     fs 48 6 .ro 0,
     fs 56 6 .ro 0]⟩]

/-- Registers of region KEEP, part 3. -/
def regTableKeepC : List RegFam := [
  ⟨"KEEP_IKEY_CTRL", 0xF000000510, 0x0, 1, 0, .alwaysK,
    [fs 0 2 .rwl 0,
     fs 8 1 .rwl 0,
     fs 9 1 .rwl 0,
     fs 10 1 .rwl 0]⟩,
  ⟨"KEEP_IKEY_D", 0xF000000540, 0x8, 8, 0, .alwaysK,
    [fs 0 64 .rwl 0]⟩,
  -- in D8 only [31:0] is used, [63:32] is reserved
  ⟨"KEEP_IKEY_D", 0xF000000580, 0x0, 1, 8, .alwaysK,
    [fs 0 32 .rwl 0]⟩,
  ⟨"KEEP_STRAP_STAT", 0xF000000600, 0x0, 1, 0, .alwaysK,
    [fs 0 2 .ro 0,
     fs 2 1 .ro 0,
     fs 4 4 .ro 0,
     fs 8 2 .ro 0,
     fs 16 1 .ro 0,
     fs 17 1 .w1c 0,
     fs 63 1 .w1c 0]⟩]

/-- Every register of region KEEP. -/
def regTableKeep : List RegFam := regTableKeepA ++ regTableKeepB ++ regTableKeepC

/-- Registers of region CTRL, part 1. -/
def regTableCtrlA : List RegFam := [
  ⟨"CTRL_PATH_CFG", 0xF001000100, 0x0, 1, 0, .alwaysK,
    [fs 0 1 .rwl 1,
     fs 1 1 .rwl 1,
     fs 2 1 .rwl 1,
     fs 3 1 .rwl 1,
     fs 4 1 .rwl 1,
     fs 5 1 .rw 0,
     fs 16 16 .rwl 47300]⟩,
  ⟨"CTRL_TXN_STAT", 0xF001000200, 0x0, 1, 0, .alwaysK,
    [fs 0 1 .w1c 0,
     fs 1 1 .w1c 0,
     fs 2 1 .w1c 0,
     fs 3 1 .w1c 0,
     fs 4 1 .w1c 0,
     fs 63 1 .w1c 0]⟩,
  ⟨"CTRL_TXN_OPEN", 0xF001000208, 0x0, 1, 0, .alwaysK,
    [fs 0 10 .ro 0,
     fs 16 10 .ro 0]⟩,
  ⟨"CTRL_TXN_CFG", 0xF001000210, 0x0, 1, 0, .alwaysK,
    [fs 0 16 .rw 10000 [(100, 60000)]]⟩,
  ⟨"CTRL_CMD_STAT", 0xF001000218, 0x0, 1, 0, .alwaysK,
    [fs 0 1 .w1c 0,
     fs 1 1 .w1c 0,
     fs 2 1 .w1c 0,
     fs 3 1 .w1c 0,
     fs 63 1 .w1c 0]⟩,
  ⟨"CTRL_CVU_CFG", 0xF001001000, 0x40, 4, 0, .alwaysK,
    [fs 0 7 .rw 32 [(8, 64)],
     fs 8 1 .rw 1,
     fs 9 1 .rw 1,
     fs 10 1 .rw 1,
     fs 11 1 .ro 0]⟩,
  ⟨"CTRL_CVU_POLY", 0xF001001008, 0x40, 4, 0, .alwaysK,
    [fs 0 64 .rw 517762881]⟩,
  ⟨"CTRL_CVU_INIT", 0xF001001010, 0x40, 4, 0, .alwaysK,
    [fs 0 64 .rw 4294967295]⟩,
  ⟨"CTRL_CVU_D8", 0xF001001018, 0x40, 4, 0, .alwaysK,
    [fs 0 8 .wo 0]⟩,
  ⟨"CTRL_CVU_D16", 0xF001001020, 0x40, 4, 0, .alwaysK,
    [fs 0 16 .wo 0]⟩,
  ⟨"CTRL_CVU_D32", 0xF001001028, 0x40, 4, 0, .alwaysK,
    [fs 0 32 .wo 0]⟩,
  ⟨"CTRL_CVU_D64", 0xF001001030, 0x40, 4, 0, .alwaysK,
    [fs 0 64 .wo 0]⟩]

/-- Registers of region CTRL, part 2. -/
def regTableCtrlB : List RegFam := [
  ⟨"CTRL_CVU_RESULT", 0xF001001038, 0x40, 4, 0, .alwaysK,
    [fs 0 64 .ro 0]⟩,
  ⟨"CTRL_PAIR_CFG", 0xF001000300, 0x0, 1, 0, .alwaysK,
    [fs 0 1 .rwl 0,
     fs 1 1 .rw 1,
     fs 8 8 .rw 3 [(1, 255)],
     fs 16 10 .rw 10 [(0, 600)],
     fs 32 16 .rw 500 [(10, 8000)]]⟩,
  ⟨"CTRL_PAIR_STAT", 0xF001000308, 0x0, 1, 0, .alwaysK,
    [fs 0 2 .ro 0,
     fs 2 1 .ro 0,
     fs 3 1 .ro 0,
     fs 4 1 .ro 0,
     fs 5 1 .ro 0,
     fs 8 1 .w1c 0,
     fs 9 1 .w1c 0,
     fs 10 1 .w1c 0,
     fs 11 1 .w1c 0,
     fs 12 1 .w1c 0,
     fs 13 1 .w1c 0,
     fs 14 1 .w1c 0,
     fs 15 1 .w1c 0,
     fs 16 1 .w1c 0,
     fs 17 1 .w1c 0,
     fs 18 1 .w1c 0,
     fs 63 1 .w1c 0]⟩,
  ⟨"CTRL_PAIR_TERM", 0xF001000310, 0x0, 1, 0, .alwaysK,
    [fs 0 32 .ro 0,
     fs 32 32 .ro 0]⟩,
  ⟨"CTRL_PAIR_CNT", 0xF001000318, 0x0, 1, 0, .alwaysK,
    [fs 0 16 .ro 0,
     fs 16 16 .ro 0,
     fs 32 16 .ro 0,
     fs 48 16 .ro 0]⟩,
  ⟨"CTRL_CAP_CFG", 0xF001000400, 0x0, 1, 0, .senderK,
    [fs 0 16 .rw 2048 [(256, 8192)],
     fs 16 16 .rw 8192 [(2048, 32768)],
     fs 32 16 .rw 1000 [(100, 60000)],
     fs 48 8 .rw 60 [(1, 255)]]⟩,
  ⟨"CTRL_CAP_EXT", 0xF001000418, 0x0, 1, 0, .senderK,
    [fs 0 16 .rw 32768 [(2048, 32768)]]⟩,
  ⟨"CTRL_CAP_STAT", 0xF001000408, 0x0, 1, 0, .senderK,
    [fs 0 16 .ro 32768,
     fs 16 1 .ro 0,
     fs 17 1 .w1c 0,
     fs 32 10 .ro 0,
     fs 63 1 .w1c 0]⟩,
  ⟨"CTRL_CAP_CTRL", 0xF001000410, 0x0, 1, 0, .senderK,
    [fs 0 1 .rws 0]⟩,
  ⟨"CTRL_BOOT_STAT", 0xF001000800, 0x0, 1, 0, .alwaysK,
    [fs 0 1 .ro 0,
     fs 1 1 .ro 0,
     fs 2 1 .ro 0,
     fs 3 1 .ro 0,
     fs 8 7 .ro 127,
     fs 15 2 .ro 0,
     fs 17 1 .ro 0,
     fs 32 1 .w1c 0,
     fs 33 1 .w1c 0,
     fs 34 1 .w1c 0,
     fs 35 1 .w1c 0,
     fs 63 1 .w1c 0]⟩,
  ⟨"CTRL_IMG_INFO", 0xF001000888, 0x8, 12, 1, .alwaysK,
    [fs 0 1 .ro 0,
     fs 1 1 .ro 0,
     fs 2 2 .ro 0,
     fs 4 3 .ro 0,
     fs 8 3 .ro 0,
     fs 16 8 .ro 0,
     fs 32 21 .ro 0]⟩,
  ⟨"CTRL_IMG_VER", 0xF001000A10, 0x8, 24, 2, .alwaysK,
    [fs 0 64 .ro 0]⟩]

/-- Registers of region CTRL, part 3. -/
def regTableCtrlC : List RegFam := [
  ⟨"CTRL_FW_VER", 0xF001000B00, 0x0, 1, 0, .alwaysK,
    [fs 0 64 .ro 0]⟩,
  ⟨"CTRL_FW_WIN_T", 0xF001000B08, 0x0, 1, 0, .alwaysK,
    [fs 0 64 .ro 0]⟩,
  ⟨"CTRL_FW_WIN_S", 0xF001000B10, 0x0, 1, 0, .alwaysK,
    [fs 0 64 .ro 0]⟩,
  ⟨"CTRL_FW_WIN_P", 0xF001000B18, 0x0, 1, 0, .alwaysK,
    [fs 0 64 .ro 0]⟩]

/-- Every register of region CTRL. -/
def regTableCtrl : List RegFam := regTableCtrlA ++ regTableCtrlB ++ regTableCtrlC

/-- Registers of region MEM, part 1. -/
def regTableMemA : List RegFam := [
  ⟨"MEM_PORT_CFG", 0xF002001000, 0x10, 19, 0, .memPortK,
    [fs 0 16 .rw 0 [(500, 65535)],
     fs 16 1 .ro 0]⟩,
  ⟨"MEM_PORT_STAT", 0xF002001008, 0x10, 19, 0, .memPortK,
    [fs 0 2 .ro 0,
     fs 8 1 .w1c 0,
     fs 9 1 .w1c 0,
     fs 10 1 .w1c 0,
     fs 16 32 .ro 0,
     fs 63 1 .w1c 0]⟩,
  ⟨"MEM_RH_CFG", 0xF002000200, 0x0, 1, 0, .alwaysK,
    [fs 0 16 .rw 2048 [(256, 16384)],
     fs 16 8 .rw 16 [(1, 255)],
     fs 32 16 .rw 1000 [(100, 10000)]]⟩,
  ⟨"MEM_CFG", 0xF002000100, 0x0, 1, 0, .alwaysK,
    [fs 0 4 .rwl 0 [(0, 5)],
     fs 4 1 .rwl 1]⟩,
  ⟨"MEM_INFO", 0xF002000108, 0x0, 1, 0, .alwaysK,
    [fs 0 16 .ro 0,
     fs 16 3 .ro 0,
     fs 19 2 .ro 0,
     fs 21 2 .ro 0,
     fs 32 18 .ro 0]⟩,
  ⟨"MEM_STAT", 0xF002000110, 0x0, 1, 0, .alwaysK,
    [fs 0 2 .ro 0,
     fs 2 2 .ro 0,
     fs 4 1 .ro 0,
     fs 5 1 .ro 0,
     fs 6 1 .ro 0,
     fs 8 1 .w1c 0,
     fs 9 1 .w1c 0,
     fs 10 1 .w1c 0,
     fs 11 1 .w1c 0,
     fs 12 1 .w1c 0,
     fs 13 1 .w1c 0,
     fs 63 1 .w1c 0]⟩,
  ⟨"MEM_ERR_CNT", 0xF002000118, 0x0, 1, 0, .alwaysK,
    [fs 0 32 .ro 0,
     fs 32 16 .ro 0]⟩,
  ⟨"MEM_ERR_ADDR", 0xF002000120, 0x0, 1, 0, .alwaysK,
    [fs 0 45 .ro 0,
     fs 48 5 .ro 0,
     fs 53 1 .ro 0]⟩]

/-- Every register of region MEM. -/
def regTableMem : List RegFam := regTableMemA

/-- Registers of region INGEST, part 1. -/
def regTableIngestA : List RegFam := [
  ⟨"INGEST_VIN_CFG", 0xF003000100, 0x20, 4, 0, .vinK,
    [fs 0 1 .rws 0,
     fs 1 1 .rws 0,
     fs 2 3 .rws 7,
     fs 5 2 .rws 2,
     fs 7 1 .rws 0,
     fs 8 1 .rws 1]⟩,
  ⟨"INGEST_VIN_MODE", 0xF003000108, 0x20, 4, 0, .vinK,
    [fs 0 16 .ro 0,
     fs 16 16 .ro 0,
     fs 32 16 .ro 0,
     fs 48 3 .ro 0,
     fs 51 2 .ro 0,
     fs 53 2 .ro 0,
     fs 55 2 .ro 0,
     fs 57 1 .ro 0,
     fs 58 1 .ro 0,
     fs 59 3 .ro 0,
     fs 63 1 .ro 0]⟩,
  ⟨"INGEST_VIN_STAT", 0xF003000110, 0x20, 4, 0, .vinK,
    [fs 0 1 .ro 0,
     fs 1 1 .ro 0,
     fs 2 1 .ro 0,
     fs 3 1 .ro 0,
     fs 8 1 .w1c 0,
     fs 9 1 .w1c 0,
     fs 10 1 .w1c 0,
     fs 11 1 .w1c 0,
     fs 12 1 .w1c 0,
     fs 63 1 .w1c 0]⟩,
  ⟨"INGEST_FLOW_DST", 0xF003001000, 0x20, 40, 0, .gbeK,
    [fs 0 32 .rws 0,
     fs 32 16 .rws 0,
     fs 48 7 .rws 0,
     fs 56 2 .rws 0,
     fs 58 1 .rws 0,
     fs 59 1 .rws 0]⟩,
  ⟨"INGEST_FLOW_FMT", 0xF003001008, 0x20, 40, 0, .gbeK,
    [fs 0 2 .rws 0 [(0, 2)],
     fs 2 14 .rws 0,
     fs 32 32 .rws 0]⟩,
  ⟨"INGEST_FLOW_STAT", 0xF003001010, 0x20, 40, 0, .gbeK,
    [fs 0 1 .ro 0,
     fs 1 1 .ro 0,
     fs 8 1 .w1c 0,
     fs 9 1 .w1c 0,
     fs 10 1 .w1c 0,
     fs 11 1 .w1c 0,
     fs 16 24 .ro 0,
     fs 63 1 .w1c 0]⟩,
  ⟨"INGEST_ANC_RING", 0xF003001800, 0x0, 1, 0, .gbeK,
    [fs 0 45 .rws 0,
     fs 48 5 .rws 0 [(0, 0), (12, 26)]]⟩,
  ⟨"INGEST_BUDGET", 0xF003000080, 0x0, 1, 0, .ingestK,
    [fs 0 12 .ro 0,
     fs 16 12 .ro 0,
     fs 32 12 .ro 0]⟩,
  ⟨"INGEST_SRC_BASE", 0xF003002000, 0x20, 48, 0, .ingestK,
    [fs 0 45 .rws 0]⟩,
  ⟨"INGEST_SRC_CFG", 0xF003002008, 0x20, 48, 0, .ingestK,
    [fs 0 16 .rws 3 [(1, 65535)],
     fs 16 1 .rws 0,
     fs 17 1 .rws 0,
     fs 18 1 .rws 0,
     fs 19 1 .rws 0,
     fs 20 8 .rws 1 [(1, 255)],
     fs 28 12 .rws 0 [(0, 3200)],
     fs 40 20 .rws 0 [(0, 1000000)]]⟩,
  ⟨"INGEST_SRC_GEOM", 0xF003002010, 0x20, 48, 0, .ingestK,
    [fs 0 16 .rws 0,
     fs 16 16 .rws 0]⟩,
  ⟨"INGEST_SRC_STAT", 0xF003002018, 0x20, 48, 0, .ingestK,
    [fs 0 1 .ro 0,
     fs 1 1 .ro 0,
     fs 2 2 .ro 0,
     fs 8 1 .w1c 0,
     fs 9 1 .w1c 0,
     fs 10 1 .w1c 0,
     fs 11 1 .w1c 0,
     fs 16 16 .ro 0,
     fs 32 16 .ro 0,
     fs 48 15 .ro 0,
     fs 63 1 .w1c 0]⟩]

/-- Registers of region INGEST, part 2. -/
def regTableIngestB : List RegFam := [
  ⟨"INGEST_AUD_CFG", 0xF003003000, 0x0, 1, 0, .audioK,
    [fs 0 1 .rw 0,
     fs 2 1 .rw 0,
     fs 3 3 .rw 0,
     fs 6 5 .rw 16 [(12, 20)],
     fs 12 33 .rw 0,
     fs 45 16 .rw 0]⟩,
  ⟨"INGEST_AOUT_CFG", 0xF003003010, 0x8, 4, 0, .audioK,
    [fs 0 1 .rw 0,
     fs 1 1 .rw 0,
     fs 2 2 .rw 2 [(0, 2)],
     fs 4 3 .rw 2 [(0, 6)]]⟩,
  ⟨"INGEST_AIN_CFG", 0xF003003030, 0x0, 1, 0, .audioK,
    [fs 0 1 .rw 0,
     fs 1 1 .rw 0,
     fs 2 2 .rw 2 [(0, 2)],
     fs 4 3 .rw 2 [(0, 6)],
     fs 8 1 .rw 0]⟩,
  ⟨"INGEST_ACH_CFG", 0xF003003040, 0x8, 8, 0, .audioK,
    [fs 0 2 .rw 3,
     fs 2 6 .rw 0,
     fs 8 4 .rw 0,
     fs 12 6 .rw 63,
     fs 18 1 .rw 0]⟩,
  ⟨"INGEST_AUD_STAT", 0xF003003100, 0x0, 1, 0, .audioK,
    [fs 0 8 .ro 0,
     fs 8 1 .w1c 0,
     fs 9 1 .w1c 0,
     fs 10 1 .w1c 0,
     fs 11 1 .w1c 0,
     fs 12 1 .w1c 0,
     fs 16 32 .ro 0,
     fs 63 1 .w1c 0]⟩]

/-- Every register of region INGEST. -/
def regTableIngest : List RegFam := regTableIngestA ++ regTableIngestB

/-- Registers of region COMPOSE, part 1. -/
def regTableComposeA : List RegFam := [
  ⟨"COMPOSE_CFG", 0xF004000100, 0x0, 1, 0, .compositorK,
    [fs 0 1 .rws 0,
     fs 1 1 .rws 0]⟩,
  ⟨"COMPOSE_BG", 0xF004000108, 0x0, 1, 0, .compositorK,
    [fs 0 16 .rws 0 [(0, 32768)],
     fs 16 16 .rws 0 [(0, 32768)],
     fs 32 16 .rws 0 [(0, 32768)],
     fs 48 16 .rws 0 [(0, 32768)]]⟩,
  ⟨"COMPOSE_HDR", 0xF004000110, 0x0, 1, 0, .compositorK,
    [fs 0 16 .rws 1000 [(100, 10000)],
     fs 16 8 .rws 120 [(100, 150)]]⟩,
  ⟨"LAYER_SRC", 0xF004004000, 0x40, 32, 0, .compositorK,
    [fs 0 6 .rws 0 [(0, 47)],
     fs 6 1 .rws 0,
     fs 7 1 .rws 0,
     fs 8 1 .rws 0,
     fs 9 2 .rws 0 [(0, 2)],
     fs 11 6 .rws 36 [(36, 47)],
     fs 17 8 .rws 0,
     fs 25 7 .rws 0]⟩,
  ⟨"LAYER_CROP", 0xF004004008, 0x40, 32, 0, .compositorK,
    [fs 0 16 .rws 0,
     fs 16 16 .rws 0,
     fs 32 16 .rws 0,
     fs 48 16 .rws 0]⟩,
  ⟨"LAYER_DST", 0xF004004010, 0x40, 32, 0, .compositorK,
    [fs 0 16 .rws 0,
     fs 16 16 .rws 0,
     fs 32 16 .rws 0,
     fs 48 16 .rws 0]⟩,
  ⟨"LAYER_MIX", 0xF004004018, 0x40, 32, 0, .compositorK,
    [fs 0 16 .rws 32768 [(0, 32768)],
     fs 16 2 .rws 1 [(0, 2)],
     fs 18 4 .rws 0 [(0, 8)],
     fs 22 2 .rws 0,
     fs 24 4 .rws 8 [(2, 2), (4, 4), (6, 6), (8, 8)],
     fs 28 8 .rws 0]⟩,
  ⟨"LAYER_STAT", 0xF004004020, 0x40, 32, 0, .compositorK,
    [fs 0 1 .ro 0,
     fs 1 1 .ro 0,
     fs 2 4 .ro 0,
     fs 6 8 .ro 0,
     fs 16 1 .w1c 0,
     fs 17 1 .w1c 0,
     fs 18 1 .w1c 0,
     fs 24 24 .ro 0,
     fs 63 1 .w1c 0]⟩,
  ⟨"COMPOSE_SCL_INFO", 0xF004000300, 0x8, 8, 0, .scalerK,
    [fs 0 4 .ro 15,
     fs 4 4 .ro 0,
     fs 8 16 .ro 0,
     fs 24 8 .ro 0]⟩,
  ⟨"COMPOSE_PIPE_CFG", 0xF004000200, 0x10, 4, 0, .pipeK,
    [fs 0 4 .rws 0 [(0, 1), (5, 8)]]⟩,
  ⟨"COMPOSE_LUT_E", 0xF004010000, 0x8, 4096, 0, .compositorK,
    [fs 0 16 .rws 0 [(0, 32768)],
     fs 16 16 .rws 0 [(0, 32768)],
     fs 32 16 .rws 0 [(0, 32768)],
     fs 48 16 .rws 0 [(0, 32768)]]⟩,
  ⟨"COMPOSE_STAT", 0xF004000180, 0x0, 1, 0, .compositorK,
    [fs 0 1 .w1c 0,
     fs 1 1 .w1c 0,
     fs 2 1 .w1c 0,
     fs 3 1 .w1c 0,
     fs 4 1 .w1c 0,
     fs 5 1 .w1c 0,
     fs 8 4 .ro 0,
     fs 12 4 .ro 0,
     fs 16 32 .ro 0,
     fs 63 1 .w1c 0]⟩]

/-- Registers of region COMPOSE, part 2. -/
def regTableComposeB : List RegFam := [
  ⟨"COMPOSE_PIPE_STAT", 0xF004000208, 0x10, 4, 0, .pipeK,
    [fs 0 1 .w1c 0,
     fs 16 16 .ro 0,
     fs 32 5 .ro 0,
     fs 63 1 .w1c 0]⟩,
  ⟨"COMPOSE_SADDLE", 0xF004000118, 0x0, 1, 0, .alwaysK,
    [fs 0 8 .rws 40 [(5, 200)],
     fs 32 16 .ro 0]⟩,
  ⟨"COMPOSE_SREC_POS", 0xF004006000, 0x40, 16, 0, .alwaysK,
    [fs 0 16 .rws 0,
     fs 16 16 .rws 0,
     fs 32 16 .rws 1 [(1, 4096)],
     fs 48 16 .rws 1 [(1, 4096)]]⟩,
  ⟨"COMPOSE_SREC_CFG", 0xF004006008, 0x40, 16, 0, .alwaysK,
    [fs 0 1 .rws 0,
     fs 1 1 .rws 0,
     fs 2 1 .rws 0,
     fs 3 1 .rws 0,
     fs 4 2 .rws 0 [(0, 2)],
     fs 8 8 .rws 1 [(1, 255)]]⟩,
  ⟨"COMPOSE_SREC_EXPECT", 0xF004006010, 0x40, 16, 0, .alwaysK,
    [fs 0 32 .rws 0]⟩,
  ⟨"COMPOSE_SREC_STAT", 0xF004006018, 0x40, 16, 0, .alwaysK,
    [fs 0 1 .w1c 0,
     fs 1 1 .w1c 0,
     fs 2 1 .w1c 0,
     fs 16 32 .ro 0,
     fs 63 1 .w1c 0]⟩,
  ⟨"COMPOSE_SREC_VAL", 0xF004006020, 0x40, 16, 0, .alwaysK,
    [fs 0 32 .ro 0,
     fs 32 32 .ro 0]⟩,
  ⟨"COMPOSE_SREC_FRAME", 0xF004006028, 0x40, 16, 0, .alwaysK,
    [fs 0 64 .ro 0]⟩,
  ⟨"COMPOSE_KLIB", 0xF004000700, 0x0, 1, 0, .alwaysK,
    [fs 0 32 .ro 0,
     fs 32 16 .ro 0]⟩,
  ⟨"COMPOSE_KLOAD", 0xF004000708, 0x0, 1, 0, .alwaysK,
    [fs 0 16 .ro 0,
     fs 16 16 .ro 864,
     fs 32 16 .ro 0]⟩,
  ⟨"COMPOSE_KERR", 0xF004000710, 0x0, 1, 0, .alwaysK,
    [fs 0 32 .ro 0,
     fs 32 16 .ro 0,
     fs 48 16 .ro 0]⟩,
  ⟨"COMPOSE_BASIN_STAT", 0xF004000800, 0x10, 16, 0, .basinK,
    [fs 0 16 .ro 0,
     fs 16 16 .ro 0,
     fs 32 3 .ro 0,
     fs 36 1 .w1c 0,
     fs 37 1 .w1c 0,
     fs 38 1 .w1c 0,
     fs 39 1 .w1c 0,
     fs 63 1 .w1c 0]⟩]

/-- Registers of region COMPOSE, part 3. -/
def regTableComposeC : List RegFam := [
  ⟨"COMPOSE_BASIN_EPOCH", 0xF004000808, 0x10, 16, 0, .basinK,
    [fs 0 32 .ro 0,
     fs 32 32 .ro 0]⟩,
  ⟨"COMPOSE_KSTAGE_CFG", 0xF004007020, 0x20, 16, 1, .compositorK,
    [fs 0 16 .rws 0,
     fs 16 1 .rws 0,
     fs 24 4 .rws 0 [(0, 8)]]⟩,
  ⟨"COMPOSE_KSTAGE_PARAM", 0xF004007028, 0x20, 16, 1, .compositorK,
    [fs 0 45 .rws 0,
     fs 48 11 .rws 3 [(3, 1024)]]⟩,
  ⟨"COMPOSE_KSTAGE_STAT", 0xF004007030, 0x20, 16, 1, .compositorK,
    [fs 0 1 .ro 0,
     fs 8 1 .w1c 0,
     fs 9 1 .w1c 0,
     fs 63 1 .w1c 0]⟩,
  ⟨"COMPOSE_SLOTS", 0xF004000400, 0x0, 1, 0, .alwaysK,
    [fs 0 4 .rws 1 [(1, 8)],
     fs 16 16 .rws 500]⟩,
  ⟨"COMPOSE_SLOT_TIME", 0xF004000410, 0x10, 8, 0, .alwaysK,
    [fs 0 26 .rws 0,
     fs 32 26 .rws 0]⟩,
  ⟨"COMPOSE_SLOT_CFG", 0xF004000418, 0x10, 8, 0, .alwaysK,
    [fs 0 1 .rws 0,
     fs 1 1 .rws 0,
     fs 2 6 .rws 0,
     fs 32 32 .rws 4294967295]⟩,
  ⟨"COMPOSE_CAM_CFG", 0xF004000500, 0x20, 4, 0, .alwaysK,
    [fs 0 1 .rws 0,
     fs 1 3 .rws 0,
     fs 4 2 .rws 0,
     fs 6 2 .rws 0]⟩,
  ⟨"COMPOSE_CAM_OPEN", 0xF004000508, 0x20, 4, 0, .alwaysK,
    [fs 0 26 .rws 0,
     fs 32 26 .rws 0]⟩,
  ⟨"COMPOSE_CAM_READ", 0xF004000510, 0x20, 4, 0, .alwaysK,
    [fs 0 26 .rws 0]⟩,
  ⟨"COMPOSE_SLOT_MASK", 0xF004000408, 0x0, 1, 0, .alwaysK,
    [fs 0 8 .rws 255]⟩,
  ⟨"COMPOSE_SLOT_STAT", 0xF0040004C0, 0x0, 1, 0, .alwaysK,
    [fs 0 8 .ro 255,
     fs 8 4 .ro 1,
     fs 16 1 .w1c 0,
     fs 17 1 .w1c 0,
     fs 32 10 .ro 0,
     fs 63 1 .w1c 0]⟩]

/-- Every register of region COMPOSE. -/
def regTableCompose : List RegFam := regTableComposeA ++ regTableComposeB ++ regTableComposeC

/-- Registers of region LINK, part 1. -/
def regTableLinkA : List RegFam := [
  ⟨"LINK_CFG", 0xF005000100, 0x0, 1, 0, .alwaysK,
    [fs 0 16 .rw 256 [(16, 65535)]]⟩,
  ⟨"LINK_OVL_STAT", 0xF005000200, 0x20, 8, 0, .ovlK,
    [fs 0 3 .ro 0,
     fs 3 3 .ro 0,
     fs 6 3 .ro 0,
     fs 16 1 .w1c 0,
     fs 17 1 .w1c 0,
     fs 18 1 .w1c 0,
     fs 19 1 .w1c 0,
     fs 20 1 .w1c 0,
     fs 63 1 .w1c 0]⟩,
  ⟨"LINK_OVL_CNT", 0xF005000208, 0x20, 8, 0, .ovlK,
    [fs 0 32 .ro 0,
     fs 32 16 .ro 0,
     fs 48 16 .ro 0]⟩,
  ⟨"LINK_OVL_PEER", 0xF005000210, 0x20, 8, 0, .ovlK,
    [fs 0 64 .ro 0]⟩,
  ⟨"LINK_LOOP_CFG", 0xF005000400, 0x20, 4, 0, .loopK,
    [fs 0 1 .rws 1,
     fs 1 2 .rws 0 [(0, 2)],
     fs 3 1 .rws 0,
     fs 4 1 .rws 1,
     fs 5 2 .rws 2 [(0, 2)]]⟩,
  ⟨"LINK_LOOP_STAT", 0xF005000408, 0x20, 4, 0, .loopK,
    [fs 0 3 .ro 0,
     fs 3 1 .ro 0,
     fs 4 8 .ro 0,
     fs 12 7 .ro 127,
     fs 24 1 .w1c 0,
     fs 25 1 .w1c 0,
     fs 26 1 .ro 0,
     fs 27 1 .w1c 0,
     fs 63 1 .w1c 0]⟩,
  ⟨"LINK_TILE_STAT", 0xF005000600, 0x0, 1, 0, .tileK,
    [fs 0 7 .ro 127,
     fs 7 1 .ro 0,
     fs 8 2 .ro 0,
     fs 10 4 .ro 0,
     fs 14 1 .ro 0,
     fs 15 1 .ro 0,
     fs 16 2 .ro 0,
     fs 24 1 .w1c 0,
     fs 25 1 .w1c 0,
     fs 26 1 .w1c 0,
     fs 27 1 .w1c 0,
     fs 63 1 .w1c 0]⟩,
  ⟨"LINK_TILE_CNT", 0xF005000608, 0x0, 1, 0, .tileK,
    [fs 0 32 .ro 0,
     fs 32 16 .ro 0,
     fs 48 16 .ro 0]⟩]

/-- Every register of region LINK. -/
def regTableLink : List RegFam := regTableLinkA

/-- Registers of region LAMP, part 1. -/
def regTableLampA : List RegFam := [
  ⟨"LAMP_COR_CFG", 0xF006000100, 0x0, 1, 0, .lampK,
    [fs 0 1 .rws 1,
     fs 8 9 .rws 64 [(0, 256)],
     fs 32 16 .rws 16384 [(0, 32768)],
     fs 48 16 .rws 20480 [(16384, 32768)]]⟩,
  ⟨"LAMP_TBL_INFO", 0xF006000108, 0x0, 1, 0, .lampK,
    [fs 0 16 .ro 0,
     fs 16 16 .ro 0,
     fs 32 1 .ro 0,
     fs 33 2 .ro 0,
     fs 35 6 .ro 0]⟩,
  ⟨"LAMP_TBL_EPOCH", 0xF006000110, 0x0, 1, 0, .lampK,
    [fs 0 32 .ro 0,
     fs 32 32 .ro 0]⟩,
  ⟨"LAMP_COR_GAIN", 0xF006000120, 0x0, 1, 0, .lampK,
    [fs 0 16 .ro 16384,
     fs 16 16 .ro 16384,
     fs 32 16 .ro 16384,
     fs 48 16 .ro 16384]⟩,
  ⟨"LAMP_COR_TEMP", 0xF006000128, 0x0, 1, 0, .lampK,
    [fs 0 16 .ro 0,
     fs 16 16 .ro 0,
     fs 32 16 .ro 0,
     fs 48 16 .ro 0]⟩,
  ⟨"LAMP_COR_STAT", 0xF006000180, 0x0, 1, 0, .lampK,
    [fs 0 1 .w1c 0,
     fs 1 1 .w1c 0,
     fs 2 1 .w1c 0,
     fs 3 1 .w1c 0,
     fs 4 1 .w1c 0,
     fs 5 1 .w1c 0,
     fs 8 4 .ro 0,
     fs 12 1 .ro 0,
     fs 63 1 .w1c 0]⟩,
  ⟨"LAMP_COR_CNT", 0xF006000188, 0x0, 1, 0, .lampK,
    [fs 0 32 .ro 0,
     fs 32 16 .ro 0]⟩,
  ⟨"LAMP_COR_SHOW", 0xF006000190, 0x0, 1, 0, .lampK,
    [fs 0 64 .ro 0]⟩,
  ⟨"LAMP_LEDGER_CFG", 0xF006000200, 0x0, 1, 0, .lampK,
    [fs 0 1 .rw 1,
     fs 8 8 .rw 20 [(5, 60)]]⟩,
  ⟨"LAMP_LEDGER_STAT", 0xF006000208, 0x0, 1, 0, .lampK,
    [fs 0 32 .ro 0,
     fs 32 1 .ro 0,
     fs 33 1 .w1c 0,
     fs 34 1 .w1c 0,
     fs 35 1 .w1c 0,
     fs 36 1 .w1c 0,
     fs 63 1 .w1c 0]⟩,
  ⟨"LAMP_LEDGER_TIME", 0xF006000210, 0x0, 1, 0, .lampK,
    [fs 0 64 .ro 0]⟩,
  ⟨"LAMP_MAP_CTRL", 0xF006000220, 0x0, 1, 0, .lampK,
    [fs 0 1 .wo 0]⟩]

/-- Registers of region LAMP, part 2. -/
def regTableLampB : List RegFam := [
  ⟨"LAMP_MAP_STAT", 0xF006000228, 0x0, 1, 0, .lampK,
    [fs 0 13 .ro 0]⟩,
  ⟨"LAMP_MAP_E", 0xF006008000, 0x8, 4096, 0, .lampK,
    [fs 0 64 .ro 0]⟩,
  ⟨"LAMP_RAIL_CFG", 0xF006000400, 0x20, 12, 0, .lampK,
    [fs 0 2 .rw 0 [(0, 2)],
     fs 2 4 .rw 0,
     fs 6 1 .rw 0,
     fs 8 6 .rw 10 [(5, 40)],
     fs 16 12 .rw 600,
     fs 32 12 .rw 500 [(100, 3000)],
     fs 48 8 .rw 20 [(1, 255)]]⟩,
  ⟨"LAMP_RAIL_LIM", 0xF006000408, 0x20, 12, 0, .lampK,
    [fs 0 12 .rwl 200,
     fs 12 12 .rwl 1200 [(0, 1200)],
     fs 24 8 .rwl 50 [(5, 200)],
     fs 32 3 .rwl 2]⟩,
  ⟨"LAMP_RAIL_STAT", 0xF006000410, 0x20, 12, 0, .lampK,
    [fs 0 3 .ro 0,
     fs 16 12 .ro 0,
     fs 32 1 .w1c 0,
     fs 33 1 .w1c 0,
     fs 34 1 .w1c 0,
     fs 35 1 .w1c 0,
     fs 40 8 .ro 0,
     fs 63 1 .w1c 0]⟩,
  ⟨"LAMP_TRIM_CFG", 0xF006000600, 0x8, 16, 0, .lampK,
    [fs 0 12 .rws 2048,
     fs 12 2 .rws 1 [(0, 2)],
     fs 14 1 .rws 0,
     fs 16 13 .ro 0,
     fs 32 12 .ro 0]⟩,
  ⟨"LAMP_DRV_CFG", 0xF006000300, 0x0, 1, 0, .lampK,
    [fs 0 16 .rws 32768 [(0, 32768)]]⟩,
  ⟨"LAMP_FAULT_CFG", 0xF006000308, 0x0, 1, 0, .lampK,
    [fs 0 2 .rws 1,
     fs 2 1 .rws 1,
     fs 8 4 .rws 3 [(1, 8)],
     fs 16 8 .rws 1 [(1, 60)],
     fs 24 8 .rws 10 [(2, 255)]]⟩,
  ⟨"LAMP_LPROG_INFO", 0xF006000310, 0x0, 1, 0, .lampK,
    [fs 0 7 .ro 0,
     fs 7 1 .ro 0,
     fs 8 2 .ro 0,
     fs 16 8 .ro 0,
     fs 24 1 .ro 0,
     fs 25 1 .ro 0,
     fs 32 16 .ro 0,
     fs 48 16 .ro 0]⟩,
  ⟨"LAMP_DRV_STAT", 0xF006000318, 0x0, 1, 0, .lampK,
    [fs 0 16 .ro 0,
     fs 16 1 .w1c 0,
     fs 17 1 .w1c 0,
     fs 18 1 .ro 0,
     fs 63 1 .w1c 0]⟩,
  ⟨"LAMP_DIAG_STAT", 0xF006000320, 0x0, 1, 0, .lampK,
    [fs 0 1 .w1c 0,
     fs 1 1 .w1c 0,
     fs 2 1 .w1c 0,
     fs 3 1 .w1c 0,
     fs 4 1 .ro 0,
     fs 8 7 .ro 127,
     fs 63 1 .w1c 0]⟩,
  ⟨"LAMP_DIAG_CNT", 0xF006000328, 0x0, 1, 0, .lampK,
    [fs 0 23 .ro 0,
     fs 32 10 .ro 0,
     fs 48 16 .ro 0]⟩]

/-- Registers of region LAMP, part 3. -/
def regTableLampC : List RegFam := [
  ⟨"LAMP_FAULT_CTRL", 0xF006000330, 0x0, 1, 0, .lampK,
    [fs 0 1 .wo 0]⟩,
  ⟨"LAMP_CAP_STAT", 0xF006000338, 0x0, 1, 0, .lampK,
    [fs 0 16 .ro 32768,
     fs 16 1 .ro 0,
     fs 17 1 .w1c 0,
     fs 63 1 .w1c 0]⟩,
  ⟨"LAMP_PHOTO_CFG", 0xF006000700, 0x0, 1, 0, .lampK,
    [fs 0 2 .rw 1 [(0, 2)],
     fs 8 8 .rw 8 [(2, 32)],
     fs 16 12 .rw 256 [(64, 4095)],
     fs 28 8 .rw 20 [(5, 100)],
     fs 36 4 .rw 8 [(2, 15)],
     fs 40 8 .rw 24,
     fs 48 8 .rw 5 [(1, 50)],
     fs 56 8 .rw 5 [(1, 255)]]⟩,
  ⟨"LAMP_PHOTO_LIM", 0xF006000708, 0x0, 1, 0, .lampK,
    [fs 0 10 .rw 256,
     fs 16 16 .rw 14336 [(12288, 16384)],
     fs 32 16 .rw 18432 [(16384, 20480)],
     fs 48 8 .rw 20 [(1, 200)]]⟩,
  ⟨"LAMP_PHOTO_CTRL", 0xF006000710, 0x0, 1, 0, .lampK,
    [fs 0 1 .wo 0]⟩,
  ⟨"LAMP_PHOTO_VAL", 0xF006000780, 0x10, 8, 0, .lampK,
    [fs 0 16 .ro 0,
     fs 16 16 .ro 0,
     fs 32 16 .ro 0,
     fs 48 1 .ro 0,
     fs 49 1 .ro 0]⟩,
  ⟨"LAMP_PHOTO_K", 0xF006000788, 0x10, 8, 0, .lampK,
    [fs 0 16 .ro 0,
     fs 16 16 .ro 0,
     fs 32 16 .ro 0,
     fs 48 16 .ro 0]⟩,
  ⟨"LAMP_CAL_STAT", 0xF006000800, 0x0, 1, 0, .lampK,
    [fs 0 2 .ro 0,
     fs 8 8 .ro 0,
     fs 16 8 .ro 0,
     fs 32 1 .w1c 0,
     fs 33 1 .w1c 0,
     fs 34 1 .w1c 0,
     fs 35 1 .w1c 0,
     fs 36 1 .w1c 0,
     fs 37 1 .w1c 0,
     fs 38 1 .w1c 0,
     fs 63 1 .w1c 0]⟩,
  ⟨"LAMP_CAL_INFO", 0xF006000808, 0x0, 1, 0, .lampK,
    [fs 0 16 .ro 0,
     fs 16 16 .ro 0]⟩,
  ⟨"LAMP_CAL_TIME", 0xF006000810, 0x0, 1, 0, .lampK,
    [fs 0 64 .ro 0]⟩,
  ⟨"LAMP_CAL_TZ", 0xF006000818, 0x0, 1, 0, .lampK,
    [fs 0 16 .ro 0,
     fs 16 16 .ro 0,
     fs 32 16 .ro 0,
     fs 48 16 .ro 0]⟩,
  ⟨"LAMP_PHOTO_FB", 0xF006000820, 0x0, 1, 0, .lampK,
    [fs 0 16 .ro 0,
     fs 16 16 .ro 0,
     fs 32 16 .ro 0,
     fs 48 16 .ro 0]⟩]

/-- Registers of region LAMP, part 4. -/
def regTableLampD : List RegFam := [
  ⟨"LAMP_HKA_RAIL", 0xF006000840, 0x8, 12, 0, .lampK,
    [fs 0 16 .ro 0,
     fs 16 16 .ro 0,
     fs 32 16 .ro 0]⟩]

/-- Every register of region LAMP. -/
def regTableLamp : List RegFam := regTableLampA ++ regTableLampB ++ regTableLampC ++ regTableLampD

/-- Registers of region TIME, part 1. -/
def regTableTimeA : List RegFam := [
  ⟨"TIME_NOW_S", 0xF007000100, 0x0, 1, 0, .alwaysK,
    [fs 0 64 .ro 0]⟩,
  ⟨"TIME_NOW_NS", 0xF007000108, 0x0, 1, 0, .alwaysK,
    [fs 0 30 .ro 0,
     fs 32 32 .ro 0]⟩,
  ⟨"TIME_CFG", 0xF007000200, 0x0, 1, 0, .alwaysK,
    [fs 0 3 .rw 0 [(0, 4)],
     fs 3 1 .rw 1,
     fs 4 2 .rw 0 [(0, 2)],
     fs 8 8 .rw 50 [(1, 200)],
     fs 16 16 .rw 1 [(1, 65535)],
     fs 32 16 .rw 600 [(1, 65535)]]⟩,
  ⟨"TIME_PTP_CFG", 0xF007000208, 0x0, 1, 0, .alwaysK,
    [fs 0 7 .rw 127,
     fs 7 1 .rw 0,
     fs 8 4 .rw 3 [(2, 10)],
     fs 12 2 .rw 0,
     fs 14 1 .rw 1,
     fs 16 32 .rw 0]⟩,
  ⟨"TIME_FRAME_TF", 0xF007000300, 0x0, 1, 0, .alwaysK,
    [fs 0 32 .rws 1,
     fs 32 32 .rws 60]⟩,
  ⟨"TIME_FRAME_BASE_S", 0xF007000308, 0x0, 1, 0, .alwaysK,
    [fs 0 64 .rws 0]⟩,
  ⟨"TIME_FRAME_BASE_NS", 0xF007000310, 0x0, 1, 0, .alwaysK,
    [fs 0 30 .rws 0]⟩,
  ⟨"TIME_FRAME_BASE_N", 0xF007000318, 0x0, 1, 0, .alwaysK,
    [fs 0 64 .rws 0]⟩,
  ⟨"TIME_FSYNC_IN_CFG", 0xF007000400, 0x0, 1, 0, .alwaysK,
    [fs 0 2 .rws 0,
     fs 2 1 .rws 0,
     fs 8 24 .rws 0,
     fs 32 32 .rws 0]⟩,
  ⟨"TIME_FSYNC_OUT_CFG", 0xF007000410, 0x8, 2, 0, .alwaysK,
    [fs 0 3 .rws 0 [(0, 3)],
     fs 3 1 .rws 0,
     fs 4 2 .rws 0,
     fs 6 2 .rws 0,
     fs 8 3 .rws 0,
     fs 12 16 .rws 100,
     fs 32 32 .rws 0]⟩,
  ⟨"TIME_STAT", 0xF007000500, 0x0, 1, 0, .alwaysK,
    [fs 0 2 .ro 0,
     fs 4 3 .ro 0,
     fs 7 1 .ro 0,
     fs 8 1 .w1c 0,
     fs 9 1 .w1c 0,
     fs 10 1 .w1c 0,
     fs 11 1 .w1c 0,
     fs 12 1 .w1c 0,
     fs 13 1 .w1c 0,
     fs 14 1 .w1c 0,
     fs 15 1 .w1c 0,
     fs 16 7 .ro 0,
     fs 63 1 .w1c 0]⟩,
  ⟨"TIME_SERVO", 0xF007000508, 0x0, 1, 0, .alwaysK,
    [fs 0 32 .ro 0,
     fs 32 32 .ro 0]⟩]

/-- Registers of region TIME, part 2. -/
def regTableTimeB : List RegFam := [
  ⟨"TIME_PTP_INFO", 0xF007000510, 0x0, 1, 0, .alwaysK,
    [fs 0 2 .ro 0,
     fs 8 8 .ro 0,
     fs 16 16 .ro 0,
     fs 32 1 .ro 0,
     fs 33 1 .ro 0,
     fs 34 1 .ro 0,
     fs 40 24 .ro 0]⟩,
  ⟨"TIME_PTP_GM", 0xF007000518, 0x0, 1, 0, .alwaysK,
    [fs 0 64 .ro 0]⟩,
  ⟨"TIME_FSYNC_STAT", 0xF007000520, 0x0, 1, 0, .alwaysK,
    [fs 0 32 .ro 0,
     fs 32 1 .ro 0,
     fs 33 1 .w1c 0,
     fs 63 1 .w1c 0]⟩,
  ⟨"TIME_LOOP_SIDE", 0xF007000600, 0x8, 2, 0, .alwaysK,
    [fs 0 32 .ro 0,
     fs 32 24 .ro 0,
     fs 56 7 .ro 127,
     fs 63 1 .ro 0]⟩]

/-- Every register of region TIME. -/
def regTableTime : List RegFam := regTableTimeA ++ regTableTimeB

/-- The registers of the region with this index (R18). -/
def regTable : Nat → List RegFam
  | 0 => regTableKeep
  | 1 => regTableCtrl
  | 2 => regTableMem
  | 3 => regTableIngest
  | 4 => regTableCompose
  | 5 => regTableLink
  | 6 => regTableLamp
  | 7 => regTableTime
  | _ => []

/-- The index of an address inside a family, if it is one of its registers. -/
def RegFam.index? (f : RegFam) (a : Nat) : Option Nat :=
  if a < f.base then none
  else if f.stride = 0 then (if a = f.base then some f.first else none)
  else if (a - f.base) % f.stride = 0 && (a - f.base) / f.stride < f.count then some (f.first + (a - f.base) / f.stride)
  else none

/-- Looks an address up in a list of families. -/
def findReg (a : Nat) : List RegFam → Option (RegFam × Nat)
  | [] => none
  | f :: fs =>
    match f.index? a with
    | some i => some (f, i)
    | none => findReg a fs

/-- The register at an address, with its index in its family (R18, R19): none where no register is. -/
def regAt (a : Nat) : Option (RegFam × Nat) :=
  if a < 0xF000000000 then none
  else if a % 8 ≠ 0 then none
  else findReg a (regTable ((a - 0xF000000000) / 0x1000000))

end Sys2Proof.Machine
end

