-- ==== Sys2Proof/Machine/State.lean ====
section
/-!
DEFINITION. The state of the device as plain data. Registers have one home, `Dev.regs` (a sparse map over the register
table of Machine/Regs.lean); the structures below hold what is not a register. DRAM, OTP and the sampled straps stand
beside `Dev`, since few commands change them.
-/
namespace Sys2Proof.Machine

open Sys2Proof

/-- Why the machine stops with a fault. -/
inductive Fault where
  /-- Raised by a meaning whose operands lie outside what the row can carry (`Instr.wf`): no such event exists. Safe: no
  behaviour of the hardware is described by it. -/
  | illFormed
  deriving DecidableEq, Repr

/-- Why a command has no meaning here. -/
inductive Refusal where
  /-- The command is not modelled; the string is its mnemonic. Safe. -/
  | notModelled (mnemonic : String)
  deriving DecidableEq, Repr

/-! ### Identity -/

/-- The three variants (R4). -/
inductive Variant where
  | gkd9256 | gkd9128 | gkd9064t
  deriving DecidableEq, Repr

/-- The effective role (R2, R5). -/
inductive Role where
  | sender | tile | senderB
  deriving DecidableEq, Repr

/-- One key slot of a root (R458): the 68 bytes of the key as nine words, and the revoke fuse. -/
structure KeySlot where
  key : List Word := []
  revoked : Bool := false
  deriving DecidableEq, Repr

/-- The one-time-programmable memory (R41, R458 to R460, R474, R477).
DESIGN CHOICE (unsafe): log 4. -/
structure Otp where
  variant : Variant := .gkd9256
  stepping : Nat := 0x10
  uidLo : Word := 0
  uidHi : Word := 0
  vendor : List KeySlot := [{}, {}]
  integrator : List KeySlot := [{}, {}, {}, {}]
  autolock : Bool := false
  /-- Minimum security versions of CTRL_FW, KLIB, LPROG, SAFETY (R460). -/
  svn : List Nat := [0, 0, 0, 0]
  /-- Blocks of XMSS indices reserved (R477). -/
  xmssBlocks : Nat := 0
  /-- The public half of the per-device key and the certificate, as words (R474). -/
  devKey : List Word := []
  cert : List Word := []
  certSlot : Nat := 0
  deriving DecidableEq, Repr

/-! ### Reset and power -/

/-- Where the reset sequence stands (R115, R98, R3, R129, R469). -/
inductive Boot where
  | held | testStrap | hko | hkoFailed | refclk | rpll | recovery | noDram | up
  deriving DecidableEq, Repr

/-- The power state (R117, R118): `toSleep` waits for its saddle latch, `toDeep`, like SLEEP, for the
entry into DEEP. -/
inductive Power where
  | run | toSleep | sleep | toDeep | deep | wakeWait
  deriving DecidableEq, Repr

/-! ### Host paths (ch. 2) -/

/-- A command that waits in an originator's queue (R46). -/
structure QCmd where
  orig : Nat
  opcode : Nat
  seq : Nat
  txn : Nat
  cookie : Nat
  target : Nat
  quiet : Bool
  check : Nat
  payload : List Word
  deriving DecidableEq, Repr

/-- A kept reply (R49): the command's SEQ and check word, and the packets that answered it. -/
structure Kept where
  orig : Nat
  seq : Nat
  check : Nat
  packets : List (List Word)
  deriving DecidableEq, Repr

/-- One PCIe queue pair (R58). -/
structure PcieQ where
  cqBase : Nat := 0
  cqSize : Nat := 0
  cqTail : Nat := 0
  cqHead : Nat := 0
  rqBase : Nat := 0
  rqSize : Nat := 0
  rqTail : Nat := 0
  rqHead : Nat := 0
  enable : Bool := false
  slotErr : Bool := false
  replyStall : Bool := false
  /-- Replies that wait for space in the ring (R59), oldest first. -/
  held : List (List Word) := []
  deriving DecidableEq, Repr

/-- The PCIe event ring (R58, R59). -/
structure EventRing where
  base : Nat := 0
  size : Nat := 0
  tail : Nat := 0
  head : Nat := 0
  enable : Bool := false
  held : List (List Word) := []
  deriving DecidableEq, Repr

/-- A management Ethernet session (R63). -/
structure Session where
  ip : Nat
  port : Nat
  /-- Model time of the last command, in ps. -/
  last : Nat
  deriving DecidableEq, Repr

/-- A relayed command whose answers are awaited (R66, R67). -/
structure Relay where
  orig : Nat
  opcode : Nat
  seq : Nat
  txn : Nat
  cookie : Nat
  check : Nat
  quiet : Bool
  loop : Nat
  bcast : Bool
  /-- The number of the command in the relay order, shared by the parts of one SENDER_ALL on several loops. -/
  ident : Nat
  /-- Tiles yet to answer, as (loop, position). -/
  waiting : List (Nat × Nat)
  addressed : Nat
  okCnt : Nat
  badCnt : Nat
  /-- The command also runs at the sender after its tiles (R526), and holds the payload for it. -/
  own : Bool
  payload : List Word
  /-- The write is outside any transaction: the tiles know it by a number of the sender's (R10, R526). -/
  implied : Bool := false
  /-- Which of the WRITE_REG commands that carry a write on the sender's own account (R526). -/
  part : Nat := 0
  /-- The payload the tiles are sent. -/
  sends : List Word := []
  /-- Tiles that answered OK, and the first refusal of a write on the sender's own account (R526), as (status, DETAIL). -/
  holding : List (Nat × Nat) := []
  refused : Option (Nat × Nat) := none
  deriving DecidableEq, Repr

/-- Everything of the host paths that is no register of the windows. -/
structure HostPaths where
  pcie : List PcieQ := [{}, {}, {}, {}]
  events : EventRing := {}
  /-- Model times at which each MSI-X vector was last raised (R60), 0 for never, and vectors that wait to be raised. -/
  msixAt : List (Option Nat) := List.replicate 8 none
  msixWait : List Nat := []
  eth : List (Option Session) := [none, none, none, none]
  /-- The management port's IPv4 address, mask and gateway (R62, R463 tag 3); none: from DHCP. -/
  ip : Option (Nat × Nat × Nat) := none
  spi : List (List Word) := []
  spiHeld : List (List Word) := []
  spiChkErr : Bool := false
  /-- Event class masks of the ten originators (R74). -/
  masks : List Nat := List.replicate 10 0
  queue : List QCmd := []
  kept : List Kept := []
  /-- Packets with MORE sent so far to commands whose last reply is still to come: kept with it (R49, R67). -/
  partReplies : List Kept := []
  /-- Commands whose reply is still pending (R49), as (originator, SEQ, check word). -/
  waiting : List (Nat × Nat × Nat) := []
  /-- Commands whose pending reply was lost with their path (R61, R63), as (originator, SEQ, check word). -/
  lostReplies : List (Nat × Nat × Nat) := []
  evSeq : Nat := 0
  /-- Model times of the events of each code sent in the last second (R75), as (code, times). -/
  evTimes : List (Nat × List Nat) := []
  suppressed : List (Nat × Nat) := []
  /-- Events dropped for each originator since its last EV_LOST (R75); the PCIe queues share one event ring, whose count is that of
  queue 0. -/
  lost : List Nat := List.replicate 10 0
  relays : List Relay := []
  relayIds : Nat := 0
  deriving DecidableEq, Repr

/-! ### Transactions (ch. 2) -/

/-- An open transaction of an originator (R76 to R81). -/
structure Txn where
  orig : Nat
  id : Nat
  /-- Shadow entries, by rising address. -/
  shadows : List (Nat × Word)
  poisoned : Bool
  /-- Tiles that hold writes of it, as (loop, position). -/
  tiles : List (Nat × Nat)
  /-- Model time of its last command, in ps. -/
  last : Nat
  /-- Tiles that could not hold its write of FULL (R518). -/
  missed : Nat
  /-- The writes its tiles have taken, in order: tile, opcode, payload. -/
  sent : List ((Nat × Nat) × Nat × List Word) := []
  deriving DecidableEq, Repr

/-- The three commit modes (R82). -/
inductive CommitMode where
  | saddle | now | atTime
  deriving DecidableEq, Repr

/-- Where an accepted commit stands. -/
inductive CommitStage where
  /-- Accepted, its validation not complete (R84). -/
  | validating
  /-- Valid; waits for the saddle latch (R85). -/
  | queued
  /-- PREPARE sent; waits for the tiles' answers (R89). -/
  | preparing
  /-- Every tile answered OK, APPLY sent; waits for its latches (R89). -/
  | decided
  /-- A twin holder waits for MIRROR_ACK (R295). -/
  | mirroring
  deriving DecidableEq, Repr

/-- An accepted commit (R82 to R90). -/
structure Commit where
  orig : Nat
  opcode : Nat
  seq : Nat
  txn : Nat
  cookie : Nat
  check : Nat
  mode : CommitMode
  converted : Bool
  /-- First governed frame N of an AT_TIME commit. -/
  frame : Nat
  entries : List (Nat × Word)
  /-- Entries whose group has not latched yet. -/
  left : List (Nat × Word)
  stage : CommitStage
  /-- Latches seen since acceptance (R85). -/
  latches : Nat
  tiles : List (Nat × Nat)
  /-- Tiles that have yet to answer PREPARE or APPLY. -/
  await : List (Nat × Nat)
  missed : Nat
  /-- The MSG of the MIRROR that the standby has yet to answer (R295). -/
  mirror : Option Nat := none
  /-- Of its tiles, those that refused FULL and so have no part in its decision (R89, R518). -/
  without : List (Nat × Nat) := []
  /-- The capacity in service as validation began (R32): KEEP_INSVC and the ports' lanes, as registers. -/
  capacity : List (Nat × Word) := []
  deriving DecidableEq, Repr

/-- A transaction a tile has prepared for frame N and holds without a decision, or applied and waits to latch (R89). -/
structure Prepared where
  txn : Nat
  frame : Nat
  entries : List (Nat × Word)
  left : List (Nat × Word)
  decided : Bool
  deriving DecidableEq, Repr

/-! ### Check-value units (ch. 2) -/

/-- The accumulator and feed queue of a check-value unit (R91, R92): each queued feed is its bytes. -/
structure Cvu where
  acc : Nat := 0xFFFFFFFF
  feeds : List (List Byte) := []
  deriving DecidableEq, Repr

/-! ### Clock root (ch. 3) -/

/-- Clock state that is no register (R98 to R109). -/
structure Clk where
  /-- The last REFCLK or requalification window's HKO count, when it passed (R100, R105). -/
  lastGood : Option Nat := none
  /-- HKO cycles expected in a requalification window from the rate reference held at the fault (R105). -/
  expected : Nat := 16384
  /-- The rate reference, in DCO periods per 128 HKO cycles, times 32,768 (R103). -/
  rateRef : Nat := 24576 * 32768
  /-- Rate windows averaged so far and their sum, until 16 have been (R103). -/
  rateInit : Nat × Nat := (0, 0)
  /-- REFCLK unqualified 100 ms after HKO became stable (R100). -/
  late : Bool := false
  /-- SerDes and DDR PHY PLLs hold (R96). -/
  pllHold : Bool := false
  /-- CCLK and PCLK run on HKO (R107, R108). -/
  onHko : Bool := true
  /-- AMCLK's divider in force: INT, NUM, DEN, EN (R97). -/
  amclk : Nat := 0
  /-- The held control word the DCO runs on in holdover (R104). -/
  heldWord : Option Nat := none
  deriving DecidableEq, Repr

/-! ### Heat and safety (ch. 15) -/

/-- The flag and counters of one threshold level of one region (R434). -/
structure ThermLevel where
  flag : Bool := false
  rise : Nat := 0
  fall : Nat := 0
  deriving DecidableEq, Repr

/-- Safety state that is no register. -/
structure Safe where
  /-- Eight regions, three levels each: WARN, THROT, SHUT (R434). -/
  therm : List (List ThermLevel) := List.replicate 8 [{}, {}, {}]
  /-- Rounds without a heartbeat, and with a supply out of range (R441). -/
  noBeat : Nat := 0
  supplyBad : Nat := 0
  /-- Sensors that have given a good reading since reset (PEAK). -/
  peaked : Nat := 0
  /-- Consecutive cool rounds of R443. -/
  cool : Nat := 0
  /-- An orderly stop under way: its cause (R437). -/
  stopCause : Option Nat := none
  /-- Model time at which the orderly stop ends at the latest. -/
  stopBy : Nat := 0
  /-- The hardware blank path is driven: every LGg_BLK high, scan outputs off (R437, R438). -/
  blank : Bool := true
  /-- ESTOP_N is low. -/
  estop : Bool := false
  /-- Region resets the safety monitor made, as (region, model time) (R33). -/
  resets : List (Nat × Nat) := []
  /-- Regions in a region reset. -/
  inReset : List Nat := []
  /-- A trip of the safety monitor came before HKO was stable (R109). -/
  heldTrip : Bool := false
  /-- Consecutive repeats of R445. -/
  repeats : Nat := 0
  deriving DecidableEq, Repr

/-! ### DRAM controller (ch. 4) -/

/-- What training found (R124 to R129): the contents of MEM_STAT and MEM_INFO, and the shape of the memory in use. -/
structure MemShape where
  chOk : Nat := 0
  chFail : Nat := 0
  mismatch : Bool := false
  down : Bool := false
  rate : Nat := 0
  kind : Nat := 0
  subch : Nat := 0
  ranks : Nat := 0
  usable : Nat := 0
  /-- The fitted size in bytes per channel in use, the channels, and the lower of them. -/
  chBytes : Nat := 0
  channels : Nat := 0
  first : Nat := 0
  /-- Two channels trained without interleaving (MEM_CFG.INTERLEAVE = 0). -/
  split : Bool := false
  org : Nat := 8
  /-- Subchannel A alone (R125), and RFM declared by the module data (R139). -/
  oneSub : Bool := false
  rfm : Bool := false
  deriving DecidableEq, Repr

/-- A request in a port's queue (R137, R138): the burst, the model time it was accepted in ps, the target in ns it was accepted under, its
number in the order of acceptance, and whether it has been counted as older than its target. -/
structure MemReq where
  port : Nat
  write : Bool
  addr : Nat
  since : Int
  target : Nat
  ident : Nat
  late : Bool := false
  deriving DecidableEq, Repr

/-- A bank (R138, R139): its open row, and its activation table as rows with their counts. -/
structure MemBank where
  bank : Nat
  row : Option Nat := none
  table : List (Nat × Nat) := []
  deriving DecidableEq, Repr

/-- A targeted refresh (R139): bank, row, and the rows activated where the module declares no RFM. -/
structure RowRefresh where
  bank : Nat
  row : Nat
  rows : List Nat
  deriving DecidableEq, Repr

/-- Controller state that is no register. -/
structure MemCtl extends MemShape where
  /-- Granules of 1 MiB that have been filled or written (R131), until all have been. -/
  filled : List Nat := []
  allFilled : Bool := false
  selfRefresh : Bool := false
  /-- The PHY clocks are stopped (R142). -/
  phyOff : Bool := false
  /-- The ports' queues (R137), and the number of the next request. -/
  queues : List (List MemReq) := List.replicate 19 []
  nextIdent : Nat := 0
  banks : List MemBank := []
  /-- Refresh intervals postponed (R138). -/
  postponed : Nat := 0
  /-- Model time of each port's last activate (R140). -/
  lastAct : List (Option Nat) := List.replicate 19 none
  /-- Memory faults: burst address, model time, frame (R136). -/
  faults : List (Nat × Nat × Nat) := []
  /-- Targeted refreshes charged to each of the 19 ports in this window, and ports throttled (R140). -/
  charges : List Nat := List.replicate 19 0
  throttled : List Bool := List.replicate 19 false
  /-- Targeted refreshes issued since the tables were last cleared (R139). -/
  targeted : List RowRefresh := []
  /-- Bursts a read has met poisoned, with its port, until what reads them answers (R135). -/
  poisoned : List (Nat × Nat) := []
  /-- Consecutive reads above 95 °C of each DRAM (R141, R433). -/
  hotReads : List Nat := []
  doubled : Bool := false
  /-- Cumulative drift of each lane in steps of 1/64 UI (R132). -/
  drift : List Int := []
  /-- Training results kept in KEEP retained memory (R128 step 7, R130). -/
  kept : Option MemShape := none
  deriving DecidableEq, Repr

/-! ### Images (ch. 16) -/

/-- One slot of a class in boot flash (R453, R454): its state as CTRL_IMGc_INFO numbers it, the whole image as words, and
the blocks written so far.
DEDUCED (unsafe): log 103. -/
structure ImgSlot where
  state : Nat := 0
  words : List Word := []
  done : Nat := 0
  /-- Slot size in bytes. -/
  size : Nat := 0x100000000
  /-- The outcomes of the cryptographic checks at the last load, recheck or reset that gave one. -/
  hashOk : Bool := false
  sigOk : Bool := false
  reason : Nat := 0
  failBlock : Nat := 0
  /-- A recheck of it runs (R465). -/
  checking : Bool := false
  deriving DecidableEq, Repr

/-- One class of images: its two slots and its part of the boot record (R467). -/
structure ImgClass where
  slots : List ImgSlot := [{}, {}]
  active : Option Nat := none
  pending : Option Nat := none
  trials : Nat := 0
  /-- The slot being or last loaded. -/
  last : Nat := 0
  deriving DecidableEq, Repr

/-- A load or recheck under way in the background (R464, R465). -/
structure ImgJob where
  cls : Nat
  slot : Nat
  recheck : Bool
  /-- The DRAM source area, as (address, bytes), protected until the image is in (R464). -/
  src : Nat × Nat
  /-- Images that arrive over a loop are gathered here (R464). -/
  relayed : Bool
  words : List Word
  /-- A relayed IMAGE_LOAD that waits for the header and the check table. -/
  cmd : Option QCmd := none
  deriving DecidableEq, Repr

/-- Image state that is no register. -/
structure Img where
  jobs : List ImgJob := []
  /-- The slot each class was booted from (R468): the class and slot in use. -/
  running : List (Nat × Nat) := []
  /-- Header words 0 to 15 of the running CTRL_FW. -/
  fwHeader : List Word := List.replicate 16 0
  /-- Rectangles held by the safety policy (R462). -/
  held : List Nat := []
  /-- Rectangle writes of the policy that wait for the first saddle (R462). -/
  policyWrites : List (Nat × Word) := []
  /-- The activation in progress (R472): loop, position (or the sender itself), model time. -/
  rollout : Option (Option (Nat × Nat) × Nat) := none
  /-- CTRL_FW header words this sender has transferred to its tiles since its reset (R466). -/
  transferred : List (List Word) := []
  nextIndex : Nat := 0
  /-- Code classes that run on trial since the reset (R467). -/
  onTrial : List Nat := []
  /-- Classes the boot found missing or failed, and a safety policy that broke R462. -/
  missing : List Nat := []
  badPolicy : Bool := false
  /-- The key report of this boot, once made (R475). -/
  keyReport : List Word := []
  tablesLoaded : Bool := false
  caldbLoaded : Bool := false
  deriving DecidableEq, Repr

/-! ### Wall time (ch. 11) -/

/-- A PTP path: hardware port 0, hardware port 1, or the management port (R320). Times are in ps. -/
structure PtpPath where
  /-- The grandmaster's dataset in BMCA order: priority1, class, accuracy, variance, priority2, clockIdentity, stepsRemoved. -/
  master : Option (List Nat) := none
  /-- A two-step Sync that waits for its Follow_Up: sequence and arrival stamp. -/
  sync : Option (Nat × Int) := none
  /-- The last completed Sync: t2 - t1, correction taken off. -/
  ms : Option Int := none
  /-- A Delay_Req that waits for its Delay_Resp: sequence and launch stamp. -/
  req : Option (Nat × Int) := none
  /-- Mean path delay, once measured. -/
  path : Option Int := none
  offset : Option Int := none
  nextReq : Nat := 0
  utc : Nat := 0
  utcValid : Bool := false
  leap61 : Bool := false
  leap59 : Bool := false
  deriving DecidableEq, Repr

/-- One side of the loop, or the pair link of a standby (R322, R323). -/
structure TimeSide where
  /-- Own TIME parcels launched: sequence count and stamp in 2^-32 ns. -/
  launches : List (Nat × Nat) := []
  nextSeq : Nat := 0
  /-- The partner's last TIME parcel: sequence count and arrival stamp. -/
  echo : Option (Nat × Nat) := none
  /-- Samples of d and θ in ps not averaged yet. -/
  samples : List (Int × Int) := []
  /-- Running mean of d. -/
  meanD : Option Int := none
  /-- Measurements discarded (R323). -/
  dropped : Nat := 0
  deriving DecidableEq, Repr

/-- The wall time counter and its servo (R312 to R319). -/
structure TimeState where
  /-- The counter in units of 2^-32 ns. -/
  wall : Nat := 0
  running : Bool := false
  /-- Rate correction added at each TCLK edge, in 2^-32 ns, and the servo's frequency estimate. -/
  rate : Int := 0
  freq : Int := 0
  /-- Rates applied, with the model time each began, newest first (R317). -/
  rates : List (Nat × Int) := []
  lockedAt : Nat := 0
  /-- Consecutive valid offsets (FREE and HOLDOVER), and consecutive offsets inside the lock bound (ACQUIRE). -/
  valid : Nat := 0
  inBound : Nat := 0
  /-- The source named by SRC has locked once (R315). -/
  namedLocked : Bool := false
  leftFree : Bool := false
  /-- A change of master or source holds the rate until this model time (R319). -/
  keepUntil : Option Nat := none
  holdSince : Option Nat := none
  paths : List PtpPath := [{}, {}, {}]
  /-- By Orvarlink port. -/
  sides : List TimeSide := List.replicate 8 {}
  /-- The loop port whose measurement a standby shows as its B side. -/
  shown : Option Nat := none
  /-- Word 6 of the TIME parcels of the neighbour followed: UTC offset and leap flags (R322). -/
  info : Word := 0
  /-- FSYNC_IN edges of the mean under way: how many, and their sum in ps (R332). -/
  fsIn : Nat × Int := (0, 0)
  /-- FSYNC_IN edges since the last seconds mark, once one has come (R332). -/
  fsMark : Option Nat := none
  /-- Model time of the last FSYNC_IN edge. -/
  fsAt : Nat := 0
  deriving DecidableEq, Repr

/-! ### The Orvar loop (ch. 9) -/

/-- One tile of the wall layout (R463): its address and its rectangle. -/
structure LayoutTile where
  sender : Nat
  loop : Nat
  pos : Nat
  x : Nat
  y : Nat
  w : Nat
  h : Nat
  deriving DecidableEq, Repr

/-- What the calibration database holds for one position (R16, R277, R463): the UID and epoch recorded, and the table
classes as (class, words). -/
structure DbPos where
  loop : Nat
  pos : Nat
  uidLo : Word
  uidHi : Word
  epoch : Nat
  classes : List (Nat × List Word)
  deriving DecidableEq, Repr

/-- An item of a CTRL or REPLY parcel whole: its code and its body words (R266). -/
structure Item where
  code : Nat
  body : List Word
  deriving DecidableEq, Repr

/-- An item being reassembled (R266): the port it arrives on, whether it came in a REPLY parcel and from which position,
its message number, the fragments got, whether the last one is known, and when the first arrived. -/
structure Partial where
  port : Nat
  reply : Option Nat
  code : Nat
  msg : Nat
  frags : List (Nat × List Word)
  last : Option Nat
  since : Nat
  deriving DecidableEq, Repr

/-- One Orvarlink port (R257 to R259, R270, R280). Parcels wait as words 0 to 30; the check word is made when they leave. -/
structure Port where
  /-- Mode the port trains to, numbered as LINK_OVLn_STAT.STATE: 2 COL, 3 ONE, 4 FULL. -/
  target : Nat := 2
  rxRetired : Nat := 0
  txRetired : Nat := 0
  /-- Relock attempts of each lane in a row, and the model time of the last (R280). -/
  relocks : List Nat := [0, 0, 0, 0]
  relockAt : List Nat := [0, 0, 0, 0]
  /-- The partner's report in its LINK parcels (R270). -/
  peerHi : Word := 0
  peerTile : Bool := false
  peerPort : Nat := 0
  peerLock : Nat := 0
  peerLoop : Option Nat := none
  peerMode : Nat := 0
  /-- The neighbour recorded at the last enumeration: UID (R279). -/
  known : Option (Word × Word) := none
  /-- Positions sent: j of R271. -/
  sent : Nat := 0
  /-- Words sent since the last group of alignment markers: the next word's number in the stream, j of R258. -/
  words : Nat := 0
  /-- FRAME_OPEN, pixel parcels and ABORT that wait for positions that are no service slots (R271 rule 3). -/
  stream : List (List Word) := []
  /-- TAG and CTRL parcels that wait for service slots (R271 rule 2). -/
  tags : List (List Word) := []
  ctrl : List (List Word) := []
  /-- Model times of the last TIME and LINK parcel launched (R322, R270). -/
  timeAt : Option Nat := none
  linkAt : Option Nat := none
  /-- The frame being sent, the pixel parcels of it sent, and those it will hold (R267, R269). -/
  frame : Option Nat := none
  pixSent : Nat := 0
  pixAll : Nat := 0
  /-- Model time of the last good parcel received. -/
  lastRx : Option Nat := none
  /-- The end has adopted the rate of a link with three lanes in its direction (R281). -/
  slow : Bool := false
  deriving DecidableEq, Repr

/-- What a sender knows of one tile of a loop. -/
structure TileRec where
  pos : Nat
  uidLo : Word
  uidHi : Word
  epoch : Nat
  /-- TILE_STATUS word 0 (R287). -/
  status : Word
  stale : Bool
  keyed : Bool
  /-- Silent or unreachable (R289 LEFT). -/
  left : Bool
  /-- Thermal state last reported (R435). -/
  thermal : Nat
  /-- CTRL_FW_VER and the SENDER window of the tile (R471). -/
  fwVer : Word
  fwWin : Word
  /-- FULL has been committed on the tile (R518). -/
  full : Bool
  /-- REVERSED as the tile last reported it in LINK_TILE_STAT. -/
  reversed : Bool := false
  deriving DecidableEq, Repr

/-- An enumeration under way (R276): the answers in, and the command that asked for it. -/
structure EnumRun where
  answers : List Nat
  cmd : Option QCmd
  since : Nat
  deriving DecidableEq, Repr

/-- One loop of a sender (R275 to R285). -/
structure LoopState where
  /-- The mode the loop is to run in: COL until RATE has been sent (R278, R282). -/
  mode : Nat := 2
  /-- The loop returns to its mode after SLEEP: an enumeration and new keys follow (R290). -/
  waking : Bool := false
  /-- Loop counter of CTRL parcels: 1 to 0xFF_FFFF, then 1 again (R262). -/
  ctrlIndex : Nat := 1
  tiles : List TileRec := []
  enum : Option EnumRun := none
  /-- Loop key in force and the selector it is in; key material as words (R283, R285). -/
  key : List Word := []
  selector : Nat := 0
  /-- A key being given to the tiles in a free selector: it comes into force once every tile is KEYED with it (R285). -/
  nextKey : Option (Nat × List Word) := none
  /-- The loop is open: its two ends do not reach each other through the chain (R275, R279). -/
  cut : Bool := false
  /-- Position the key exchange has reached (R283). -/
  keying : Option Nat := none
  /-- Model time of the last parcel that returned from the other end (R273). -/
  lastReturn : Option Nat := none
  /-- Copies of REPLY parcels kept in the last second: position, reply counter, time (R268). -/
  replies : List (Nat × Nat × Nat) := []
  deriving DecidableEq, Repr

/-- A frame in reception at a tile (R274): FRAME_OPEN, the pixel parcels kept as (index, words 0 to 30), the ends an ABORT
came from, the tag received and whether it verified.
DESIGN CHOICE (unsafe): log 81. -/
structure RxFrame where
  n : Nat
  opened : Option FrameOpen := none
  kept : List (Nat × List Word) := []
  aborted : List Nat := []
  tag : Option (Word × Word) := none
  tagOk : Option Bool := none
  /-- It has been abandoned before its correction start. -/
  ended : Bool := false
  deriving DecidableEq, Repr

/-- Tile state of LINK that is no register. -/
structure TileLink where
  rx : List RxFrame := []
  /-- Frames that started reception are numbered from W_N; closed frames are remembered by the last one closed (R274). -/
  closed : Option Nat := none
  /-- The four key selectors (R285). -/
  keys : List (List Word) := [[], [], [], []]
  /-- Kp of R283 once derived, and whether the sender's report was accepted. -/
  kp : List Word := []
  /-- Leases of each end: TERM and model time (R303). -/
  leases : List (Option (Nat × Nat)) := [none, none]
  /-- REPLY parcels that wait for an OPEN, for each direction (R272), and the reply counter (R268). -/
  replies : List (List (List Word)) := [[], []]
  replyCnt : Nat := 0
  /-- Records of CHAIN items: (r, N, V) (R198). -/
  chain : List (Nat × Nat × Nat) := []
  /-- The current run of INCOMPLETE or TAG_FAIL frames has been reported (R288). -/
  reported : Bool := false
  /-- Positions from the two ends in the last enumeration (R276). -/
  enumFrom : List (Option Nat) := [none, none]
  /-- The X25519 secret of this boot, as drawn (R283): empty until it is first needed. -/
  secret : List Word := []
  deriving DecidableEq, Repr

/-- LINK state that is no register. -/
structure LinkState where
  ports : List Port := List.replicate 8 {}
  loops : List LoopState := List.replicate 4 {}
  tile : TileLink := {}
  partials : List Partial := []
  nextMsg : Nat := 0
  layout : List LayoutTile := []
  db : List DbPos := []
  deriving DecidableEq, Repr

/-! ### Twin senders (ch. 10) -/

/-- Twin state that is no register. -/
structure Twin where
  /-- Model time of the last renewal received (R301). -/
  renewed : Option Nat := none
  renewals : Nat := 0
  partnerLo : Word := 0
  partnerHi : Word := 0
  partnerEpoch : Nat := 0
  /-- Header word 1 of the partner's CTRL_FW as its accepted report gave it, 0 for none (R471, R475). -/
  partnerFw : Word := 0
  /-- The frame at whose latch the token passes, and the command that asked (R306). -/
  yieldAt : Option Nat := none
  yieldCmd : Option QCmd := none
  /-- REPLY parcels held while the pair link is down (R299). -/
  held : List (Nat × List Word) := []
  /-- Consecutive diverging and matching frames (R297), and whether the run has been reported. -/
  diverging : Nat := 0
  matching : Nat := 0
  /-- Own digests: frame, loop, CRC accumulator, aborted (R297). -/
  digests : List (Nat × Nat × Nat × Bool) := []
  /-- A former holder answers relays until this model time (R306). -/
  formerUntil : Option Nat := none
  /-- The partner asks for the token (R307). -/
  asked : Bool := false
  /-- Muted because the pair link is down; unmutes at the next frame; equal straps have been reported (R293, R297). -/
  muteLink : Bool := false
  unmute : Bool := false
  prefClash : Bool := false
  /-- The holder's selections: frame, then (source, key) (R296). -/
  selects : List (Nat × List (Nat × Nat)) := []
  kpair : List Word := []
  resync : Bool := false
  deriving DecidableEq, Repr

/-! ### Sources (ch. 5) -/

/-- A complete frame in a source's ring (R158, R159): its number in order of arrival, its slot, time key and beginning in ps of
wall time, size and transfer function. -/
structure StoredFrame where
  serial : Nat
  slot : Nat
  key : Nat
  began : Nat
  w : Nat
  h : Nat
  tf : Nat
  guarded : Bool
  deriving DecidableEq, Repr

/-- One source (R145, R157 to R160). -/
structure Source where
  /-- Complete frames in the ring, newest first. -/
  frames : List StoredFrame := []
  serial : Nat := 0
  /-- The frame last selected, and those selected for display frames whose composition has not finished. -/
  last : Option StoredFrame := none
  picks : List (Nat × StoredFrame) := []
  /-- Arrivals since the measurement of the rate began: the last 16 time keys, newest first, and stored bits of a frame. -/
  keys : List Nat := []
  bits : Nat := 0
  noFit : Bool := false
  /-- Light latencies of the last 64 display frames in ps, newest first (R165). -/
  lat : List Int := []
  /-- A clip's frame, the display frame it was first shown in, and whether its end has been reported (R160). -/
  clip : Nat := 0
  clipFrom : Nat := 0
  clipEnded : Bool := false
  /-- Display frames since the newest complete frame changed, and that frame's number (R193). -/
  stale : Nat := 0
  staleSerial : Nat := 0
  deriving DecidableEq, Repr

/-- One ST 2110 flow (R152, R153): the next RTP sequence number, numbers still missing with the time they were missed, and
the time of the last packet on each port. Times are in ps of wall time. -/
structure FlowSt where
  next : Option Nat := none
  missing : List (Nat × Nat) := []
  lastAt : List (Option Nat) := [none, none]
  deriving DecidableEq, Repr

/-- A sample in a channel's ring: its stamp in ps of wall time, its value and whether it came under HDCP (R151, R165). -/
structure AudioSample where
  stamp : Nat
  value : Nat
  guarded : Bool := false
  deriving DecidableEq, Repr

/-- One audio output channel (R163 to R166): the samples in its ring with their stamps, oldest first, the ring's write
position, the fade level of 64, the delay in force in ps, samples since it last moved and since the fill departed, and
the last sample put out. -/
structure AudioCh where
  ring : List AudioSample := []
  wr : Nat := 0
  /-- Stamp of the sample last put out (R165). -/
  prevStamp : Option Nat := none
  level : Nat := 0
  running : Bool := false
  delay : Int := 1000000000
  sinceMove : Nat := 0
  away : Nat := 0
  prev : Nat := 0
  mismatch : Bool := false
  deriving DecidableEq, Repr

/-- An audio output port's clocks (R164): stopped; running with zeros before the start, for so many word-select periods;
running; fading out; zeros before the stop. -/
inductive AudioStage where
  | off
  | starting (periods : Nat)
  | run
  | fading (samples : Nat)
  | zeros (periods : Nat)
  deriving DecidableEq, Repr

/-- INGEST state that is no register. -/
structure Ingest where
  sources : List Source := List.replicate 48 {}
  flows : List FlowSt := List.replicate 40 {}
  channels : List AudioCh := List.replicate 8 {}
  aout : List AudioStage := List.replicate 4 .off
  /-- Hot-plug lines held low for the 100 ms pulse (R150), and by SLEEP or DEEP (R168). -/
  hpdLow : List Bool := List.replicate 4 false
  /-- The mode each port receives while locked, its lanes and what no register shows among it (R148, R149). -/
  vinModes : List (Option VinMode) := List.replicate 4 none
  asleep : Bool := false
  /-- Where the next ANC record goes, and its count (R155). -/
  ancAt : Nat := 0
  ancCount : Nat := 0
  /-- TRACK's total trim in ppm, and the divider it started from (R163). -/
  trim : Int := 0
  trimBase : Option Word := none
  /-- EDIDs loaded from CONFIG, by video port (R150). -/
  edids : List (Nat × List Word) := []
  deriving DecidableEq, Repr

/-! ### Flash contents of a tile (ch. 12, ch. 13) -/

/-- What a device keeps in flash besides its images.
DESIGN CHOICE (unsafe): log 4.
DEDUCED (unsafe): log 103. -/
structure Flash where
  /-- A sender's records of its positions (R16, R277): loop, position, UID, epoch. -/
  records : List (Nat × Nat × Word × Word × Nat) := []
  /-- The lamp map (R361), in order of entry. -/
  map : List Word := []
  /-- Two ledger areas, each a save as words (R357, R359), and the one written last. -/
  ledgers : List (List Word) := [[], []]
  lastArea : Nat := 1
  /-- The mark log: seconds and ledger epoch (R358), newest first. -/
  marks : List (Nat × Nat) := []
  /-- The dark latch (R405). -/
  dark : Bool := false
  /-- Photometry (R426): accepted k by input, inputs with an accepted calibration as a mask, shunt offsets by rail, LAMP_CAL_TZ,
  LAMP_CAL_TIME, RUNS and REJECTS, and the factors C_e. -/
  photoK : List Word := List.replicate 8 0
  calOk : Nat := 0
  offsets : List Int := List.replicate 12 0
  calTz : Word := 0
  calTime : Word := 0
  runs : Nat := 0
  rejects : Nat := 0
  factors : List Rat := [1, 1, 1, 1]
  deriving DecidableEq, Repr

/-! ### Composition (ch. 6) -/

/-- A frame of a source as a layer shows it: the source, where the frame lies and how, its size and transfer function; for
FRC_BLEND also the frame before it and the weight of the newer one (R215). -/
structure Shown where
  src : Nat
  base : Nat
  store : Nat
  w : Nat
  h : Nat
  tf : Nat
  slate : Bool
  key : Nat
  /-- Base, width and height of the frame before, and the weight as a fraction. -/
  before : Option (Nat × Nat × Nat) := none
  weight : Nat × Nat := (1, 1)
  deriving DecidableEq, Repr

/-- A binding of a scaled layer on one loop (R177, R179): its scaler, the taps in use (0: hidden), the width
it takes, its effective crop width, and VTAPS when it was last tapped. Width and crop are 0 while a received mode leaves its layer
unscaled. -/
structure Binding where
  layer : Nat
  loop : Nat
  scaler : Option Nat
  taps : Nat
  width : Nat
  crop : Nat
  vtaps : Nat
  deriving DecidableEq, Repr

/-- What a composition latch fixes for one display frame (R190). -/
structure ComposeSet where
  frame : Nat
  /-- Registers as latched. -/
  regs : List (Nat × Word)
  /-- What each layer shows; none: nothing. -/
  layers : List (Option Shown)
  binds : List Binding
  /-- Parameter blocks in use, by kernel stage slot (R210). -/
  blocks : List (Nat × List Word)
  mask : Nat
  /-- The sender composes LC24 in plain service (R282). -/
  plain : Bool
  deriving DecidableEq, Repr

/-- One blend pipe (R185). -/
structure Pipe where
  /-- The frame whose FRAME_OPEN has been sent and whose deadline has not come. -/
  opened : Option Nat := none
  /-- Composing now: the slot, the index of the tile in its loop's order, the row. -/
  composing : Bool := false
  slot : Nat := 0
  tile : Nat := 0
  row : Nat := 0
  /-- Bits of the tile's stream not yet in a parcel: their number and value (R264). -/
  bits : Nat × Nat := (0, 0)
  /-- The next pixel parcel's INDEX. -/
  index : Nat := 0
  /-- Smallest checkpoint margin so far in µs, and the most layers over one lamp. -/
  margin : Option Int := none
  depth : Nat := 0
  /-- Words of encrypted parcels sent, by the tile's place in the order, for the tags (R284). -/
  tagged : List (Nat × List Word) := []
  /-- The digest over the frame's pixel parcels so far (R297). -/
  digest : Nat := 0xFFFFFFFF
  deriving DecidableEq, Repr

/-- A supervised rectangle's run (R197, R198): the CRC so far, and C of the frames composed before, newest first. -/
structure RectRun where
  acc : Nat := 0
  rows : Nat := 0
  /-- C of the frame in composition, once known. -/
  done : Option Nat := none
  history : List Nat := []
  deriving DecidableEq, Repr

/-- What a layer keeps from frame to frame (R193, R194). -/
structure LayerRun where
  last : Option Shown := none
  notReady : Bool := false
  deriving DecidableEq, Repr

/-- A work item (R218). -/
structure WorkItem where
  /-- Its number in the order of release: its age. -/
  ident : Nat := 0
  kernel : Nat
  units : Nat
  background : Bool := false
  /-- Deadline of a FRAME item in ps of wall time. -/
  deadline : Int := 0
  /-- What it is of; a tile's items number their run, or their photometric input, as `tile`. -/
  frame : Nat := 0
  loop : Nat := 0
  slot : Nat := 0
  tile : Nat := 0
  /-- The layer of a stage item, and its parameter set: the kernel stage slot, 0 for none. -/
  layer : Nat := 0
  params : Nat := 0
  /-- What it puts out: first column and row, columns, rows (crop pixels of a layer, or lamps); the border its input has. -/
  area : Nat × Nat × Nat × Nat := (0, 0, 0, 0)
  margin : Nat := 0
  /-- The item whose output it takes. -/
  after : Option Nat := none
  /-- Its failures so far, and the engine it failed on last (R26, R28). -/
  tries : Nat := 0
  avoid : Option Nat := none
  /-- The engine, or the basin, it is pinned to (R231). -/
  pin : Option Nat := none
  basin : Option Nat := none
  /-- What a diagnostic item will find (R231): DIAG_ENGINE passes; the reads of DIAG_POOL that mismatch. -/
  passes : Bool := true
  reads : List StoredRead := []
  deriving DecidableEq, Repr

/-- A basin (R206, R220, R221, R230). -/
structure Basin where
  /-- It belongs to the active set of the role, or replaces one that does (R207, R31). -/
  active : Bool := false
  /-- The start-up test passed it, and engines it left out or that retired since, as a mask. -/
  passed : Bool := true
  out : Nat := 0
  suspect : Nat := 0
  /-- 0 inactive, 1 gated, 2 loading, 3 ready, 4 retired. -/
  st : Nat := 0
  replaces : Bool := false
  epoch : Nat := 0
  queue : List WorkItem := []
  running : List (Nat × WorkItem) := []
  /-- Faults of engines with their model times (R26, R27). -/
  faults : List (Nat × Nat) := []
  /-- Kernels in every engine's instruction memory, with the diagnostics that stay resident, and stage slots whose parameter blocks
  the pool holds (R203, R206, R219); the set and blocks of the next-set and next-block areas, with the first frame they serve (R210,
  R221). -/
  set : List Nat := []
  blocks : List Nat := []
  next : Option (Nat × List Nat × List Nat) := none
  /-- The draw that says what each engine's registers and local data hold since its last item (R203). -/
  left : List Nat := List.replicate 16 0
  deriving DecidableEq, Repr

/-- A fabric link (R22, R25, R29): requests not granted yet, the words sent last, newest first, at most 16, how many of them the
consumer has yet to acknowledge, the engine granted last, and the grants of the round under way by class. -/
structure FabricLink where
  site : FaultSite
  waiting : List FabricReq := []
  sent : List Word := []
  unacked : Nat := 0
  last : Nat := 15
  round : List Nat := [0, 0, 0, 0]
  deriving DecidableEq, Repr

/-- The fabric inside the regions (R21 to R25, R29): its links; words corrected by replay or repeated read, by region, where no register
counts them; stored words marked corrupt. -/
structure Fabric where
  links : List FabricLink := []
  corrected : List Nat := List.replicate 8 0
  corrupt : List (FaultSite × Nat) := []
  deriving DecidableEq, Repr

/-- COMPOSE state that is no register. -/
structure Compose where
  basins : List Basin := List.replicate 16 {}
  /-- Items released and not yet sent to a basin, oldest first. -/
  waiting : List WorkItem := []
  nextItem : Nat := 0
  /-- Items that ended with KERNEL_FAULT, newest first. -/
  failed : List WorkItem := []
  /-- The epoch COMPOSE records for its basins (R15, R17). -/
  record : Nat := 0
  /-- Kernel load of the configuration in force in cycles per second as a fraction, and pixel parcels of a frame by loop (R223, R249). -/
  load : Nat × Nat := (0, 1)
  parcels : List Nat := [0, 0, 0, 0]
  /-- Engine cycles of items completed in the last second, with the times (COMPOSE_KLOAD.BUSY_PERMILLE). -/
  busy : List (Nat × Nat) := []
  /-- Model time of each kernel stage slot's last CLAMPED event (R232). -/
  clampedAt : List (Nat × Nat) := []
  /-- Latched and waiting for its window; composing. -/
  next : Option ComposeSet := none
  cur : Option ComposeSet := none
  pipes : List Pipe := List.replicate 4 {}
  rects : List RectRun := List.replicate 16 {}
  layers : List LayerRun := List.replicate 32 {}
  binds : List Binding := []
  blocks : List (Nat × List Word) := []
  /-- Kernel stage slots whose block failed its checks (R210). -/
  badBlocks : List Nat := []
  /-- Kernel stage slots that commits wrote while no latch could copy their blocks (R201, R210). -/
  stale : List Nat := []
  /-- The frame a latch was for that a COMPOSE reset took, until its window opens (R201). -/
  relatch : Option Nat := none
  /-- No window opens before this wall time, in units of 2^-32 ns (R201, R318). -/
  resumeAt : Nat := 0
  /-- Saddle length in force in TCLK cycles (R188). -/
  saddle : Nat := 8000
  /-- Frames protected under R192: (address, bytes, frame). -/
  reading : List (Nat × Nat × Nat) := []
  deriving DecidableEq, Repr

/-! ### Lamp correction and lamp drive (ch. 12, ch. 13) -/

/-- What a correction latch fixes for one frame (R344, R354): the frame, the registers, the tables and working table in use,
whether the tile runs the PLAIN chain.
DESIGN CHOICE (unsafe): log 81. -/
structure CorSet where
  frame : Nat
  regs : List (Nat × Word)
  tables : List (Nat × List Word)
  working : List Word
  plain : Bool
  deriving DecidableEq, Repr

/-- A frame in correction (R217, R362): what was received of it, and its set. -/
structure CorFrame where
  n : Nat
  opened : FrameOpen
  kept : List (Nat × List Word)
  set : CorSet
  deriving DecidableEq, Repr

/-- A half of the drive store (R352): a frame, its mask and COMPOSED slots, and for each slot lit the drive words of every lamp
with D_e, by emitter; the zone temperatures, the slots' lengths and TD are kept for the ledger with the set.
DESIGN CHOICE (unsafe): log 81. -/
structure DriveFrame where
  n : Nat
  mask : Nat
  composed : Nat
  slots : List (Nat × List (List (Nat × Nat)))
  set : CorSet
  deriving DecidableEq, Repr

/-- A ledger save under way (R359): when it began, and the ledger as read.
DEDUCED (unsafe): log 86. -/
structure SaveRun where
  start : Nat
  ledger : List Nat
  deriving DecidableEq, Repr

/-- A rail (R390 to R394): times of its cuts, the ramp of its reference as (start, from, to, duration) in ps of the model's
time, cycles since a sample below the higher bound, and cycles it has been held at VMAX_MV with samples low. -/
structure Rail where
  cuts : List Nat := []
  ramp : Option (Nat × Nat × Nat × Nat) := none
  calm : Nat := 0
  pinned : Nat := 0
  deriving DecidableEq, Repr

/-- A trim converter's two terms (R395). -/
structure Trim where
  temp : Int := 0
  fb : Int := 0
  deriving DecidableEq, Repr

/-- What an upload carries (R388, R389, R410): the drive frame, the display frame, the slot, the scale P, the locate pattern. -/
structure Upload where
  drive : Nat
  frame : Nat
  slot : Nat
  scale : Nat
  locate : Option Nat
  deriving DecidableEq, Repr

/-- A lane group (R377 to R379): its routine as 0 idle, 1 UPLOAD, 2 SWAP, 3 PROOF, 4 INIT; where it stands. -/
structure Group where
  routine : Nat := 0
  pc : Nat := 0
  counters : List Nat := [0, 0, 0, 0]
  /-- The event awaited, and its nominal time once it has come. -/
  waiting : Option Nat := none
  woken : Option Int := none
  /-- Walk-stream bits shifted, RDIAG bits read and lane clock cycles taken since the dispatch. -/
  stream : Nat := 0
  read : Nat := 0
  cycles : Nat := 0
  lat : Bool := false
  blk : Bool := false
  gclk : Nat := 0
  /-- Nominal time of the last event awaited or dispatched, in ps of wall time. -/
  base : Int := 0
  /-- The upload under way; the last one whose routine reached END; the one on display; the one whose visits RDIAG reads. -/
  up : Option Upload := none
  done : Option Upload := none
  on : Option Upload := none
  diag : Option Upload := none
  /-- The line under proof. -/
  line : Nat := 0
  /-- Blanked for the slot (R387), and an UPLOAD that waits for SWAP to end (R379), as slot, frame and time. -/
  late : Bool := false
  owed : Option (Nat × Nat × Int) := none
  /-- What RDIAG has read: the flags in order. -/
  flags : List Bool := []
  deriving DecidableEq, Repr

/-- One emitter as a readback reports it (R396): its lamp, the emitter, open, short, whether the visit counted. -/
structure Seen where
  lamp : Nat
  em : Nat
  isOpen : Bool
  short : Bool
  counts : Bool
  deriving DecidableEq, Repr

/-- Correction and lamp drive state that is no register.
DESIGN CHOICE (unsafe): log 81. -/
structure Lamp where
  /-- The body of the lane program in effect; empty: none (R381). -/
  prog : List Word := []
  groups : List Group := List.replicate 16 {}
  /-- Table classes held, as (class, words); words staged, as (class, offset, word); classes a push has had accepted, and
  whether one was rejected (R366 to R368). -/
  held : List (Nat × List Word) := []
  staging : List (Nat × Nat × Word) := []
  accepted : List (Nat × List Word) := []
  pushBad : Option (Nat × Nat) := none
  /-- Tables and working table in use; a rebuild idle, running, or running and wanted again; one built that waits for its
  correction latch (R344). -/
  tables : List (Nat × List Word) := []
  working : List Word := []
  rebuild : Nat := 0
  built : Option (List (Nat × List Word) × List Word) := none
  /-- The working ledger, four emitters a lamp, in 2^-20 s (R355); the ledger at the start of the save before, and when. -/
  ledger : List Nat := []
  lastSaved : List Nat := []
  lastStart : Option Nat := none
  saving : Option SaveRun := none
  /-- LEDGER_SAVE commands that wait for a completed save (R360); a retry is due after a save that failed (R359). -/
  saveCmds : List QCmd := []
  saveRetry : Bool := false
  /-- The set of the next correction, the frame in correction, the frame ready, the frame on display. -/
  next : Option CorSet := none
  cor : Option CorFrame := none
  ready : Option DriveFrame := none
  shown : Option DriveFrame := none
  /-- The frame shown before it, whose visits a readback may still report. -/
  old : Option DriveFrame := none
  /-- Lines dark in the cycle under way because a proof visit replaces them (R401). -/
  skip : List Nat := []
  /-- Causes for which frames were not ready, as (frame, cause) (R364). -/
  causes : List (Nat × Nat) := []
  repeating : Bool := false
  clipAt : Option Nat := none
  /-- Blanked by FREEZE_LIMIT (R445). -/
  frozen : Bool := false
  /-- DRIVE items accepted, as (FROM, CAP, BLANK); what the last lamp-drive latch took: BRIGHT, CAP, BLANK (R389, R408). -/
  drives : List (Nat × Nat × Bool) := []
  bright : Nat := 0x8000
  cap : Nat := 0x8000
  blank : Bool := false
  /-- LOCATE: the pattern in force, and a change that waits for the lamp-drive latch (R410). -/
  locate : Option Nat := none
  locateNext : Option (Option Nat) := none
  resume : Bool := false
  rails : List Rail := List.replicate 12 {}
  trims : List Trim := List.replicate 16 {}
  /-- The slot in progress, the line selected, and the sequencer's blank (R382, R383). -/
  slot : Option Nat := none
  line : Option Nat := none
  seqBlank : Bool := true
  /-- Runs of equal flags by emitter index 4j + e, as (index, open run, short run) (R397). -/
  counts : List (Nat × Nat × Nat) := []
  /-- Time of the last counted or proof visit by emitter index, in ps of lit time (R400). -/
  visits : List (Nat × Nat) := []
  /-- Emitters due for proof, with the lit time they became due; those that count as unverified (R400, R403). -/
  due : List (Nat × Nat) := []
  unverified : List (Nat × Nat) := []
  /-- Readbacks of the batch under way by group; runs of half-short lines as (group, line, run); lines off (R398). -/
  reads : List (Nat × List Seen) := []
  lineRuns : List (Nat × Nat × Nat) := []
  deadLines : List Nat := []
  proofLine : Nat := 0
  /-- The frame of the last place for a proof visit in a COMPOSED slot: one to a frame (R401). -/
  proofFrame : Option Int := none
  /-- Lit time: the time spent dark, and since when the lamps are dark (R412). -/
  darkSum : Nat := 0
  darkAt : Option Nat := some 0
  deriving DecidableEq, Repr

/-- A sender's cap (R406 to R409): CAP before CAP_EXT, the DRIVE sent last, when a tile last reported warning or above. -/
structure Cap where
  own : Nat := 0x8000
  sent : Option (Nat × Bool × Nat) := none
  warmAt : Option Nat := none
  deriving DecidableEq, Repr

/-! ### Photometry (ch. 14) -/

/-- One input in a run (R420 to R423): usable frames of the window as (m, p by emitter), frames of the window gone by, the
windows A and B found, the zone's temperature when A began. -/
structure PhotoIn where
  samples : List (Rat × List Rat) := []
  /-- Shunt voltages in line blanks of the window's frames, by rail (R417). -/
  shunts : List (List Int) := []
  frames : Nat := 0
  winA : Option (List Rat) := none
  winB : Option (List Rat) := none
  tz : Int := 0
  moved : Bool := false
  noTemp : Bool := false
  windows : Nat := 0
  deriving DecidableEq, Repr

/-- A calibration run (R422): its inputs as a mask, the shunt samples of windows A and B by rail. -/
structure PhotoRun where
  mask : Nat
  /-- LAMP_PHOTO_CFG and LAMP_PHOTO_LIM at the start. -/
  cfg : Word
  lim : Word
  shuntA : List (List Int) := []
  shuntB : List (List Int) := []
  deriving DecidableEq, Repr

/-- Photometry that is no register. -/
structure Photo where
  inputs : List PhotoIn := List.replicate 8 {}
  run : Option PhotoRun := none
  /-- A prediction of the frame on display failed, by input (R418). -/
  failed : Nat := 0
  /-- Factors decided that wait for a frame: the frame, g_col and ADJ_col (R425); g_col is in, from that frame's correction latch,
  and ADJ_col waits for its lamp-drive latch. -/
  wait : Option (Nat × List Nat × List Int) := none
  waitIn : Bool := false
  /-- A push with a PHOTO class has cleared the factors, from the frame that adopts it (R426). -/
  onAdopt : Bool := false
  /-- Model time at which a run last ended without accepting anything (R421). -/
  endedAt : Option Nat := none
  deriving DecidableEq, Repr


/-- What a video port presents to its source (R150): the EDID of the CONFIG image, or the built-in one with its modes: width,
height, rate in Hz. -/
inductive Edid where
  | image (words : List Word)
  | builtIn (modes : List (Nat × Nat × Nat))
  deriving DecidableEq, Repr

/-- What the device has put out: packets written into host rings or sent on a path, parcels, messages, pulses. Newest first.
It is the model's record of its outputs. -/
inductive Out where
  | pcieReply (queue slot : Nat) (words : List Word)
  | pcieEvent (slot : Nat) (words : List Word)
  | msix (vector : Nat)
  | eth (ip port : Nat) (words : List Word)
  | spiByte (b : Nat)
  | spiPacket (words : List Word)
  | hostWrite (addr : Nat) (bytes : List Byte)
  | reset (cause : Nat)
  /-- A Delay_Req, to the master itself or to the multicast address (R320). -/
  | ptp (path : Nat) (seq : Nat) (unicast : Bool) (stamp : Int)
  | fsync (output : Nat) (startPs : Int) (widthNs : Nat) (activeLow : Bool)
  /-- A parcel, the lane each of its words leaves on, and whether a group of alignment markers goes before it (R258). -/
  | parcel (port : Nat) (words : List Word) (lanes : List Nat) (marked : Bool)
  | train (port mode : Nat)
  | i2s (port : Nat) (leftJustified : Bool) (bits : Nat) (left right : Nat)
  | edid (port : Nat) (shown : Edid)
  | igmp (join : Bool) (group source ports : Nat)
  | shift (group : Nat) (lanes : List (List Bool))
  | pins (group : Nat) (lat blk : Bool) (cycles : Nat) (clocked : Bool)
  | pulse (group pin : Nat) (level : Bool) (startPs widthPs : Int)
  | gclk (group div : Nat)
  /-- A line boundary: the levels SCAN31 to SCAN0 come to (R384), and its edges: the step of R383, the wall time in ps it leaves at, the TCLK
  edge that launches it, counted from the counter's last one, and the vernier's setting in 10 ps (R235, R330). -/
  | scan (line : Nat) (levels : Nat) (edges : List (Nat × Int × Int × Int))
  | square (port : Nat)
  deriving DecidableEq, Repr

/-- The state of the device, less DRAM, OTP and straps. -/
structure Dev where
  boot : Boot := .held
  /-- PORST_N is low; a group-1 or group-2 supply is below its monitor threshold (R113, R493). -/
  porst : Bool := true
  supplyLow : Bool := false
  /-- PORST_N was asserted in deep sleep (R118). -/
  deepPorst : Bool := false
  power : Power := .run
  /-- The target of the transition under way, and the POWER_STATE that asked for it (R117, R118). -/
  powerGoal : Nat := 0
  powerCmd : Option QCmd := none
  /-- Supplies were not in range 20 ms after a wake (R494). -/
  wakeLate : Bool := false
  /-- Status and DETAIL of the last direct register write. -/
  lastStatus : Nat := 0
  lastDetail : Nat := 0
  role : Role := .sender
  variant : Variant := .gkd9256
  roleForced : Bool := false
  /-- Model time in ps since the model's start, for the bounds the rules give in seconds. -/
  now : Nat := 0
  /-- Counter of the free values drawn: the model's own field. -/
  free : Nat := 0
  /-- Registers and what they hold, by rising address; a register that is not listed holds its reset value. -/
  regs : List (Nat × Word) := []
  /-- Registers of two latch groups that correction has latched ahead of lamp drive (R527). -/
  corAhead : List (Nat × Word) := []
  /-- What the reset sequence met. -/
  env : Option BootInputs := none
  host : HostPaths := {}
  txns : List Txn := []
  commits : List Commit := []
  prepared : Option Prepared := none
  cvu : List Cvu := [{}, {}, {}, {}]
  clk : Clk := {}
  safe : Safe := {}
  mc : MemCtl := {}
  images : List ImgClass := List.replicate 13 {}
  img : Img := {}
  time : TimeState := {}
  /-- This sender's number (R40, R463 tag 4). -/
  senderNo : Nat := 0
  link : LinkState := {}
  twin : Twin := {}
  ingest : Ingest := {}
  flash : Flash := {}
  compose : Compose := {}
  fabric : Fabric := {}
  lamp : Lamp := {}
  cap : Cap := {}
  photo : Photo := {}
  out : List Out := []
  deriving DecidableEq, Repr

/-- The state of the machine: the commands that wait, DRAM (bytes that are not zero, by rising address), OTP, the sampled
straps, and the rest. -/
structure State where
  pending : List Instr := []
  mem : List Host.Cell := []
  otp : Otp := {}
  straps : Straps := ⟨0, false, 0, 0⟩
  dev : Dev := {}
  deriving DecidableEq, Repr

/-- The machine right after reset: a device held in reset by PORST_N low (R113, R115), every register at its reset value,
nothing pending.
DESIGN CHOICE (unsafe): log 3.
DESIGN CHOICE (unsafe): log 4. -/
def State.reset : State := {}

end Sys2Proof.Machine
end

