-- ==== Sys2Proof/Machine/Ops.lean ====
section
/-!
DEFINITION. The named operations every meaning is built from: registers and their fields, status flags, DRAM bytes, wall
time and frame times, events and replies.
-/
namespace Sys2Proof.Machine

open Sys2Proof

/-- A result the spec defines exactly and does not round: it lies between its floor and its ceiling. `what` tells one use from
another.
DESIGN CHOICE (safe): log 46. -/
def roundFree (what : Nat) (q : Rat) : Int :=
  q.floor + if q.den == 1 then 0 else (Config.roundsUp what q.num q.den).toInt

/-! ### Sparse maps of words -/

/-- The word a sparse map lists at an address. -/
def lookupWord (a : Nat) : List (Nat × Word) → Option Word
  | [] => none
  | (k, v) :: rest => if k = a then some v else lookupWord a rest

/-- A sparse map with a word at an address, keys rising. -/
def putWord (a : Nat) (w : Word) : List (Nat × Word) → List (Nat × Word)
  | [] => [(a, w)]
  | (k, v) :: rest => if a < k then (a, w) :: (k, v) :: rest else if k = a then (a, w) :: rest else (k, v) :: putWord a w rest

/-- A sparse map without an address. -/
def eraseWord (a : Nat) : List (Nat × Word) → List (Nat × Word)
  | [] => []
  | (k, v) :: rest => if k = a then eraseWord a rest else (k, v) :: eraseWord a rest

/-! ### Reset values -/

/-- The reset value the register table gives a family (R8): its fields' reset values in place, reserved bits 0. -/
def RegFam.resetWord (f : RegFam) : Word :=
  Word.pack (f.fields.map fun x => (x.lo, x.width, x.reset))

/-- The reset value of a LUT entry: a ramp, the same in its four channels. -/
def lutReset (i : Nat) : Word :=
  let v := roundDiv (i % 1024 * 32768) 1023
  Word.pack [(0, 16, v), (16, 16, v), (32, 16, v), (48, 16, v)]

/-- The reset value of the register at an address; 0 where no register is. -/
def regReset (a : Nat) : Word :=
  match regAt a with
  | some (f, i) => if f.name == "COMPOSE_LUT_E" then lutReset i else f.resetWord
  | none => 0

/-! ### Registers -/

/-- What a register holds. -/
def Dev.reg (d : Dev) (a : Nat) : Word := (lookupWord a d.regs).getD (regReset a)

/-- A register loaded by hardware. -/
def Dev.setReg (d : Dev) (a : Nat) (w : Word) : Dev := { d with regs := putWord a w d.regs }

/-- A field's value. -/
def Dev.get (d : Dev) (f : Fld) : Nat := Word.field (d.reg f.addr) f.lo f.width

/-- A field read as one bit. -/
def Dev.bit (d : Dev) (f : Fld) : Bool := d.get f != 0

/-- A field read in two's complement. -/
def Dev.getInt (d : Dev) (f : Fld) : Int := signed f.width (d.get f)

/-- A field loaded by hardware; the register's other bits stay. -/
def Dev.set (d : Dev) (f : Fld) (v : Nat) : Dev := d.setReg f.addr (Word.setField (d.reg f.addr) f.lo f.width v)

/-- A status flag set by hardware (R12). -/
def Dev.raiseFlag (d : Dev) (f : Fld) : Dev := d.set f 1

/-- A one-bit field loaded from a condition. -/
def Dev.setBit (d : Dev) (f : Fld) (b : Bool) : Dev := d.set f b.toNat

/-- A signed field loaded, saturating at its range. -/
def Dev.setInt (d : Dev) (f : Fld) (v : Int) : Dev :=
  d.set f (toSigned f.width (clampInt (-(2 ^ (f.width - 1) : Nat)) ((2 ^ (f.width - 1) : Nat) - 1) v))

/-- A counter advanced, saturating at its width. -/
def Dev.bump (d : Dev) (f : Fld) (k : Nat := 1) : Dev := d.set f (satTo (2 ^ f.width - 1) (d.get f + k))

/-- Several fields loaded in order. -/
def Dev.setAll (d : Dev) (l : List (Fld × Nat)) : Dev := l.foldl (fun d x => d.set x.1 x.2) d

/-- A free value's index drawn from the model's counter. -/
def Dev.draw (d : Dev) : Dev := { d with free := d.free + 1 }

/-! ### Identity -/

/-- The device acts as a sender. -/
def Dev.isSender (d : Dev) : Bool := d.role != .tile

/-- The device acts as a tile. -/
def Dev.isTile (d : Dev) : Bool := d.role == .tile

/-- The device is in RUN, or has yet to leave it at the saddle latch (R118). -/
def Dev.awake (d : Dev) : Bool := d.power == .run || d.power == .toSleep

/-- KEEP_SVC_STAT.SERVICE values (ch. 3). -/
def Dev.service (d : Dev) : Nat := d.get F.KEEP_SVC_STAT_SERVICE

/-- Orvarlink ports present (R4). -/
def Variant.ovls : Variant → Nat
  | .gkd9256 => 8 | .gkd9128 => 4 | .gkd9064t => 2

/-- Video input ports present (R4). -/
def Variant.vins : Variant → Nat
  | .gkd9256 => 4 | .gkd9128 => 2 | .gkd9064t => 0

/-- 100 GbE ports present (R4). -/
def Variant.gbes : Variant → Nat
  | .gkd9256 => 2 | .gkd9128 => 1 | .gkd9064t => 0

/-- DDR5 channels present (R4). -/
def Variant.ddrs : Variant → Nat
  | .gkd9256 => 2 | .gkd9128 => 1 | .gkd9064t => 1

/-- Basins present (R4). -/
def Variant.basins : Variant → Nat
  | .gkd9256 => 16 | .gkd9128 => 8 | .gkd9064t => 4

/-- Loops in the sender role (R4). -/
def Variant.loops : Variant → Nat
  | .gkd9256 => 4 | .gkd9128 => 2 | .gkd9064t => 0

/-- PCIe, audio and HDCP are present (R4). -/
def Variant.full (v : Variant) : Bool := v != .gkd9064t

/-- Loops this device can run. -/
def Dev.loops (d : Dev) : Nat := if d.isSender then d.variant.loops else 0

/-! ### Time -/

/-- Picoseconds in a microsecond, a millisecond and a second of the model's clock. -/
abbrev usPs : Nat := 1000000
abbrev msPs : Nat := 1000000000
abbrev sPs : Nat := 1000000000000

/-- One nanosecond and one second in the counter's unit of 2^-32 ns (R312). -/
abbrev nsU : Nat := 4294967296
abbrev secU : Nat := 1000000000 * 4294967296

/-- Seconds of the wall time counter (R312). -/
def Dev.wallS (d : Dev) : Nat := d.time.wall / secU

/-- Nanoseconds of the wall time counter (R312). -/
def Dev.wallNs (d : Dev) : Nat := d.time.wall % secU / nsU

/-- The fraction of a nanosecond, in 2^-32 ns (R312). -/
def Dev.wallFrac (d : Dev) : Nat := d.time.wall % nsU

/-- The wall time in ps, rounded down. -/
def Dev.wallPs (d : Dev) : Nat := d.time.wall * 1000 / nsU

/-- Tf's numerator and denominator in seconds (R328). -/
def Dev.tfNum (d : Dev) : Nat := d.get F.TIME_FRAME_TF_NUM
def Dev.tfDen (d : Dev) : Nat := d.get F.TIME_FRAME_TF_DEN

/-- T_BASE in units of 2^-32 ns. -/
def Dev.tBaseU (d : Dev) : Nat :=
  d.get F.TIME_FRAME_BASE_S_BASE_S * secU + d.get F.TIME_FRAME_BASE_NS_BASE_NS * nsU

/-- The start of frame N times DEN, in units of 2^-32 ns: exact (R328). -/
def Dev.frameScaled (d : Dev) (n : Int) : Int :=
  (d.tBaseU * d.tfDen : Nat) + (n - (d.get F.TIME_FRAME_BASE_N_BASE_N : Nat)) * ((d.tfNum * secU : Nat) : Int)

/-- Tf times DEN, in units of 2^-32 ns. -/
def Dev.tfScaled (d : Dev) : Nat := d.tfNum * secU

/-- The frame whose interval holds a wall time: the greatest N with F_N at or before it (R328). -/
def Dev.frameAt (d : Dev) (wall : Nat) : Int :=
  if d.tfScaled = 0 then 0
  else (d.get F.TIME_FRAME_BASE_N_BASE_N : Nat) + ((wall * d.tfDen : Nat) - (d.tBaseU * d.tfDen : Nat) : Int) / (d.tfScaled : Int)

/-- The frame in progress; frames before N_BASE do not exist and read as N_BASE's (R328). -/
def Dev.frameNow (d : Dev) : Nat :=
  max (d.frameAt d.time.wall).toNat (d.get F.TIME_FRAME_BASE_N_BASE_N)

/-- The smallest N with F_N at or after a wall time (R82). -/
def Dev.frameFrom (d : Dev) (wall : Nat) : Nat :=
  if d.tfScaled = 0 then 0
  else
    let num : Int := (wall * d.tfDen : Nat) - (d.tBaseU * d.tfDen : Nat)
    ((d.get F.TIME_FRAME_BASE_N_BASE_N : Nat) + -((-num) / (d.tfScaled : Int))).toNat

/-- The start of frame N in ps, rounded to the nearest 10 ps (R330). -/
def Dev.framePs10 (d : Dev) (n : Int) : Int :=
  if d.tfDen = 0 then 0
  else
    let num := d.frameScaled n * 100
    let den : Int := (d.tfDen * nsU : Nat)
    (2 * num + den) / (2 * den) * 10

/-- TCLK cycles in Tf, rounded down: the unit slot times are given in. -/
def Dev.tfCycles (d : Dev) : Nat := d.tfNum * 400000000 / d.tfDen

/-! ### DRAM -/

/-- A byte of DRAM; a byte that nothing has written reads 0 (R131).
DESIGN CHOICE (unsafe): log 5. -/
def memByte : List Host.Cell → Nat → Byte
  | [], _ => 0
  | (k, v) :: rest, a => if k = a then v else if a < k then 0 else memByte rest a

/-- DRAM with a byte written, in canonical form: addresses rising, no byte 0 listed.
DESIGN CHOICE (unsafe): log 5. -/
def memPut : List Host.Cell → Nat → Byte → List Host.Cell
  | [], a, b => if b = 0 then [] else [(a, b)]
  | (k, v) :: rest, a, b =>
    if a < k then (if b = 0 then (k, v) :: rest else (a, b) :: (k, v) :: rest)
    else if k = a then (if b = 0 then rest else (a, b) :: rest)
    else (k, v) :: memPut rest a b

/-- DRAM with bytes written from an address upward. -/
def memPutBytes (m : List Host.Cell) (a : Nat) : List Byte → List Host.Cell
  | [] => m
  | b :: bs => memPutBytes (memPut m a b) (a + 1) bs

/-- DRAM with words written from an address upward, little-endian (R8). -/
def memPutWords (m : List Host.Cell) (a : Nat) : List Word → List Host.Cell
  | [] => m
  | w :: ws => memPutWords (memPutBytes m a (Word.bytes w)) (a + 8) ws

/-- Bytes of DRAM from an address upward. -/
def memBytes (m : List Host.Cell) (a n : Nat) : List Byte := (List.range n).map fun i => memByte m (a + i)

/-- The word of DRAM at an address, little-endian. -/
def memWord (m : List Host.Cell) (a : Nat) : Word := Word.ofBytes (memBytes m a 8)

/-- Words of DRAM from an address upward. -/
def memWords (m : List Host.Cell) (a n : Nat) : List Word := (List.range n).map fun i => memWord m (a + 8 * i)

/-- The canonical form of DRAM: addresses rising, no byte 0 listed. -/
def Memory.wfFrom : Nat → List Host.Cell → Bool
  | _, [] => true
  | lo, (k, v) :: rest => decide (lo ≤ k) && (v != 0) && Memory.wfFrom (k + 1) rest

/-- The canonical form of DRAM. -/
def Memory.wf (m : List Host.Cell) : Bool := Memory.wfFrom 0 m

/-! ### What the device puts out -/

/-- Records an output.
DESIGN CHOICE (unsafe): log 6. -/
def Dev.emit (d : Dev) (o : Out) : Dev := { d with out := o :: d.out }

/-- Lanes in service in a port's direction of sending, rising (R258, R259): of FULL those not retired, else lane 0. -/
def Dev.txLanes (d : Dev) (n : Nat) : List Nat :=
  if d.get (F.LINK_OVL_STAT_STATE n) = 4 then (List.range 4).filter fun l => !(nth d.link.ports n {}).txRetired.testBit l else [0]

/-- Words 0 to 30 leave a port with their check word, or with its inverse (R263): word j of the stream on lane j mod L of those in
service, a group of alignment markers before every 16,384 words of each lane (R257, R258).
PRESUMED (unsafe): log 131.
DEDUCED (unsafe): log 133. -/
def Dev.putParcel (d : Dev) (n : Nat) (ws : List Word) (stomp : Bool := false) : Dev :=
  let h := ParcelHead.ofWord (nth ws 0 0)
  let c := parcelCheck (loopId h.loop h.sender) h (ws.take 31)
  let ls := d.txLanes n
  let j := (nth d.link.ports n {}).words
  let d1 : Dev := { d with link := { d.link with ports := modifyNth d.link.ports n fun p => { p with words := (j + 32) % (16384 * ls.length) } } }
  d1.emit (.parcel n (ws.take 31 ++ [if stomp then ~~~c else c]) ((List.range 32).map fun i => nth ls ((j + i) % ls.length) 0) (j == 0))

/-- This device's address in TARGET form (R52): a tile's own address; a sender's number with loop and position 0. -/
def Dev.responder (d : Dev) : Nat :=
  if d.isTile then
    tileTarget (d.get F.LINK_TILE_STAT_SENDER) (d.get F.LINK_TILE_STAT_LOOP) (d.get F.LINK_TILE_STAT_POSITION)
  else tileTarget d.senderNo 0 0

/-- Raises an MSI-X vector, at most once per 2 µs (R60): a second write in that time waits. -/
def Dev.msix (d : Dev) (v : Nat) : Dev :=
  let due := match nth d.host.msixAt v none with
    | none => true
    | some t => t + 2 * usPs ≤ d.now
  if due then
    { d with host := { d.host with msixAt := modifyNth d.host.msixAt v (fun _ => some d.now) } }.emit (.msix v)
  else if d.host.msixWait.contains v then d
  else { d with host := { d.host with msixWait := v :: d.host.msixWait } }

/-- Vectors whose 2 µs have passed are raised for the writes made in that time (R60).
DESIGN CHOICE (unsafe): log 1. -/
def Dev.msixTick (d : Dev) : Dev :=
  let w := d.host.msixWait
  w.foldl (fun d v => d.msix v) { d with host := { d.host with msixWait := [] } }

/-- Entries free in a ring: one slot stays empty, so that a full ring and an empty one differ.
DESIGN CHOICE (unsafe): log 16. -/
def ringFree (size tail head : Nat) : Nat := if size = 0 then 0 else (head + size - tail - 1) % size

/-- A queue's reply ring has room for one more packet. -/
def PcieQ.room (p : PcieQ) : Bool := decide (0 < ringFree p.rqSize p.rqTail p.rqHead)

/-- Changes one PCIe queue. -/
def Dev.onPcie (d : Dev) (q : Nat) (f : PcieQ → PcieQ) : Dev :=
  { d with host := { d.host with pcie := modifyNth d.host.pcie q f } }

/-- Q_STAT.REPLY_STALL follows the reply ring (R58); a flag of Q_STAT that sets is signalled (R60). -/
def Dev.pcieStall (d : Dev) (q : Nat) : Dev :=
  let p := nth d.host.pcie q {}
  let d1 := d.onPcie q fun p => { p with replyStall := !p.room }
  if !p.room && !p.replyStall then d1.msix 5 else d1

/-- Writes a packet into a queue's reply ring, advances the tail and signals (R59, R60); the ring has room. -/
def Dev.pciePut (d : Dev) (q : Nat) (ws : List Word) : Dev :=
  let p := nth d.host.pcie q {}
  let d1 := d.onPcie q fun p => { p with rqTail := (p.rqTail + 1) % p.rqSize }
  ((d1.emit (.pcieReply q p.rqTail ws)).msix (1 + q)).pcieStall q

/-- A reply of a PCIe queue: written to its ring, or held while the ring is full; of a disabled queue it is lost.
DESIGN CHOICE (unsafe): log 123. -/
def Dev.pcieReply (d : Dev) (q : Nat) (ws : List Word) : Dev :=
  let p := nth d.host.pcie q {}
  if !p.enable then d
  else if p.held.isEmpty && p.room then d.pciePut q ws
  else (d.onPcie q fun p => { p with held := p.held ++ [ws] }).pcieStall q

/-- Replies that waited for room are written while there is room, oldest first; every one takes a step of `fuel`. -/
def Dev.pcieFlush (q : Nat) : Nat → Dev → Dev
  | 0, d => d
  | fuel + 1, d =>
    let p := nth d.host.pcie q {}
    match p.held with
    | [] => d
    | ws :: rest => if p.room then Dev.pcieFlush q fuel ((d.onPcie q fun p => { p with held := rest }).pciePut q ws) else d

/-- Splits a reply for the management port into packets of at most 180 payload words, all but the last with MORE (R62). -/
def splitReply : Nat → List Word → List (List Word × Bool)
  | 0, ws => [(ws, false)]
  | fuel + 1, ws => if ws.length ≤ 180 then [(ws, false)] else (ws.take 180, true) :: splitReply fuel (ws.drop 180)

/-- The display frame in progress, as parcels name it: 0 before wall time is known (R262). -/
def Dev.parcelFrame (d : Dev) : Nat := if d.time.running then d.frameNow else 0

/-- A tile queues an item for its sender as REPLY parcels, toward each end it receives from (R268). -/
def Dev.queueReply (d : Dev) (code : Nat) (body : List Word) : Dev :=
  let pos := d.get F.LINK_TILE_STAT_POSITION
  let dirs := d.get F.LINK_TILE_STAT_RX_DIRS
  let mk (cnt : Nat) (pl : List Word) : List Word :=
    parcelWords ⟨ptReply, false, 0, pos + cnt % 2 ^ 17 * 128, d.parcelFrame, d.get F.LINK_TILE_STAT_SENDER,
      d.get F.LINK_TILE_STAT_LOOP, 0⟩ pl
  let pls := itemPayloads code d.link.nextMsg body
  let ps := (List.range pls.length).map fun i => mk (d.link.tile.replyCnt + i) (nth pls i [])
  let add (e : Nat) (q : List (List Word)) : List (List Word) := if dirs.testBit e then q ++ ps else q
  { d with link := { d.link with
      nextMsg := (d.link.nextMsg + 1) % 2 ^ 32
      tile := { d.link.tile with
        replyCnt := (d.link.tile.replyCnt + pls.length) % 2 ^ 17
        replies := [add 0 (nth d.link.tile.replies 0 []), add 1 (nth d.link.tile.replies 1 [])] } } }

/-- Sends one packet to an originator over its path (R59, R63, R64, R66); the firmware's own writes, which the model numbers
as originator 10, have no path.
DESIGN CHOICE (unsafe): log 121. -/
def Dev.sendTo (d : Dev) (orig : Nat) (ws : List Word) : Dev :=
  if orig < 4 then d.pcieReply orig ws
  else if orig < 8 then
    match nth d.host.eth (orig - 4) none with
    | some s => d.emit (.eth s.ip s.port ws)
    | none => d
  else if orig = 8 then
    if d.host.spi.length < 64 then { d with host := { d.host with spi := d.host.spi ++ [ws] } }
    else { d with host := { d.host with spiHeld := d.host.spiHeld ++ [ws] } }
  else if orig = 9 then d.queueReply 0x10 ws
  else d

/-! ### Events (R72 to R75) -/

/-- An event can be queued for an originator now, without passing events that wait. -/
def Dev.eventRoom (d : Dev) (orig : Nat) : Bool :=
  if orig < 4 then
    let e := d.host.events
    e.enable && e.held.isEmpty && decide (0 < ringFree e.size e.tail e.head)
  else if orig = 8 then d.host.spiHeld.isEmpty && decide (d.host.spi.length < 64)
  else true

/-- Puts an event packet in an originator's queue (R59, R63, R64); the caller has checked that there is room. -/
def Dev.putEvent (d : Dev) (orig : Nat) (ws : List Word) : Dev :=
  if orig < 4 then
    let e := d.host.events
    let d1 := { d with host := { d.host with events := { e with tail := (e.tail + 1) % e.size } } }
    (d1.emit (.pcieEvent e.tail ws)).msix 0
  else d.sendTo orig ws

/-- Events held for an originator because its queue is full: at most 256 (R59, R64). -/
def Dev.holdEvent (d : Dev) (orig : Nat) (ws : List Word) : Option Dev :=
  if orig < 4 then
    if d.host.events.held.length < 256 then
      some { d with host := { d.host with events := { d.host.events with held := d.host.events.held ++ [ws] } } }
    else none
  else if orig = 8 then
    if d.host.spiHeld.length < 256 then some { d with host := { d.host with spiHeld := d.host.spiHeld ++ [ws] } } else none
  else none

/-- The payload words 0 and 1 of an event (R72). -/
def Dev.eventTime (d : Dev) (suppressed : Nat) : List Word :=
  [Word.of d.wallS, Word.pack [(0, 30, d.wallNs), (32, 16, suppressed)]]

/-- The next event sequence (R72). -/
def Dev.nextEvSeq (d : Dev) : Dev := { d with host := { d.host with evSeq := (d.host.evSeq + 1) % 65536 } }

/-- Where the events dropped for an originator are counted: the PCIe queues share one event ring (R59). -/
def lostIdx (orig : Nat) : Nat := if orig < 4 then 0 else orig

/-- Delivers the EV_LOST an originator is owed, before any newer event (R75).
DESIGN CHOICE (unsafe): log 125. -/
def Dev.deliverLost (d : Dev) (orig : Nat) : Dev :=
  let n := nth d.host.lost (lostIdx orig) 0
  if n = 0 || !d.eventRoom orig then d
  else
    let ws := eventPacket EvCode.lost.code d.host.evSeq Severity.warning.code d.responder (d.eventTime 0 ++ [Word.of n])
    ({ d with host := { d.host with lost := modifyNth d.host.lost (lostIdx orig) fun _ => 0 } }.nextEvSeq).putEvent orig ws

/-- Delivers one event packet to one originator: into its queue, or held, or dropped with EVENT_LOST (R75). -/
def Dev.deliverEvent (d : Dev) (orig : Nat) (ws : List Word) : Dev :=
  let d := d.deliverLost orig
  let owed := nth d.host.lost (lostIdx orig) 0
  if owed = 0 && d.eventRoom orig then d.putEvent orig ws
  else
    match (if owed = 0 then d.holdEvent orig ws else none) with
    | some d' => d'
    | none =>
      { d.raiseFlag F.CTRL_CMD_STAT_EVENT_LOST with
        host := { d.host with lost := modifyNth d.host.lost (lostIdx orig) fun n => satTo 0xFFFFFFFF (n + 1) } }

/-- The path of an originator is up: its queue enabled, its session open, its interface enabled.
DESIGN CHOICE (unsafe): log 124. -/
def Dev.pathUp (d : Dev) (orig : Nat) : Bool :=
  if orig < 4 then d.variant.full && d.isSender && d.host.events.enable && d.bit F.CTRL_PATH_CFG_PCIE_EN
  else if orig < 8 then (nth d.host.eth (orig - 4) none).isSome && d.bit F.CTRL_PATH_CFG_ETH_EN
  else if orig = 8 then d.bit F.CTRL_PATH_CFG_SPI_EN
  else d.isTile

/-- The originators an event of a class goes to (R74): the PCIe queues share one event ring and count once; a tile sends
all its events to its sender. -/
def Dev.subscribers (d : Dev) (code : EvCode) : List Nat :=
  let wants (o : Nat) : Bool :=
    o == 9 || code == .capacity || code == .lost || (nth d.host.masks o 0).testBit code.classBit
  let pcie := ([0, 1, 2, 3].filter fun o => wants o && d.pathUp o).take 1
  pcie ++ ([4, 5, 6, 7, 8, 9].filter fun o => wants o && d.pathUp o)

/-- Times of the events of a code sent in the last second (R75). -/
def Dev.eventTimes (d : Dev) (code : Nat) : List Nat :=
  (((d.host.evTimes.find? fun x => x.1 == code).map (·.2)).getD []).filter fun t => d.now < t + sPs

/-- Every event of severity fault or safety sets KEEP_SAFE_STAT.FAULT (R446). -/
def Dev.noteSeverity (d : Dev) : Severity → Dev
  | .fault | .safety => d.raiseFlag F.KEEP_SAFE_STAT_FAULT
  | _ => d

/-- Raises an event (R72 to R75): at most 64 of one code in a second, the rest counted in SUPPRESSED.
DEDUCED (unsafe): log 107. -/
def Dev.event (d : Dev) (code : EvCode) (sev : Severity) (words : List Word) : Dev :=
  let d := d.noteSeverity sev
  let times := d.eventTimes code.code
  let supp := ((d.host.suppressed.find? fun x => x.1 == code.code).map (·.2)).getD 0
  let others := d.host.suppressed.filter fun x => x.1 != code.code
  if 64 ≤ times.length then
    { d with host := { d.host with suppressed := (code.code, satTo 0xFFFF (supp + 1)) :: others } }
  else
    let ws := eventPacket code.code d.host.evSeq sev.code d.responder (d.eventTime supp ++ words)
    let d1 := { d with host := { d.host with
      suppressed := others
      evTimes := (code.code, d.now :: times) :: d.host.evTimes.filter fun x => x.1 != code.code } }
    (d1.subscribers code).foldl (fun d o => d.deliverEvent o ws) d1.nextEvSeq

/-- EV_CAPACITY (R43, R73): the new KEEP_INSVC, the cause and the unit's index. -/
def Dev.eventCapacity (d : Dev) (cause index : Nat) (sev : Severity) : Dev :=
  d.event .capacity sev [d.reg R.KEEP_INSVC, Word.pack [(0, 8, cause), (8, 16, index)]]

/-- EV_FAULT (R449): the status register named by the raising rule, the cause and the region. -/
def Dev.eventFault (d : Dev) (cause region : Nat) (sev : Severity) (status : Nat) : Dev :=
  d.event .fault sev [d.reg status, Word.pack [(0, 8, cause), (8, 3, region)]]

/-- EV_SAFE (R449). -/
def Dev.eventSafe (d : Dev) (cause region : Nat) : Dev :=
  d.event .safe .safety [d.reg R.KEEP_SAFE_STAT, Word.pack [(0, 8, cause), (8, 3, region)]]

/-- EV_CLOCK (R104 to R106): its words after the time are not laid out by the spec.
DESIGN CHOICE (safe): log 35. -/
def Dev.eventClock (d : Dev) (cause : Nat) (sev : Severity) : Dev :=
  d.event .clock sev (Config.clockEventWords cause)

/-- EV_TXN (R525). -/
def Dev.eventTxn (d : Dev) (cause txn orig frame : Nat) : Dev :=
  d.event .txn .warning [d.reg R.CTRL_TXN_STAT, Word.pack [(0, 8, cause), (8, 8, txn), (16, 4, orig)], Word.of frame]

/-- EV_TIME (R338). -/
def Dev.eventTime' (d : Dev) (cause : Nat) (sev : Severity) (more : List Word := []) : Dev :=
  d.event .time sev ([d.reg R.TIME_STAT, Word.pack [(0, 8, cause), (8, 3, d.get F.TIME_STAT_SRC_IN_USE)],
    Word.of (d.get F.TIME_SERVO_OFFSET_PS)] ++ more)

/-! ### Ways to change one part of the device -/

def Dev.onHost (d : Dev) (f : HostPaths → HostPaths) : Dev := { d with host := f d.host }
def Dev.onClk (d : Dev) (f : Clk → Clk) : Dev := { d with clk := f d.clk }
def Dev.onSafe (d : Dev) (f : Safe → Safe) : Dev := { d with safe := f d.safe }
def Dev.onMc (d : Dev) (f : MemCtl → MemCtl) : Dev := { d with mc := f d.mc }
def Dev.onImg (d : Dev) (f : Img → Img) : Dev := { d with img := f d.img }
def Dev.onTime (d : Dev) (f : TimeState → TimeState) : Dev := { d with time := f d.time }

/-- A meaning that changes nothing but the device: the next state with `f` applied to it. -/
def State.onDev (s : State) (f : Dev → Dev) : Host.Outcome State Fault Refusal := .next { s with dev := f s.dev }

end Sys2Proof.Machine
end

