-- ==== Sys2Proof/Machine/ImageOps.lean ====
section
/-!
DEFINITION. Images: header, check table, blocks and the checks made on them (R454 to R461), the record of each class, and
the events of ch. 16. The meanings of the rows are in Machine/Images.lean, the boot flow in Machine/Chip.lean.
-/
namespace Sys2Proof.Machine

open Sys2Proof

abbrev icFw : Nat := 1
abbrev icKlib : Nat := 2
abbrev icLprog : Nat := 3
abbrev icSafety : Nat := 4
abbrev icConfig : Nat := 8
abbrev icLayout : Nat := 9
abbrev icSlate : Nat := 10
abbrev icTables : Nat := 11
abbrev icCaldb : Nat := 12

/-- Classes that hold code (R452). -/
def isCode (c : Nat) : Bool := decide (1 ≤ c) && decide (c ≤ 4)

/-- Class numbers R452 knows. -/
def classKnown (c : Nat) : Bool := (decide (1 ≤ c) && decide (c ≤ 4)) || (decide (8 ≤ c) && decide (c ≤ 12))

/-- A class is valid in the device's role (R452). -/
def Dev.classRole (d : Dev) (c : Nat) : Bool :=
  if c = icLprog || c = icTables then d.isTile
  else if c = icLayout || c = icSlate || c = icCaldb then d.isSender
  else true

/-! ### Layout (R454, R455) -/

/-- CRC-32C of words (R53, SEQ = 0). -/
def crc32c (ws : List Word) : Nat := (checkWord 0 ws).toNat

def imgBytes (ws : List Word) : Nat := Word.field (nth ws 2 0) 0 32
def imgBlocks (ws : List Word) : Nat := Word.field (nth ws 2 0) 32 21
def imgSvn (ws : List Word) : Nat := Word.field (nth ws 0 0) 54 6
def imgRoot (ws : List Word) : Nat := Word.field (nth ws 0 0) 49 1
def imgKeySlot (ws : List Word) : Nat := Word.field (nth ws 0 0) 50 2
def imgSigned (ws : List Word) : Bool := (nth ws 0 0).getLsbD 48
/-- Here:
DEDUCED (unsafe): log 56. -/
def imgVersion (ws : List Word) : Word := nth ws 1 0
def imgEpoch (ws : List Word) : Nat := Word.field (nth ws 3 0) 0 32

/-- Words of the check table with its padding: two entries to a word, a multiple of 8 words. -/
def imgTableWords (blocks : Nat) : Nat := ((blocks + 1) / 2 + 7) / 8 * 8

/-- Words of a whole image. -/
def imgWords (code : Bool) (blocks : Nat) : Nat :=
  16 + imgTableWords blocks + 512 * blocks + (if code then 360 else 0)

/-- The check table of an image. -/
def imgTable (ws : List Word) : List Word := (ws.drop 16).take (imgTableWords (imgBlocks ws))

/-- The body, padding included. -/
def imgBody (ws : List Word) : List Word :=
  (ws.drop (16 + imgTableWords (imgBlocks ws))).take (512 * imgBlocks ws)

/-- The check table's entry of a block. -/
def imgEntry (ws : List Word) (i : Nat) : Nat := Word.field (nth (imgTable ws) (i / 2) 0) (32 * (i % 2)) 32

/-- The check value of block i (R456). -/
def blockCrc (i : Nat) (block : List Word) : Nat :=
  crcResult 32 true true (crcBytes 32 0x1EDC6F41 true (0xFFFFFFFF ^^^ (i % 2 ^ 32)) (block.flatMap Word.bytes))

/-- The first block, from one on, whose check value fails. -/
def badBlock (ws : List Word) : Nat → Nat → Option Nat
  | 0, _ => none
  | n + 1, i =>
    if blockCrc i ((imgBody ws).drop (512 * i) |>.take 512) != imgEntry ws i then some i else badBlock ws n (i + 1)

/-- The header's own rules (R455), sizes and the two check values included. -/
def headerRules (cls : Nat) (ws : List Word) : Bool :=
  let w i := nth ws i 0
  let bytes := imgBytes ws
  let blocks := imgBlocks ws
  Word.field (w 0) 0 32 == 0x4B474D49 && Word.field (w 0) 32 8 == 1 && Word.field (w 0) 40 8 == cls &&
  imgSigned ws == isCode cls && Word.field (w 0) 60 4 == 0 && (cls == icFw || Word.field (w 0) 52 2 == 0) &&
  decide (1 ≤ bytes) && blocks == ceilDiv bytes 4096 && Word.field (w 2) 58 6 == 0 &&
  Word.field (w 3) 32 32 == 0 && (!isCode cls || Word.field (w 3) 0 32 == 0) &&
  (cls == icFw || (w 4 == 0 && w 5 == 0 && w 6 == 0)) && Word.field (w 7) 32 32 == 0 &&
  w 12 == 0 && w 13 == 0 && w 14 == 0 && Word.field (w 15) 32 32 == 0 &&
  Word.field (w 15) 0 32 == crc32c (ws.take 15) && Word.field (w 7) 0 32 == crc32c (imgTable ws)

/-- VARIANTS and ROLES admit the device (R455). -/
def Dev.admits (d : Dev) (ws : List Word) : Bool :=
  let v := match d.variant with
    | .gkd9256 => 53
    | .gkd9128 => 54
    | .gkd9064t => 55
  (nth ws 2 0).getLsbD v && (nth ws 2 0).getLsbD (if d.isTile then 57 else 56)

/-- Failure reasons (R461). -/
abbrev irHeader : Nat := 1
abbrev irBlock : Nat := 2
abbrev irHash : Nat := 3
abbrev irSignature : Nat := 4
abbrev irKey : Nat := 5
abbrev irSvn : Nat := 6
abbrev irFlash : Nat := 7
abbrev irPolicy : Nat := 8

/-- The named root slot is of the right kind, written and not revoked (R458). -/
def keyOk (otp : Otp) (cls : Nat) (ws : List Word) : Bool :=
  let vendor := decide (cls ≤ 2)
  let roots := if vendor then otp.vendor else otp.integrator
  imgRoot ws == (if vendor then 0 else 1) &&
  match roots[imgKeySlot ws]? with
  | some k => !k.key.isEmpty && !k.revoked
  | none => false

/-- The minimum SVN of a code class (R460). -/
def minSvn (otp : Otp) (cls : Nat) : Nat := nth otp.svn (cls - 1) 0

/-- The full check of an image (R461), in the order of R468: 0 where it passes, else the reason; and the failing block. -/
def checkImage (d : Dev) (otp : Otp) (cls : Nat) (ws : List Word) (hashOk sigOk : Bool) : Nat × Nat :=
  if !headerRules cls ws || !d.admits ws || ws.length != imgWords (isCode cls) (imgBlocks ws) then (irHeader, 0)
  else if isCode cls && decide (imgSvn ws < minSvn otp cls) then (irSvn, 0)
  else if isCode cls && !keyOk otp cls ws then (irKey, 0)
  else match badBlock ws (imgBlocks ws) 0 with
    | some b => (irBlock, b)
    | none =>
      if isCode cls && !hashOk then (irHash, 0) else if isCode cls && !sigOk then (irSignature, 0) else (0, 0)

/-! ### The record of a class -/

/-- Slot states (CTRL_IMGc_INFO). -/
abbrev isEmpty : Nat := 0
abbrev isLoading : Nat := 1
abbrev isLoaded : Nat := 2
abbrev isVerified : Nat := 3
abbrev isBad : Nat := 4
abbrev isActive : Nat := 5

def Dev.cls (d : Dev) (c : Nat) : ImgClass := nth d.images c {}
def ImgClass.slot (k : ImgClass) (i : Nat) : ImgSlot := nth k.slots i {}

/-- A slot's state as the registers show it: LOADED while a recheck runs; the active slot reads ACTIVE unless it failed its checks. -/
def ImgClass.shown (k : ImgClass) (i : Nat) : Nat :=
  if (k.slot i).checking then isLoaded else if k.active == some i && (k.slot i).state != isBad then isActive else (k.slot i).state

/-- CTRL_IMGc_INFO and CTRL_IMGc_VERs follow the record of the class. -/
def Dev.refreshClass (d : Dev) (c : Nat) : Dev :=
  let k := d.cls c
  let ver (i : Nat) : Nat := if (k.slot i).state == isEmpty then 0 else (imgVersion (k.slot i).words).toNat
  d.setAll [(F.CTRL_IMG_INFO_ACTIVE c, k.active.getD 0), (F.CTRL_IMG_INFO_PENDING c, k.pending.isSome.toNat),
    (F.CTRL_IMG_INFO_TRIALS c, k.trials), (F.CTRL_IMG_INFO_STATE0 c, k.shown 0), (F.CTRL_IMG_INFO_STATE1 c, k.shown 1),
    (F.CTRL_IMG_INFO_DONE_BLOCKS c, (k.slot k.last).done), (F.CTRL_IMG_VER_HDR (2 * c), ver 0), (F.CTRL_IMG_VER_HDR (2 * c + 1), ver 1)]

/-- Changes the record of a class, the registers with it. -/
def Dev.onClass (d : Dev) (c : Nat) (f : ImgClass → ImgClass) : Dev :=
  ({ d with images := modifyNth d.images c f } : Dev).refreshClass c

/-- Changes one slot of a class. -/
def Dev.onSlot (d : Dev) (c i : Nat) (f : ImgSlot → ImgSlot) : Dev :=
  d.onClass c fun k => { k with slots := modifyNth k.slots i f }

/-- A check of a slot failed: it reads BAD, and REASON holds why. -/
def Dev.failSlot (d : Dev) (c i reason block : Nat) : Dev :=
  (d.onSlot c i fun x => { x with state := isBad, reason := reason, failBlock := block }).set (F.CTRL_IMG_INFO_REASON c) reason

/-- EV_IMAGE (R478). -/
def Dev.eventImage (d : Dev) (cause c slot reason block : Nat) (sev : Severity) : Dev :=
  d.event .image sev [d.reg (R.CTRL_IMG_INFO c),
    Word.pack [(0, 8, cause), (8, 8, c), (16, 1, slot), (24, 8, reason), (32, 32, block)],
    imgVersion ((d.cls c).slot slot).words]

/-- A load whose words still come over the loop ends when the loop is cut or LINK is reset (R479).
DEDUCED (unsafe): log 103. -/
def Dev.cutLoads (d : Dev) : Dev :=
  let cut := d.img.jobs.filter fun j => j.relayed && decide (j.words.length < imgWords (isCode j.cls) (imgBlocks j.words) || j.words.length < 16)
  cut.foldl (fun d j => (d.failSlot j.cls j.slot irFlash 0).eventImage 0x02 j.cls j.slot irFlash 0 .warning)
    (d.onImg fun i => { i with jobs := i.jobs.filter fun j => !cut.contains j })

/-- A version lies in a window: MIN ≤ MAJOR.MINOR ≤ MAX (R455). -/
def inWindow (win ver : Word) : Bool :=
  decide (Word.field win 0 32 ≤ Word.field ver 32 32) && decide (Word.field ver 32 32 ≤ Word.field win 32 32)

/-- A sender running `s` and a tile running `t` (header words) are compatible (R471). -/
def compatible (senderVer senderTileWin tileVer tileSenderWin : Word) : Bool :=
  inWindow senderTileWin tileVer && inWindow tileSenderWin senderVer

/-! ### Bodies of CONFIG, LAYOUT and SAFETY (R462, R463) -/

/-- The records of a CONFIG body: tag and words. The fuel is the body's length. -/
def configRecords : Nat → List Word → Option (List (Nat × List Word))
  | 0, [] => some []
  | 0, _ => none
  | _ + 1, [] => some []
  | n + 1, w :: ws =>
    let k := Word.field w 16 16
    if ws.length < k then none
    else match configRecords n (ws.drop k) with
      | some r => some ((Word.field w 0 16, ws.take k) :: r)
      | none => none

/-- The words of a body without the padding of its last block. -/
def bodyWords (ws : List Word) : List Word := (imgBody ws).take (ceilDiv (imgBytes ws) 8)

/-- Pairs of words. -/
def pairsOf : List Word → List (Word × Word)
  | a :: b :: rest => (a, b) :: pairsOf rest
  | _ => []

/-- The tiles of a LAYOUT body (R463). -/
def layoutTiles (body : List Word) : List LayoutTile :=
  (pairsOf (body.drop 1)).take (Word.field (nth body 0 0) 0 14) |>.map fun p =>
    { sender := Word.field p.1 0 4, loop := Word.field p.1 4 2, pos := Word.field p.1 6 7, x := Word.field p.2 0 16,
      y := Word.field p.2 16 16, w := Word.field p.2 32 16, h := Word.field p.2 48 16 }

/-- Two entries clash: at one sender, loop and position, or with rectangles that overlap (R463). -/
def layoutClash (a b : LayoutTile) : Bool :=
  (a.sender == b.sender && a.loop == b.loop && a.pos == b.pos) ||
  (decide (a.x < b.x + b.w) && decide (b.x < a.x + a.w) && decide (a.y < b.y + b.h) && decide (b.y < a.y + a.h))

/-- No two entries of a layout clash. -/
def layoutOk : List LayoutTile → Bool
  | [] => true
  | t :: ts => !(ts.any (layoutClash t)) && layoutOk ts

/-- A data image of the device's own making: header, check table, body (R454 to R456), for every variant and role. -/
def makeDataImage (cls epoch : Nat) (version : Word) (body : List Word) : List Word :=
  let bytes := 8 * body.length
  let blocks := ceilDiv bytes 4096
  let padded := body ++ List.replicate (512 * blocks - body.length) 0
  let crcs := (List.range blocks).map fun i => blockCrc i ((padded.drop (512 * i)).take 512)
  let table := (List.range (imgTableWords blocks)).map fun i => Word.pack [(0, 32, nth crcs (2 * i) 0), (32, 32, nth crcs (2 * i + 1) 0)]
  let head := [Word.pack [(0, 32, 0x4B474D49), (32, 8, 1), (40, 8, cls)], version,
    Word.pack [(0, 32, bytes), (32, 21, blocks), (53, 5, 31)], Word.of epoch, 0, 0, 0, Word.of (crc32c table)] ++ List.replicate 7 0
  head ++ [Word.of (crc32c head)] ++ table ++ padded

/-- The table classes of a TABLES body, each after a word laid out as CALDB's (R463, R368). -/
def tablesBody (ts : List (Nat × List Word)) : List Word :=
  ts.flatMap fun t => Word.pack [(12, 4, t.1), (16, 32, t.2.length)] :: t.2

/-- The positions a CALDB body holds, as (loop, position, class, words) (R463). -/
def caldbRecords : Nat → List Word → List (Nat × Nat × Nat × List Word)
  | 0, _ => []
  | _ + 1, [] => []
  | n + 1, w :: ws =>
    let k := Word.field w 16 32
    (Word.field w 8 2, Word.field w 0 7, Word.field w 12 4, ws.take k) :: caldbRecords n (ws.drop k)

end Sys2Proof.Machine
end

