-- ==== Sys2Proof/Machine/RegOps.lean ====
section
/-!
DEFINITION. Which registers are there for whom, and what a write makes of a register's fields by their types (R7, R9,
R11, R20). The effects particular registers have are in Machine/RegWrite.lean.
-/
namespace Sys2Proof.Machine

open Sys2Proof

/-- Places of single units in the gate registers (ch. 3); basins, scalers, pipes, video and network ports, Orvarlink ports and DRAM
channels begin at 0, 16, 24, 28, 32, 36 and 44. -/
abbrev guScaler : Nat := 16
abbrev guBlend : Nat := 24
abbrev guVin : Nat := 28
abbrev guGbe : Nat := 32
abbrev guPcie : Nat := 34
abbrev guAudio : Nat := 35
abbrev guOvl : Nat := 36
abbrev guDdr : Nat := 44
abbrev guLanes : Nat := 46
abbrev guRails : Nat := 47
abbrev guPhoto : Nat := 48
abbrev guPtp : Nat := 49
abbrev guMgmt : Nat := 50
abbrev guSpi : Nat := 51
abbrev guCtrl : Nat := 52

/-- The clock of a unit runs in the power state (ch. 3, R117): KEEP_GATE_RUN until SLEEP is reached, then KEEP_GATE_SLEEP. -/
def Dev.clocked (d : Dev) (i : Nat) : Bool :=
  (d.reg (if d.awake then R.KEEP_GATE_RUN else R.KEEP_GATE_SLEEP)).getLsbD i

/-- Blend pipes and scalers present (R4, ch. 6). -/
def Variant.pipes : Variant → Nat
  | .gkd9256 => 4 | .gkd9128 => 2 | .gkd9064t => 0

def Variant.scalers : Variant → Nat
  | .gkd9256 => 8 | .gkd9128 => 4 | .gkd9064t => 0

/-- A requester port of the DRAM controller is present on the variant (R4, R137). -/
def Variant.memPort (v : Variant) (n : Nat) : Bool :=
  if n < 4 then decide (n < v.pipes)
  else if n = 4 then true
  else if n < 9 then decide (n - 5 < v.vins)
  else if n < 11 then decide (n - 9 < v.gbes)
  else if n = 11 then v.full
  else if n < 16 then true
  else if n = 16 then v.full
  else decide (n < 19)

/-- A requester port is active in the role (R137). -/
def Dev.memPortRole (d : Dev) (n : Nat) : Bool :=
  if n = 4 || (12 ≤ n && n < 15) then d.isTile else if n = 15 || 17 ≤ n then true else d.isSender

/-- A requester port of the DRAM controller is present and active (R137). -/
def Dev.memPort (d : Dev) (n : Nat) : Bool := d.variant.memPort n && d.memPortRole n

/-- The device is one of a twin pair (R291). -/
def Dev.isTwin (d : Dev) : Bool := d.isSender && d.bit F.CTRL_PAIR_CFG_TWIN

/-- The pair-link port (R36). -/
def Dev.pairPort (d : Dev) : Nat := if d.variant = .gkd9256 then 7 else 3

/-- Ports active in the configuration (R255). -/
def Dev.portActive (d : Dev) (n : Nat) : Bool :=
  if d.isTile then decide (n < 2)
  else if d.isTwin then decide (n < d.loops) || n == d.pairPort
  else decide (n < d.variant.ovls)

/-- A basin is active: every basin of a sender, of a tile 0 to 3 and each replacement brought in (R31, R38, R207). -/
def Dev.basinInRole (d : Dev) (b : Nat) : Bool := d.isSender || decide (b < 4) || (nth d.compose.basins b {}).active

/-- The unit a register belongs to is present on the variant (R4, R7).
DEDUCED (safe): log 31. -/
def Dev.unitPresent (d : Dev) (u : UnitKind) (i : Nat) : Bool :=
  match u with
  | .alwaysK | .senderK | .tileK | .lampK => true
  | .vinK => decide (i < d.variant.vins)
  | .gbeK => decide (0 < d.variant.gbes)
  | .audioK | .ingestK | .compositorK => d.variant.full
  | .pipeK => decide (i < d.variant.pipes)
  | .scalerK => decide (i < d.variant.scalers)
  | .basinK => decide (i < d.variant.basins)
  | .ovlK => decide (i < d.variant.ovls)
  | .loopK => decide (i < d.variant.loops)
  | .memPortK => d.variant.memPort i

/-- A present unit is active in the device's role (R20, R38, R207, R255).
DEDUCED (safe): log 31. -/
def Dev.unitActive (d : Dev) (u : UnitKind) (i : Nat) : Bool :=
  match u with
  | .alwaysK => true
  | .memPortK => d.memPortRole i
  | .senderK | .vinK | .gbeK | .audioK | .ingestK | .compositorK | .pipeK | .scalerK | .loopK => d.isSender
  | .tileK | .lampK => d.isTile
  | .basinK => d.basinInRole i
  | .ovlK => d.portActive i

/-- A value of a register of a present unit names a unit the variant lacks (R7): a time source or a port bit of an absent 100 GbE port,
an absent video port as a layer's source.
DEDUCED (unsafe): log 74. -/
def Dev.namesAbsent (d : Dev) (a : Nat) (new : Word) : Bool :=
  let gbe (lo : Nat) : Bool := decide (2 ^ d.variant.gbes ≤ Word.field new lo 2)
  if a = R.TIME_CFG then Word.field new F.TIME_CFG_SRC.lo F.TIME_CFG_SRC.width == 1 && d.variant.gbes == 0
  else if a = R.TIME_PTP_CFG then gbe F.TIME_PTP_CFG_PORTS.lo
  else if (List.range 40).any fun f => a == R.INGEST_FLOW_DST f then gbe (F.INGEST_FLOW_DST_PORTS 0).lo
  else if (List.range 32).any fun l => a == R.LAYER_SRC l then
    decide (Word.field new (F.LAYER_SRC_SOURCE 0).lo (F.LAYER_SRC_SOURCE 0).width < 4) &&
      decide (d.variant.vins ≤ Word.field new (F.LAYER_SRC_SOURCE 0).lo (F.LAYER_SRC_SOURCE 0).width)
  else false

/-- A value lies in one of the ranges a field takes; a field without ranges takes every value. -/
def FieldSpec.takes (f : FieldSpec) (v : Nat) : Bool :=
  f.allowed.isEmpty || f.allowed.any fun r => decide (r.1 ≤ v) && decide (v ≤ r.2)

/-- The register after a write of its fields by type, shadowed fields aside (R9, R12): RW and RWL fields take the written
bits, W1C bits are cleared where a 1 is written, the rest keeps. -/
def RegFam.merge (f : RegFam) (old value : Word) : Word :=
  f.fields.foldl (fun w x =>
    match x.ty with
    | .rw | .rwl => Word.setField w x.lo x.width (Word.field value x.lo x.width)
    | .w1c => Word.setField w x.lo x.width (Word.field old x.lo x.width &&& (2 ^ x.width - 1 - Word.field value x.lo x.width))
    | _ => w) old

/-- The register after its shadowed fields latch a value (R83). -/
def RegFam.latch (f : RegFam) (old value : Word) : Word :=
  f.fields.foldl (fun w x =>
    if x.ty = .rws then Word.setField w x.lo x.width (Word.field value x.lo x.width) else w) old

/-- Every field of one of the given types takes the written value (E_RANGE otherwise).
DEDUCED (unsafe): log 22. -/
def RegFam.rangeOk (f : RegFam) (tys : List FieldType) (value : Word) : Bool :=
  f.fields.all fun x => !tys.contains x.ty || x.takes (Word.field value x.lo x.width)

def RegFam.has (f : RegFam) (ty : FieldType) : Bool := f.fields.any fun x => x.ty == ty

/-- A register that holds RWL fields and no other field software writes (R462). -/
def RegFam.onlyRwl (f : RegFam) : Bool := f.has .rwl && !(f.has .rw || f.has .rws || f.has .w1c || f.has .wo)

/-- The value with its status fields at reset and its configuration kept: what a region reset leaves of a register whose
configuration in force the firmware reapplies (R114). -/
def RegFam.resetStatus (f : RegFam) (old : Word) : Word :=
  f.fields.foldl (fun w x =>
    match x.ty with
    | .rw | .rwl | .rws => Word.setField w x.lo x.width (Word.field old x.lo x.width)
    | _ => w) f.resetWord

/-- The registers of a region with their status at reset and the configuration in force reapplied (R114).
DEDUCED (unsafe): log 30. -/
def Dev.resetRegionRegs (d : Dev) (region : Nat) : Dev :=
  let base := 0xF000000000 + region * 0x1000000
  { d with regs := d.regs.map fun x =>
      if decide (base ≤ x.1) && decide (x.1 < base + 0x1000000) then
        match regAt x.1 with
        | some (f, _) => (x.1, f.resetStatus x.2)
        | none => x
      else x }

/-- What a read of a register shows when nothing is computed: zero of an absent unit, the reset value of an inactive one, of an inactive
port of the memory controller zero (R137), 0 in write-only and reserved bits (R7, R9, R20).
DEDUCED (safe): log 31. -/
def Dev.plainRead (d : Dev) (a : Nat) : Option Word :=
  (regAt a).map fun (f, i) =>
    if !d.unitPresent f.unit i then 0
    else if !d.unitActive f.unit i then (if f.unit = .memPortK then 0 else regReset a)
    else f.fields.foldl (fun w x =>
      if x.ty = .wo then w else Word.setField w x.lo x.width (Word.field (d.reg a) x.lo x.width)) 0

end Sys2Proof.Machine
end

