-- ==== Sys2Proof/Machine/TimeOps.lean ====
section
/-!
DEFINITION. Wall time: the servo and its states, the reference in use, the rules a change of time brings (ch. 11). The
meanings of the rows are in Machine/Time.lean.
-/
namespace Sys2Proof.Machine

open Sys2Proof

/-- The lock bound of a source in ps (R316). -/
def lockBound : Nat → Int
  | 1 => 100000
  | 2 => 5000000
  | _ => 1000

/-- The servo's states (R316). -/
abbrev tsFree : Nat := 0
abbrev tsAcquire : Nat := 1
abbrev tsLocked : Nat := 2
abbrev tsHold : Nat := 3

def Dev.timeState (d : Dev) : Nat := d.get F.TIME_STAT_STATE

/-- KEEP_SVC_STAT.WHY_TIME follows the servo (R315, R325). -/
def Dev.refreshWhyTime (d : Dev) : Dev :=
  let src := d.get F.TIME_CFG_SRC
  let locked := d.timeState == tsLocked
  let why :=
    if d.isTile then !locked
    else (src == 1 || src == 3) && (d.get F.TIME_STAT_SRC_IN_USE != src || !locked)
  d.setBit F.KEEP_SVC_STAT_WHY_TIME why

/-- A path of PTP runs: an enabled 100 GbE port of a sender, or the management path (R320, TIME_PTP_CFG). -/
def Dev.ptpRuns (d : Dev) (path : Nat) : Bool :=
  d.isSender &&
  if path = 2 then d.bit F.TIME_PTP_CFG_MGMT_EN
  else d.clocked guPtp && decide (path < d.variant.gbes) && (d.get F.TIME_PTP_CFG_PORTS).testBit path

def Dev.ptp (d : Dev) (path : Nat) : PtpPath := nth d.time.paths path {}

/-- A path has a master whose time it has measured. -/
def Dev.ptpQualified (d : Dev) (path : Nat) : Bool :=
  d.ptpRuns path && (d.ptp path).master.isSome && (d.ptp path).offset.isSome

/-- Whether one dataset precedes another in the BMCA comparison: fields in order, the lower first (R320). -/
def betterMaster : List Nat → List Nat → Bool
  | a :: as, b :: bs => if a < b then true else if b < a then false else betterMaster as bs
  | _, _ => false

/-- The 100 GbE port whose master wins the comparison; ties go to port 0 (R320). -/
def Dev.hwPort (d : Dev) : Option Nat :=
  let m0 := if d.ptpRuns 0 then (d.ptp 0).master else none
  let m1 := if d.ptpRuns 1 then (d.ptp 1).master else none
  match m0, m1 with
  | none, none => none
  | some _, none => some 0
  | none, some _ => some 1
  | some a, some b => some (if betterMaster b a then 1 else 0)

/-- The source the servo runs on (R314, R315, R327). -/
def Dev.sourceInUse (d : Dev) : Nat :=
  if d.isTile || d.get F.CTRL_PAIR_STAT_STATE == 2 then 4
  else
    let src := d.get F.TIME_CFG_SRC
    let named := d.time.namedLocked || (match src with
      | 1 => match d.hwPort with
        | some p => d.ptpQualified p
        | none => false
      | 3 => d.bit F.TIME_FSYNC_STAT_IN_PRESENT
      | _ => true)
    if (src == 1 || src == 3) && !named && d.bit F.TIME_CFG_MGMT_FALLBACK && d.ptpQualified 2 then 2 else src

/-- SRC_IN_USE is brought up to date; entering the fallback sets FALLBACK (R315, R338). -/
def Dev.refreshSource (d : Dev) : Dev :=
  let old := d.get F.TIME_STAT_SRC_IN_USE
  let new := d.sourceInUse
  let d := d.set F.TIME_STAT_SRC_IN_USE new
  let d := if old != new && new == 2 && d.get F.TIME_CFG_SRC != 2 then
      (d.raiseFlag F.TIME_STAT_FALLBACK).eventTime' 0x07 .info
    else d
  d.refreshWhyTime

/-- A new rate correction, remembered for the mean of R317. -/
def Dev.setRate (d : Dev) (r : Int) : Dev :=
  let d := d.onTime fun t => { t with rate := r, rates := (d.now, r) :: t.rates.filter fun x => d.now < x.1 + 64 * sPs }
  -- one unit of 2^-32 ns in 2.5 ns is 1 / 10,737,418,240
  d.setInt F.TIME_SERVO_RATE_PPB (r * 1000000000 / 10737418240)

/-- The mean rate over the 64 s before now, or since LOCKED where that is later (R317): each rate counts for the time it
was applied. -/
def Dev.meanRate (d : Dev) : Int :=
  let from_ := max d.time.lockedAt (d.now - 64 * sPs)
  let rec go : Nat → List (Nat × Int) → Int → Int
    | _, [], acc => acc
    | until_, (t, r) :: rest, acc =>
      let s := max t from_
      let acc := acc + r * ((until_ - s : Nat) : Int)
      if t ≤ from_ then acc else go s rest acc
  if d.now ≤ from_ then d.time.rate else go d.now d.time.rates 0 / ((d.now - from_ : Nat) : Int)

/-- The servo's state changes; WHY_TIME follows. -/
def Dev.setTimeState (d : Dev) (st : Nat) : Dev :=
  ((d.set F.TIME_STAT_STATE st).onTime fun t =>
    { t with valid := 0, inBound := 0, leftFree := t.leftFree || st != tsFree
             holdSince := if st = tsHold then some d.now else none }).refreshWhyTime

/-- A step sets the counter to the reference (R318, R325). Its effect on composition is `Dev.stepFrames`. -/
def Dev.stepTime (d : Dev) (offPs : Int) : Dev :=
  let w : Int := (d.time.wall : Int) + offPs * (nsU : Int) / 1000
  ((d.onTime fun t => { t with wall := w.toNat }).raiseFlag F.TIME_STAT_STEPPED).eventTime' 0x04 .warning

/-- Bandwidth of the servo in mHz: in ACQUIRE and in LOCKED by source (R316), and on a loop in COL (R326). -/
def servoBandwidth (source : Nat) (col locked : Bool) : Nat :=
  match source with
  | 1 => if locked then 100 else 1000
  | 2 => if locked then 10 else 100
  | 3 => if locked then 10000 else 50000
  | _ => if col then 20000 else if locked then 200000 else 1000000

/-- The servo slews (R316, R318): the offset moves the frequency estimate by the integral gain of the bandwidth, and the rate departs from
the estimate by the proportional gain, but by no more than MAX_SLEW_PPM. -/
def Dev.slewTime (d : Dev) (col : Bool) (off : Int) : Dev :=
  let g := Config.servoGains (servoBandwidth (d.get F.TIME_STAT_SRC_IN_USE) col (d.timeState == tsLocked))
  let freq := d.time.freq + roundFree 6 (g.2 * off)
  let lim : Int := ((d.get F.TIME_CFG_MAX_SLEW_PPM * 10737418240 / 1000000 : Nat) : Int)
  (d.onTime fun t => { t with freq := freq }).setRate (freq + clampInt (-lim) lim (roundFree 7 (g.1 * off)))

/-- A valid offset of the source in use reaches the servo, in ps, reference minus counter (R316 to R318, R325). Offsets taken
during a REFCLK fault are discarded (R317), but by a tile, which keeps following the loop (R104), and none counts while a change of
master holds the rate (R319). `col` says that the loop followed is in COL (R326). The answer says whether the counter stepped.
DESIGN CHOICE (safe): log 71.
DEDUCED (unsafe): log 73. -/
def Dev.servoOffset (d : Dev) (col : Bool) (off : Int) : Dev × Bool :=
  if (d.bit F.KEEP_CLK_STAT_HOLDOVER && !d.isTile) || d.time.keepUntil.isSome then (d, false)
  else
    let src := d.get F.TIME_STAT_SRC_IN_USE
    let d := d.setInt F.TIME_SERVO_OFFSET_PS (Config.servoFilter src d.timeState off (d.getInt F.TIME_SERVO_OFFSET_PS))
    let mag : Int := off.natAbs
    let plain := d.service ≤ 1
    let big : Bool := if d.isTile then decide (1000000 < mag)
      else decide (((d.get F.TIME_CFG_STEP_US * usPs : Nat) : Int) < mag)
    let st := d.timeState
    if st = tsFree || st = tsHold then
      if src = 0 then (d, false)
      else if 8 ≤ d.time.valid + 1 then (d.setTimeState tsAcquire, false)
      else (d.onTime fun t => { t with valid := t.valid + 1 }, false)
    else if st = tsAcquire then
      if big && (d.isTile || plain) then ((d.stepTime off).onTime fun t => { t with inBound := 0 }, true)
      else
        -- in full service an offset above STEP_US is slewed (R318)
        let d := if big && d.service = 2 then (d.raiseFlag F.TIME_STAT_OFFSET_LARGE).eventTime' 0x05 .fault else d
        let d := d.slewTime col off
        if mag < lockBound src then
          if 16 ≤ d.time.inBound + 1 then
            let d := d.setTimeState tsLocked
            let d := d.onTime fun t =>
              { t with lockedAt := d.now, namedLocked := t.namedLocked || src == d.get F.TIME_CFG_SRC }
            (d.eventTime' 0x01 .info, false)
          else (d.onTime fun t => { t with inBound := t.inBound + 1 }, false)
        else (d.onTime fun t => { t with inBound := 0 }, false)
    else if d.isTile then
      if big then (((d.setTimeState tsAcquire).stepTime off), true) else (d.slewTime col off, false)
    else if big && d.service = 2 then
      (((d.raiseFlag F.TIME_STAT_OFFSET_LARGE).eventTime' 0x05 .fault).slewTime col off, false)
    else (d.slewTime col off, false)

/-- The reference is lost (R316, R317): a locked servo enters HOLDOVER at the mean rate. -/
def Dev.timeLost (d : Dev) : Dev :=
  if d.timeState = tsLocked then
    let r := d.meanRate
    (((d.setTimeState tsHold).setRate r).raiseFlag F.TIME_STAT_LOCK_LOST).eventTime' 0x02 .warning
  else d.onTime fun t => { t with valid := 0, inBound := 0 }

/-- A change of grandmaster, of the 100 GbE port, or of SRC keeps the rate for 2 s (R319).
DEDUCED (unsafe): log 73. -/
def Dev.masterChange (d : Dev) (old new : Nat) : Dev :=
  let d := d.onTime fun t => { t with keepUntil := some (d.now + 2 * sPs), valid := 0, inBound := 0 }
  (d.raiseFlag F.TIME_STAT_MASTER_CHANGE).eventTime' 0x03 .warning [Word.of old, Word.of new]

/-- The clockIdentity of the grandmaster of the path in use. -/
def Dev.gmIdentity (d : Dev) : Nat :=
  match d.get F.TIME_PTP_INFO_PORT_IN_USE with
  | 0 => 0
  | k + 1 => match (d.ptp k).master with
    | some m => nth m 5 0
    | none => 0

/-- The PTP path the source in use takes its time from. -/
def Dev.pathInUse (d : Dev) : Option Nat :=
  match d.get F.TIME_STAT_SRC_IN_USE with
  | 1 => d.hwPort
  | 2 => if d.ptpRuns 2 && (d.ptp 2).master.isSome then some 2 else none
  | 3 => match d.get F.TIME_CFG_COARSE with
    | 0 => d.hwPort
    | 1 => if d.ptpRuns 2 && (d.ptp 2).master.isSome then some 2 else none
    | _ => none
  | _ => none

/-- TIME_PTP_INFO and TIME_PTP_GM follow the path in use. -/
def Dev.refreshPtpInfo (d : Dev) : Dev :=
  match d.pathInUse with
  | none => d.set F.TIME_PTP_INFO_PORT_IN_USE 0
  | some k =>
    let p := d.ptp k
    let m := p.master.getD []
    d.setAll [(F.TIME_PTP_INFO_PORT_IN_USE, k + 1), (F.TIME_PTP_INFO_STEPS_REMOVED, nth m 6 0),
      (F.TIME_PTP_INFO_UTC_OFFSET, p.utc), (F.TIME_PTP_INFO_UTC_VALID, p.utcValid.toNat),
      (F.TIME_PTP_INFO_LEAP61, p.leap61.toNat), (F.TIME_PTP_INFO_LEAP59, p.leap59.toNat),
      (F.TIME_PTP_INFO_MEAN_PATH_NS, ((p.path.getD 0 + d.getInt F.TIME_PTP_CFG_ASYM_PS) / 1000).toNat), (F.TIME_PTP_GM_GM_ID, nth m 5 0)]

/-- IN_PRESENT: edges arrived within the last 4 expected periods, of 1 ms in PHASE mode and of Tf else (TIME_FSYNC_STAT).
DESIGN CHOICE (unsafe): log 1. -/
def Dev.fsyncTick (d : Dev) : Dev :=
  let period := if d.get F.TIME_FSYNC_IN_CFG_MODE = 3 then msPs else if d.tfDen = 0 then 0 else d.tfNum * sPs / d.tfDen
  if d.bit F.TIME_FSYNC_STAT_IN_PRESENT && decide (d.time.fsAt + 4 * period < d.now) then d.set F.TIME_FSYNC_STAT_IN_PRESENT 0 else d

/-- One TCLK edge (R312): the counter adds 2.5 ns × (1 + r).
DESIGN CHOICE (unsafe): log 1. -/
def Dev.tick (d : Dev) : Dev :=
  { d with now := d.now + 2500
           time := if d.time.running then { d.time with wall := ((d.time.wall : Int) + 10737418240 + d.time.rate).toNat }
             else d.time }

/-- The counter as TIME_NOW_NS shows it (R312). -/
def Dev.nowNsWord (d : Dev) : Word := Word.pack [(0, 30, d.wallNs), (32, 32, d.wallFrac)]

/-- The number of hops a neighbour on a side reports, and whether its servo is locked (R324). -/
def Dev.sideHops (d : Dev) (s : Nat) : Nat := d.get (F.TIME_LOOP_SIDE_HOPS s)
def Dev.sideValid (d : Dev) (s : Nat) : Bool := d.bit (F.TIME_LOOP_SIDE_VALID s)

/-- The side followed (R324): the smaller HOPS among sides with VALID, the A side on a tie, a side without VALID only when
none has it. -/
def Dev.bestSide (d : Dev) : Nat :=
  let h0 := d.sideHops 0
  let h1 := d.sideHops 1
  match d.sideValid 0, d.sideValid 1 with
  | true, false => 0
  | false, true => 1
  | _, _ => if h1 < h0 then 1 else 0

/-- A tile takes the side of R324; a switch sets SIDE_CHANGE, and its own HOPS follow. -/
def Dev.refreshSide (d : Dev) : Dev :=
  let s := d.bestSide
  let d := if d.get F.TIME_STAT_SIDE != s then (d.set F.TIME_STAT_SIDE s).raiseFlag F.TIME_STAT_SIDE_CHANGE else d
  d.set F.TIME_STAT_HOPS (satTo 127 (d.sideHops s + 1))

/-- A side falls silent: its neighbour no longer counts (R324). -/
def Dev.sideDown (d : Dev) (s : Nat) : Dev :=
  let d := d.setAll [(F.TIME_LOOP_SIDE_VALID s, 0), (F.TIME_LOOP_SIDE_HOPS s, 0x7F)]
  if d.isTile then d.refreshSide else d

end Sys2Proof.Machine
end

