-- ==== Sys2Proof/Machine/LinkOps.lean ====
section
/-!
DEFINITION. The Orvar loop's operations: which ports are a loop's ends, sending items, the state of ports and loops, relays,
the token rules every relay needs (ch. 9, ch. 10). The meanings of the rows are in Machine/Loop.lean and Machine/TwinRows.lean.
-/
namespace Sys2Proof.Machine

open Sys2Proof

def Dev.onLink (d : Dev) (f : LinkState → LinkState) : Dev := { d with link := f d.link }
def Dev.onTwin (d : Dev) (f : Twin → Twin) : Dev := { d with twin := f d.twin }
def Dev.onPort (d : Dev) (n : Nat) (f : Port → Port) : Dev := d.onLink fun l => { l with ports := modifyNth l.ports n f }
def Dev.onLoop (d : Dev) (k : Nat) (f : LoopState → LoopState) : Dev :=
  d.onLink fun l => { l with loops := modifyNth l.loops k f }
def Dev.onTileLink (d : Dev) (f : TileLink → TileLink) : Dev := d.onLink fun l => { l with tile := f l.tile }

def Dev.port (d : Dev) (n : Nat) : Port := nth d.link.ports n {}
def Dev.loopSt (d : Dev) (k : Nat) : LoopState := nth d.link.loops k {}

/-! ### The pair and the token -/


/-- CTRL_PAIR_STAT.STATE values. -/
abbrev psNone : Nat := 0
abbrev psHolder : Nat := 1
abbrev psStandby : Nat := 2
abbrev psSeeking : Nat := 3

def Dev.pairState (d : Dev) : Nat := d.get F.CTRL_PAIR_STAT_STATE

/-- The device holds the control token: a single sender, or the holder of a pair (R66). -/
def Dev.hasToken (d : Dev) : Bool := d.isSender && (d.pairState == psNone || d.pairState == psHolder)


/-- A loop's ends on this device: (end, port), end 0 being A (R36, R256). -/
def Dev.loopEnds (d : Dev) (k : Nat) : List (Nat × Nat) :=
  if d.isTwin then [(if d.role = .senderB then 1 else 0, k)] else [(0, 2 * k), (1, 2 * k + 1)]

/-- The loop and end a port serves on a sender. -/
def Dev.portLoop (d : Dev) (n : Nat) : Option (Nat × Nat) :=
  if d.isTwin then (if n < d.loops then some (n, if d.role = .senderB then 1 else 0) else none)
  else if n / 2 < d.loops then some (n / 2, n % 2) else none


/-- The end a tile's port faces: OVL0 faces end A unless the tile is reversed (R256). -/
def Dev.tileEnd (d : Dev) (n : Nat) : Nat := if d.bit F.LINK_TILE_STAT_REVERSED then 1 - n % 2 else n % 2

/-- LOOPID a port checks parcels with; none on a tile not enumerated (R263). -/
def Dev.portLoopId (d : Dev) (n : Nat) : Option Nat :=
  if d.isTile then
    if d.bit F.LINK_TILE_STAT_IDENT then
      some (loopId (d.get F.LINK_TILE_STAT_LOOP) (d.get F.LINK_TILE_STAT_SENDER))
    else none
  else match d.portLoop n with
    | some (k, _) => some (loopId k d.senderNo)
    | none => some (loopId 0 d.senderNo)

/-! ### Port and loop states -/

abbrev lsDown : Nat := 0
abbrev lsTrain : Nat := 1
abbrev lsEnum : Nat := 1
abbrev lsCol : Nat := 2
abbrev lsOne : Nat := 3
abbrev lsFull : Nat := 4

def Dev.portState (d : Dev) (n : Nat) : Nat := d.get (F.LINK_OVL_STAT_STATE n)
def Dev.loopState (d : Dev) (k : Nat) : Nat := d.get (F.LINK_LOOP_STAT_STATE k)

/-- A loop is running when its state is COL, ONE or FULL (R275). -/
def Dev.loopRuns (d : Dev) (k : Nat) : Bool := decide (k < d.loops) && decide (lsCol ≤ d.loopState k)

/-- A loop runs at col rate, where the longer time limits hold (R67, R266). -/
def Dev.loopAtCol (d : Dev) (k : Nat) : Bool := decide (d.loopState k ≤ lsCol)

/-- EV_LINK (R288): the status register concerned, the cause, the port or loop, the lane. -/
def Dev.eventLink (d : Dev) (status cause idx lane : Nat) (sev : Severity) : Dev :=
  d.event .link sev [d.reg status, Word.pack [(0, 8, cause), (8, 8, idx), (16, 8, lane)]]

/-- EV_TILE raised by a sender about the tile at a position, with the tile's own LINK_TILE_STAT rebuilt from what the sender
knows of it (R289). -/
def Dev.eventTileAt (d : Dev) (k pos cause : Nat) (sev : Severity) : Dev :=
  let t := (d.loopSt k).tiles.find? fun t => t.pos == pos
  let w2 := if cause = 0x05 then d.reg (R.LINK_LOOP_STAT k)
    else Word.pack [(0, 7, pos), (8, 2, k), (10, 4, d.senderNo), (14, 1, 1), (15, 1, ((t.map (·.keyed)).getD false).toNat)]
  d.event .tile sev [w2, Word.pack [(0, 8, cause), (8, 7, pos)], (t.map (·.uidLo)).getD 0, (t.map (·.uidHi)).getD 0]

/-- The device's own UID. -/
def Dev.uid (d : Dev) : Word × Word := (d.reg R.KEEP_UID_LO, d.reg R.KEEP_UID_HI)

/-- EV_TOKEN (R310); the UID words come from the caller. -/
def Dev.eventToken (d : Dev) (uid : Word × Word) (cause : Nat) (sev : Severity) (more : List Word := []) : Dev :=
  d.event .token sev ([d.reg R.CTRL_PAIR_STAT, Word.pack [(0, 8, cause), (32, 32, d.get F.CTRL_PAIR_TERM_TERM)],
    uid.1, uid.2] ++ more)

/-- Lanes of a mode: COL and ONE run on lane 0, FULL on the lanes not retired (R259). -/
def lanesOf (mode retired : Nat) : Nat := if mode = lsFull then 4 - popCount 4 retired else if 2 ≤ mode then 1 else 0

/-- KEEP_INSVC.LANES as a port's state gives it: the smaller of its two directions, 0 below three lanes (R40 table, R280). -/
def Dev.laneCount (d : Dev) (n : Nat) : Nat :=
  if d.portState n = lsFull then min (d.get (F.LINK_OVL_STAT_RX_LANES n)) (d.get (F.LINK_OVL_STAT_TX_LANES n)) else 0

/-- KEEP_INSVC.LANES of a port follows its state; a change that is no retirement raises EV_CAPACITY with cause PORT (R43). -/
def Dev.refreshLanes (d : Dev) (n : Nat) (retirement : Bool) : Dev :=
  let f : Fld := ⟨R.KEEP_INSVC, 32 + 3 * n, 3⟩
  let old := d.get f
  let new := if n < 8 then d.laneCount n else 0
  if old = new then d
  else
    let d := d.set f new
    if retirement then d else d.eventCapacity 6 n (if old < new then .info else .warning)

/-- A port takes a state, its lanes with it. -/
def Dev.setPortState (d : Dev) (n st : Nat) : Dev :=
  let p := d.port n
  let rx := lanesOf st p.rxRetired
  let tx := lanesOf st p.txRetired
  let d := d.onPort n fun p => { p with words := 0 }
  (d.setAll [(F.LINK_OVL_STAT_STATE n, st), (F.LINK_OVL_STAT_RX_LANES n, rx), (F.LINK_OVL_STAT_TX_LANES n, tx)]).refreshLanes
    n false

/-- KEEP_SVC_STAT.WHY_LINK (R119, R282): on a sender it clears when every enabled loop is FULL, on a tile when its links
that are up are FULL. -/
def Dev.refreshWhyLink (d : Dev) : Dev :=
  let ok :=
    if d.isTile then
      let up := [0, 1].filter fun n => decide (lsCol ≤ d.portState n)
      !up.isEmpty && up.all fun n => d.portState n == lsFull
    else
      let ks := (List.range d.loops).filter fun k => d.bit (F.LINK_LOOP_CFG_EN k)
      ks.all fun k => d.loopState k == lsFull
  d.setBit F.KEEP_SVC_STAT_WHY_LINK (!ok)

/-- Sets a loop's state; a change of mode raises EV_LINK RATE (R288). -/
def Dev.setLoopState (d : Dev) (k st : Nat) : Dev :=
  let old := d.loopState k
  let d := d.set (F.LINK_LOOP_STAT_STATE k) st
  let d := if old != st && lsCol ≤ st && !(st == lsCol && decide (old < lsCol)) then d.eventLink (R.LINK_LOOP_STAT k) 0x09 k 0 .info else d
  d.refreshWhyLink

/-- Tiles the wall layout gives a loop of this sender: M_L (R276). -/
def Dev.layoutCount (d : Dev) (k : Nat) : Nat :=
  (d.link.layout.filter fun t => t.sender == d.senderNo && t.loop == k).length

/-- Positions of a loop known to the sender, in order. -/
def Dev.positions (d : Dev) (k : Nat) : List Nat := (d.loopSt k).tiles.map (·.pos)

/-- Tiles a TARGET names: the loop and position of each (R55, R56). -/
def Dev.targetTiles (d : Dev) (t : Target) : List (Nat × Nat) :=
  if t.scope = 1 then [(t.loop, t.position)]
  else if t.scope = 2 then (d.positions t.loop).map fun p => (t.loop, p)
  else (List.range d.loops).flatMap fun k => (d.positions k).map fun p => (k, p)

/-! ### Sending items -/

/-- The next loop counter of CTRL parcels: 1 to 0xFF_FFFF, then 1 again (R262). -/
def nextCtrlIndex (i : Nat) (n : Nat) : Nat := (i - 1 + n) % 0xFFFFFF + 1

/-- Queues words 0 to 30 of a CTRL parcel at a port (R271). -/
def Dev.queueCtrl (d : Dev) (n : Nat) (ws : List Word) : Dev := d.onPort n fun p => { p with ctrl := p.ctrl ++ [ws] }

/-- Sends an item of the pair link (R294). -/
def Dev.pairItem (d : Dev) (code : Nat) (body : List Word) : Dev :=
  let msg := d.link.nextMsg
  let ps := (itemPayloads code msg body).map fun pl =>
    parcelWords ⟨ptCtrl, false, 0, 1, d.parcelFrame, d.senderNo, 0, 0⟩ pl
  let d := d.onLink fun l => { l with nextMsg := (msg + 1) % 2 ^ 32 }
  ps.foldl (fun d ws => d.queueCtrl d.pairPort ws) d

/-- The pair link is up. -/
def Dev.pairUp (d : Dev) : Bool := d.isTwin && d.bit F.CTRL_PAIR_STAT_PAIR_UP

/-- Sends a CTRL item on a loop, from each end of this device; a holder's copy goes over the pair link to the other end
(R266, R271, R299). -/
def Dev.loopItem (d : Dev) (k code : Nat) (body : List Word) : Dev :=
  let msg := d.link.nextMsg
  let pls := itemPayloads code msg body
  let idx := (d.loopSt k).ctrlIndex
  let ps := (List.range pls.length).map fun i =>
    parcelWords ⟨ptCtrl, false, 0, nextCtrlIndex idx i, d.parcelFrame, d.senderNo, k, 0⟩ (nth pls i [])
  let d := d.onLink fun l => { l with nextMsg := (msg + 1) % 2 ^ 32 }
  let d := d.onLoop k fun l => { l with ctrlIndex := nextCtrlIndex idx pls.length }
  let d := (d.loopEnds k).foldl (fun d e => ps.foldl (fun d ws => d.queueCtrl e.2 ws) d) d
  if d.pairUp && d.pairState == psHolder && code != 0x08 then ps.foldl (fun d ws => d.pairItem 0x25 ws) d else d

/-- A relayed command as a COMMAND item: RELAYED set, SEQ, TXN and payload unchanged (R66). -/
def relayWords (opcode seq txn cookie target : Nat) (quiet : Bool) (payload : List Word) : List Word :=
  commandPacket opcode seq txn cookie target quiet true payload

/-! ### Whether an end receives (R268) -/

/-- A tile has received a good parcel from an end within 100 µs, or 1 ms at col rate. -/
def Dev.receivesFrom (d : Dev) (e : Nat) : Bool :=
  (List.range 2).any fun n =>
    d.tileEnd n == e && decide (lsCol ≤ d.portState n) &&
    match (d.port n).lastRx with
    | some t => d.now < t + (if d.portState n = lsCol then msPs else 100 * usPs)
    | none => false

/-- RX_DIRS of a tile follows what it receives. -/
def Dev.refreshDirs (d : Dev) : Dev :=
  d.set F.LINK_TILE_STAT_RX_DIRS ((d.receivesFrom 0).toNat + 2 * (d.receivesFrom 1).toNat)

/-- The LEASE a tile recorded from an end within 70 ms (R303): its TERM. -/
def Dev.leaseOf (d : Dev) (e : Nat) : Option Nat :=
  match nth d.link.tile.leases e none with
  | some (term, t) => if d.now < t + 70 * msPs then some term else none
  | none => none

/-- The end whose commands a tile accepts (R303): it carries the highest TERM seen. Before any LEASE every end is accepted, or no
loop could come up.
DEDUCED (unsafe): log 61. -/
def Dev.endAccepted (d : Dev) (e : Nat) : Bool :=
  match d.leaseOf e, d.leaseOf (1 - e) with
  | some a, some b => decide (b ≤ a)
  | some _, none => true
  | none, some _ => false
  | none, none => true

/-- An item of R303 from an end that is not accepted is counted and flagged; from an accepted one it is handled.
DEDUCED (unsafe): log 61. -/
def Dev.fromEnd (d : Dev) (e : Nat) (f : Dev → Dev) : Dev :=
  if !d.isTile || d.boot != .up || 2 ≤ e then d
  else if d.endAccepted e then f d
  else (d.bump F.CTRL_PAIR_CNT_REJECTS).raiseFlag F.CTRL_PAIR_STAT_CMD_REJECT

/-- A DMA_IN or MEM_WRITE at a holder is copied to the standby's DRAM: MEMCOPY items of up to 27 words (R294, R295). -/
def Dev.mirrorMem (d : Dev) (a : Nat) (ws : List Word) : Dev :=
  if d.pairUp && d.pairState == psHolder then
    let parts := chunksOf 27 (ws.length / 27 + 1) ws
    (List.range parts.length).foldl (fun d i => d.pairItem 0x22 (Word.of (a + 216 * i) :: nth parts i [])) d
  else d

/-- A standby of a pair, whose mirrored registers and DRAM only the holder writes (R295). -/
def Dev.isStandby (d : Dev) : Bool := d.isTwin && d.pairState != psHolder

/-- What a reset of LINK does to its ports and loops (R290): both directions fall silent and the ports train again to the modes
they had; positions, keys and the layout are kept, and what was in transfer is lost. -/
def Dev.linkReset (d : Dev) : Dev :=
  let d := d.onLink fun l => { l with
    partials := []
    ports := l.ports.map fun p => { p with stream := p.stream.filter fun w => Word.field (nth w 0 0) 0 4 == ptAbort, tags := [], ctrl := []
                                           rxRetired := 0, txRetired := 0, relocks := [0, 0, 0, 0], lastRx := none, slow := false }
    tile := { l.tile with rx := [], replies := [[], []] } }
  (List.range 8).foldl (fun d n => if d.portActive n && lsTrain ≤ d.portState n then d.setPortState n 1 else d) d

/-- LINK's positions and counts that a region reset keeps (R290), from the state before it. -/
def Dev.linkKept (d old : Dev) : Dev :=
  let d := [F.LINK_TILE_STAT_POSITION, F.LINK_TILE_STAT_REVERSED, F.LINK_TILE_STAT_LOOP, F.LINK_TILE_STAT_SENDER, F.LINK_TILE_STAT_IDENT,
    F.LINK_TILE_STAT_KEYED].foldl (fun d f => d.set f (old.get f)) d
  (List.range 4).foldl (fun d k => d.setAll [(F.LINK_LOOP_STAT_TILES k, old.get (F.LINK_LOOP_STAT_TILES k)),
    (F.LINK_LOOP_STAT_LAYOUT_BAD k, old.get (F.LINK_LOOP_STAT_LAYOUT_BAD k))]) d

/-- A sender of a pair seeks the token when it enters plain service (R302, R522); a single sender's TERM is 1 (R300). -/
def Dev.twinBoot (d : Dev) : Dev :=
  if d.isTile then d
  else
    let d := d.set F.CTRL_PAIR_STAT_PREF (d.get F.KEEP_CAP1_PAIR_PREF)
    if d.isTwin then
      (d.set F.CTRL_PAIR_STAT_STATE psSeeking).onTwin fun t => { t with renewed := none, yieldAt := none, held := [], asked := false }
    else d.set F.CTRL_PAIR_TERM_TERM 1

/-- MUTED changes (R297, R310); what waits of pixel streams on a muted sender is not sent. -/
def Dev.setMuted (d : Dev) (b : Bool) : Dev :=
  if d.bit F.CTRL_PAIR_STAT_MUTED == b then d
  else
    let d := (d.setBit F.CTRL_PAIR_STAT_MUTED b).onTwin fun t => { t with unmute := false, muteLink := t.muteLink && b }
    let d := if b then
        (List.range d.loops).foldl (fun d k => (d.loopEnds k).foldl (fun d e =>
          d.onPort e.2 fun p => { p with stream := [], tags := [], frame := none, pixAll := p.pixSent }) d) d
      else d
    d.eventToken (d.reg R.KEEP_UID_LO, d.reg R.KEEP_UID_HI) 0x07 (if b then .warning else .info)

end Sys2Proof.Machine
end

