-- ==== Sys2Proof/Machine/IngestOps.lean ====
section
/-!
DEFINITION. Operations of the sources (ch. 5): the rings of frame slots, what a source selects for a display frame, the
audio ports' rules, what validation checks of INGEST, what resets and power states do to it.
-/
namespace Sys2Proof.Machine

open Sys2Proof

def Dev.onIngest (d : Dev) (f : Ingest → Ingest) : Dev := { d with ingest := f d.ingest }
def Dev.source (d : Dev) (n : Nat) : Source := nth d.ingest.sources n {}
def Dev.onSource (d : Dev) (n : Nat) (f : Source → Source) : Dev :=
  d.onIngest fun i => { i with sources := modifyNth i.sources n f }
def Dev.flow (d : Dev) (f : Nat) : FlowSt := nth d.ingest.flows f {}
def Dev.onFlow (d : Dev) (f : Nat) (g : FlowSt → FlowSt) : Dev := d.onIngest fun i => { i with flows := modifyNth i.flows f g }
def Dev.channel (d : Dev) (k : Nat) : AudioCh := nth d.ingest.channels k {}
def Dev.onChannel (d : Dev) (k : Nat) (f : AudioCh → AudioCh) : Dev :=
  d.onIngest fun i => { i with channels := modifyNth i.channels k f }
def Dev.stage (d : Dev) (c : Nat) : AudioStage := nth d.ingest.aout c .off
def Dev.setStage (d : Dev) (c : Nat) (st : AudioStage) : Dev := d.onIngest fun i => { i with aout := modifyNth i.aout c fun _ => st }

/-- EV_PICTURE of a source, flow or channel (R167). -/
def Dev.eventSource (d : Dev) (status cause idx : Nat) (sev : Severity) : Dev :=
  d.event .picture sev [d.reg status, Word.pack [(0, 8, cause), (8, 8, idx)]]

/-- INGEST runs: a sender that is awake, its region not in reset. -/
def Dev.ingestRuns (d : Dev) : Bool :=
  d.boot == .up && d.isSender && d.variant.full && !d.ingest.asleep && !d.safe.inReset.contains 3

/-! ### Store formats and sizes (R146, R159, R160, R528) -/

/-- Bytes of a pixel in a store format. -/
def pixelBytes (store : Nat) : Nat := if store = 0 then 4 else 8

/-- A row's stride. -/
def strideOf (store w : Nat) : Nat := ceilDiv (w * pixelBytes store) 256 * 256

/-- A live source. -/
def isLive (n : Nat) : Bool := decide (n < 36)

/-- Bytes of one slot of a source's area: a video port's slot is sized for 7,680 x 4,320. -/
def Dev.slotBytes (d : Dev) (n : Nat) : Nat :=
  let st := d.get (F.INGEST_SRC_CFG_STORE n)
  if n < 4 then strideOf st 7680 * 4320
  else strideOf st (d.get (F.INGEST_SRC_GEOM_WIDTH n)) * d.get (F.INGEST_SRC_GEOM_HEIGHT n)

/-- The area of a source's ring or frames: address and bytes. -/
def Dev.sourceArea (d : Dev) (n : Nat) : Nat × Nat :=
  (d.get (F.INGEST_SRC_BASE_BASE n), d.get (F.INGEST_SRC_CFG_COUNT n) * d.slotBytes n)

/-- The area of one channel's audio ring, and of all eight (R166). -/
def Dev.audioRingBytes (d : Dev) : Nat := 4 * 2 ^ d.get F.INGEST_AUD_CFG_RING_LOG2
def Dev.audioRing (d : Dev) (k : Nat) : Nat × Nat :=
  (d.get F.INGEST_AUD_CFG_RING_BASE * 4096 + k * d.audioRingBytes, d.audioRingBytes)
def Dev.audioArea (d : Dev) : Nat × Nat := (d.get F.INGEST_AUD_CFG_RING_BASE * 4096, 8 * d.audioRingBytes)

/-- The ring of ancillary data (R155). -/
def Dev.ancArea (d : Dev) : Nat × Nat :=
  (d.get F.INGEST_ANC_RING_BASE,
   if d.get F.INGEST_ANC_RING_SIZE_LOG2 = 0 then 0 else 2 ^ d.get F.INGEST_ANC_RING_SIZE_LOG2)

/-- Two areas, as (address, bytes), share a byte. -/
def meets (a b : Nat × Nat) : Bool := decide (0 < a.2) && decide (0 < b.2) && decide (a.1 < b.1 + b.2) && decide (b.1 < a.1 + a.2)

/-- Sources that are enabled. -/
def Dev.enabledSources (d : Dev) : List Nat := (List.range 48).filter fun n => d.bit (F.INGEST_SRC_CFG_EN n)

/-! ### Pixels into the store (R147) -/

/-- Weights of red and blue in luma of BT.601, BT.709 and BT.2020 (R147); the standards' values.
PRESUMED (unsafe): log 132. -/
def lumaWeights (colorimetry : Nat) : Rat × Rat :=
  match colorimetry with
  | 0 => (299 / 1000, 114 / 1000)
  | 1 => (2126 / 10000, 722 / 10000)
  | _ => (2627 / 10000, 593 / 10000)

/-- A full-range component of d bits as P32 stores it: 10 bits. -/
def toTen (depth v : Nat) : Nat :=
  if depth = 0 then v * 4 + v / 64 else if depth = 1 then v else satTo 1023 ((v + 2) / 4)

/-- Bits of a component by INGEST_VINp_MODE.DEPTH. -/
def depthBits (depth : Nat) : Nat := if depth = 0 then 8 else if depth = 1 then 10 else 12

/-- A component of d bits as P64 stores it. -/
def toFifteen (depth v : Nat) : Nat := roundDiv (v * 32768) (2 ^ depthBits depth - 1)

/-- A full-range R'G'B' pixel as the store format's bytes, A = 1. -/
def storePixel (store depth : Nat) (p : Nat × Nat × Nat) : List Byte :=
  if store = 0 then
    (Word.bytes (Word.pack [(0, 10, toTen depth p.1), (10, 10, toTen depth p.2.1), (20, 10, toTen depth p.2.2), (30, 2, 3)])).take 4
  else
    Word.bytes (Word.pack [(0, 16, toFifteen depth p.1), (16, 16, toFifteen depth p.2.1), (32, 16, toFifteen depth p.2.2),
      (48, 16, 0x8000)])

/-- A position on an axis of so many samples: itself, or a free one of them where the filter reaches over the edge.
DESIGN CHOICE (safe): log 46. -/
def chromaAt (len : Nat) (i : Int) : Nat := if 0 ≤ i ∧ i < len then i.toNat else Config.chromaEdge len i % len

/-- A chroma sample (Cb for `second` false) at pixel (x, y) of a received frame, upsampled (R147): 4:2:2 and 4:2:0 hold one for two
columns, in the even columns' places, and horizontally a 4-tap filter runs over them; 4:2:0 holds one row for two, in the even rows,
and vertically they are interpolated linearly. `siting` is in half rows: 0 on the even row, 1 midway, 2 on the odd one.
DESIGN CHOICE (safe): log 46. -/
def chromaSample (f : SrcFrame) (second : Bool) (x y : Nat) : Rat :=
  let at_ (i j : Nat) : Rat := let p := nth (nth f.rows j []) i (0, 0, 0); ((if second then p.2.2 else p.2.1 : Nat) : Rat)
  let row (j : Nat) : Rat :=
    if f.sampling < 2 then at_ x j
    else
      let taps := (List.range 4).map fun (k : Nat) =>
        Config.chromaTap f.siting (x % 2) k * at_ (2 * chromaAt ((f.w + 1) / 2) (((x / 2 + k : Nat) : Int) - 1)) j
      taps.foldl (· + ·) 0
  if f.sampling < 3 then row y
  else
    let p : Rat := (2 * y : Nat) / (4 : Rat) - (f.siting : Rat) / 4
    let i := p.floor
    let j (k : Int) : Nat := 2 * chromaAt ((f.h + 1) / 2) k
    (1 - (p - i)) * row (j i) + (p - i) * row (j (i + 1))

/-- The pixel at (x, y) of a received frame as full-range R'G'B' (R147, steps 1 to 3), exact up to the last rounding.
DESIGN CHOICE (safe): log 46. -/
def framePixel (f : SrcFrame) (x y : Nat) : Nat × Nat × Nat :=
  let p := nth (nth f.rows y []) x (0, 0, 0)
  if f.sampling = 0 && !f.limited then p
  else
    let top : Rat := (2 ^ depthBits f.depth - 1 : Nat)
    let step : Rat := (2 ^ (depthBits f.depth - 8) : Nat)
    -- a luma or colour component as a part of full scale, and a chroma one around its middle
    let full (v : Nat) : Rat := if f.limited then ((v : Rat) - 16 * step) / (219 * step) else v / top
    let mid (v : Rat) : Rat := if f.limited then (v - 128 * step) / (224 * step) else (v - 128 * step) / top
    let out (v : Rat) : Nat := (roundFree 4 (max 0 (min top (v * top)))).toNat
    if f.sampling = 0 then (out (full p.1), out (full p.2.1), out (full p.2.2))
    else
      let r := (lumaWeights f.colorimetry).1
      let b := (lumaWeights f.colorimetry).2
      let luma := full p.1
      let cb := 2 * (1 - b) * mid (chromaSample f false x y)
      let cr := 2 * (1 - r) * mid (chromaSample f true x y)
      (out (luma + cr), out (luma - (r * cr + b * cb) / (1 - r - b)), out (luma + cb))

/-- Writes a received frame into a slot.
DESIGN CHOICE (safe): log 46. -/
def storeFrame (m : List Host.Cell) (base store : Nat) (f : SrcFrame) : List Host.Cell :=
  (List.range f.h).foldl (fun m y =>
    memPutBytes m (base + y * strideOf store f.w) ((List.range f.w).flatMap fun x => storePixel store f.depth (framePixel f x y))) m

/-! ### The ingest limit (R156, R157) -/

/-- Bits stored for each second over the frames that have arrived, as a fraction in units of 0.1 Gb/s; none before two.
DEDUCED (unsafe): log 48. -/
def Source.rate (s : Source) : Option (Nat × Nat) :=
  match s.keys with
  | newest :: k :: rest =>
    let oldest := ((k :: rest).getLast?).getD k
    some (s.bits * (s.keys.length - 1) * 10000, newest - oldest)
  | _ => none

/-- The limits of R149 on a frame of w x h at the rate measured so far: at most 240 Hz and 2,000 Mpixel/s. -/
def Source.slowEnough (s : Source) (w h : Nat) : Bool :=
  match s.keys with
  | newest :: k :: rest =>
    let span := newest - ((k :: rest).getLast?).getD k
    let n := (s.keys.length - 1) * 1000000000000
    decide (n ≤ 240 * span) && decide (w * h * n ≤ 2000000000 * span)
  | _ => true

/-- A rate above RES does not fit; a rate equal to it does. -/
def Source.fits (s : Source) (res : Nat) : Bool :=
  match s.rate with
  | none => true
  | some (num, den) => decide (num ≤ res * den)

/-- The sum of fractions, rounded up. -/
def sumUp (l : List (Nat × Nat)) : Nat :=
  let s := (l.filter fun x => x.2 != 0).foldl (fun a b => (a.1 * b.2 + b.1 * a.2, a.2 * b.2)) (0, 1)
  ceilDiv s.1 s.2

/-- INGEST_BUDGET follows the reservations in force and the measured rates. -/
def Dev.refreshBudget (d : Dev) : Dev :=
  let live := d.enabledSources.filter isLive
  d.setAll [(F.INGEST_BUDGET_RESERVED, satTo 4095 ((live.map fun n => d.get (F.INGEST_SRC_CFG_RES n)).foldl (· + ·) 0)),
    (F.INGEST_BUDGET_ACTUAL, satTo 4095 (sumUp (live.filterMap fun n => (d.source n).rate)))]

/-- The ingest limit of the variant. -/
def Variant.ingestLimit : Variant → Nat
  | .gkd9256 => 3200 | .gkd9128 => 1600 | .gkd9064t => 0

/-- Measurement of a source's rate restarts (R157).
DEDUCED (unsafe): log 48. -/
def Dev.restartRate (d : Dev) (n : Nat) : Dev := (d.onSource n fun s => { s with keys := [], noFit := false }).refreshBudget

/-! ### Rings (R145, R158 to R160) -/

/-- A ring starts afresh: nothing in it is selected again. -/
def Dev.freshRing (d : Dev) (n : Nat) : Dev :=
  ((d.onSource n fun s => { s with frames := [], last := none, noFit := false }).set (F.INGEST_SRC_STAT_HAS_FRAME n) 0).restartRate n

/-- A slot is held (R159). -/
def Source.holds (s : Source) (slot : Nat) : Bool :=
  (s.picks.any fun p => p.2.slot == slot) || (s.last.any fun f => f.slot == slot) ||
  s.frames.any fun f => f.slot == slot && s.last.all fun l => decide (l.serial < f.serial)

/-- The oldest slot that is not held: one that holds no complete frame comes before one that does. -/
def Source.freeSlot (s : Source) (count : Nat) (kept : List Nat) : Option Nat :=
  let age (i : Nat) : Nat := ((s.frames.find? fun f => f.slot == i).map fun f => f.serial + 1).getD 0
  ((List.range count).filter fun i => !s.holds i && !kept.contains i).foldl (fun b i =>
    match b with
    | none => some i
    | some j => if age i < age j then some i else some j) none

/-- Slots whose frame a layer that is not ready shows again under POLICY = REPEAT: that frame stays held (R194). -/
def Dev.repeatedSlots (d : Dev) (n : Nat) : List Nat :=
  let shown := (List.range 32).filterMap fun l =>
    let r := nth d.compose.layers l {}
    if r.notReady && d.bit (F.LAYER_SRC_EN l) && d.get (F.LAYER_SRC_POLICY l) == 0 then r.last else none
  (List.range (d.get (F.INGEST_SRC_CFG_COUNT n))).filter fun i =>
    shown.any fun s => s.src == n && s.base == d.get (F.INGEST_SRC_BASE_BASE n) + i * d.slotBytes n

/-- The slot of a source's ring that its next frame goes into (R159, R194). -/
def Dev.ringSlot (d : Dev) (n : Nat) : Option Nat := (d.source n).freeSlot (d.get (F.INGEST_SRC_CFG_COUNT n)) (d.repeatedSlots n)

/-- The frame a live source selects for a display frame whose composition latch is at a time in ps (R158).
DEDUCED (unsafe): log 51. -/
def Source.pick (s : Source) (latch : Int) (delayUs : Nat) : Option StoredFrame :=
  s.frames.find? fun f => decide ((f.key : Int) ≤ latch - (delayUs * usPs : Nat))

/-- Frames passed over without ever being selected when a frame is chosen. -/
def Source.skipped (s : Source) (f : StoredFrame) : Nat :=
  (s.frames.filter fun g => decide (g.serial < f.serial) && (s.last.all fun l => decide (l.serial < g.serial))).length

/-- A frame of a source is the one a key names (R296): a flow's by its time key, a video port's within SEL_TOL_US. -/
def Dev.keyNames (d : Dev) (src key : Nat) (f : StoredFrame) : Bool :=
  if src < 4 then decide ((if f.key ≤ key then key - f.key else f.key - key) ≤ d.get F.CTRL_PAIR_CFG_SEL_TOL_US * usPs)
  else f.key == key

/-- A live source takes its frame for display frame N; a given choice (the holder's, R296) comes before its own rule. -/
def Dev.selectLive (d : Dev) (n frame : Nat) (latch frameStart : Int) (given : Option StoredFrame) : Dev :=
  let s := d.source n
  match given.orElse fun _ => s.pick latch (d.get (F.INGEST_SRC_CFG_DELAY_US n)) with
  | none => d
  | some f =>
    let again := s.last.any fun l => l.serial == f.serial
    let d := if again then d.bump (F.INGEST_SRC_STAT_REPEAT_CNT n) else d.bump (F.INGEST_SRC_STAT_SKIP_CNT n) (s.skipped f)
    d.onSource n fun s =>
      { s with last := some f, picks := (frame, f) :: s.picks, lat := ((frameStart - f.began) :: s.lat).take 64 }

/-- A memory source moves on when its frame has been shown HOLD display frames (R160). -/
def Dev.advanceClip (d : Dev) (n frame : Nat) : Dev :=
  let s := d.source n
  let count := d.get (F.INGEST_SRC_CFG_COUNT n)
  if count ≤ 1 || !d.bit (F.INGEST_SRC_CFG_PLAY n) || s.clipEnded || frame < s.clipFrom + d.get (F.INGEST_SRC_CFG_HOLD n) then d
  else if s.clip + 1 < count then d.onSource n fun s => { s with clip := s.clip + 1, clipFrom := frame }
  else if d.bit (F.INGEST_SRC_CFG_LOOP n) then d.onSource n fun s => { s with clip := 0, clipFrom := frame }
  else
    ((d.onSource n fun s => { s with clipEnded := true }).raiseFlag (F.INGEST_SRC_STAT_CLIP_END n)).eventSource
      (R.INGEST_SRC_STAT n) 0x17 n .info

/-- Every enabled source takes its frame for display frame N at the composition latch. -/
def Dev.selectSources (d : Dev) (frame : Nat) (latch frameStart : Int) (given : List (Nat × StoredFrame)) : Dev :=
  d.enabledSources.foldl (fun d n =>
    if isLive n then d.selectLive n frame latch frameStart ((given.find? fun g => g.1 == n).map (·.2))
    else d.advanceClip n frame) d

/-- Frames selected for a display frame are free once its composition has finished. -/
def Dev.releaseFrame (d : Dev) (frame : Nat) : Dev :=
  d.onIngest fun i => { i with sources := i.sources.map fun s => { s with picks := s.picks.filter fun p => p.1 != frame } }

/-- A source has the frame a display frame needs (R158, R160).
DEDUCED (unsafe): log 51. -/
def Dev.sourceReady (d : Dev) (n frame : Nat) : Bool :=
  d.bit (F.INGEST_SRC_CFG_EN n) && !(d.source n).noFit &&
  (if isLive n then (d.source n).picks.any fun p => p.1 == frame else true)

/-- The light latency of a source: the mean over the last 64 display frames, in ps (R165). -/
def Dev.lightLatency (d : Dev) (n : Nat) : Int :=
  let l := (d.source n).lat
  if l.isEmpty then 0 else l.foldl (· + ·) 0 / (l.length : Int)

/-! ### What a commit to INGEST changes at its latch (R145, R150, R153, R160) -/

/-- A field of a register before and after a latch. -/
def changed (f : Fld) (old new : Word) : Bool := Word.field old f.lo f.width != Word.field new f.lo f.width

/-- What follows from the values a latch has put into one source's registers. -/
def Dev.sourceLatched (d : Dev) (n frame : Nat) (oldBase oldCfg : Word) : Dev :=
  let cfg := d.reg (R.INGEST_SRC_CFG n)
  let moved := changed (F.INGEST_SRC_BASE_BASE n) oldBase (d.reg (R.INGEST_SRC_BASE n)) ||
    changed (F.INGEST_SRC_CFG_COUNT n) oldCfg cfg || changed (F.INGEST_SRC_CFG_STORE n) oldCfg cfg
  let en := d.bit (F.INGEST_SRC_CFG_EN n)
  let wasEn := Word.field oldCfg (F.INGEST_SRC_CFG_EN n).lo 1 == 1
  if isLive n then
    if moved || (en && !wasEn) then d.freshRing n
    else if !en && wasEn then (d.set (F.INGEST_SRC_STAT_HAS_FRAME n) 0).restartRate n
    else d
  else
    let d := if moved || (en && !wasEn) then d.onSource n fun s => { s with clip := 0, clipFrom := frame, clipEnded := false } else d
    let d := if d.bit (F.INGEST_SRC_CFG_PLAY n) && Word.field oldCfg (F.INGEST_SRC_CFG_PLAY n).lo 1 == 0 then
        d.onSource n fun s => { s with clipFrom := frame, clipEnded := false }
      else d
    d.setBit (F.INGEST_SRC_STAT_HAS_FRAME n) en

/-- A flow with given registers joins or leaves its group on its ports (R153): only a multicast GROUP, 224.0.0.0 to 239.255.255.255,
is joined.
PRESUMED (unsafe): log 131. -/
def Dev.igmpFor (d : Dev) (join : Bool) (dst fmt : Word) : Dev :=
  if Word.field dst 28 4 = 14 then
    d.emit (.igmp join (Word.field dst 0 32) (if Word.bit dst 58 then Word.field fmt 32 32 else 0) (Word.field dst 56 2))
  else d

/-- The group a flow joins on its ports. -/
def Dev.joinFlow (d : Dev) (f : Nat) (join : Bool) : Dev := d.igmpFor join (d.reg (R.INGEST_FLOW_DST f)) (d.reg (R.INGEST_FLOW_FMT f))


/-- A port accepts the video (R149). -/
def vinSupported (m : VinMode) : Bool :=
  !m.other && !m.interlaced && decide (m.sampling ≤ 3) && decide (m.depth ≤ 2) && decide (m.colorimetry ≤ 2) &&
  decide (m.w ≤ 7680) && decide (m.h ≤ 4320) && decide (m.rate ≤ 24000) && decide (m.w * m.h * m.rate ≤ 200000000000)

/-- Port p receives video it does not support. -/
def Dev.vinBad (d : Dev) (p : Nat) : Bool := (nth d.ingest.vinModes p none).any fun m => !vinSupported m

/-- The EDID of port p. -/
def Dev.edid (d : Dev) (p : Nat) : Edid :=
  match d.ingest.edids.find? fun e => e.1 == p with
  | some e => .image e.2
  | none => .builtIn [(1920, 1080, 60), (3840, 2160, 60)]

/-- A locked port loses its lock (R167): frames and audio stop coming, an authentication ends.
DEDUCED (unsafe): log 50. -/
def Dev.lockLost (d : Dev) (p : Nat) : Dev :=
  if !d.bit (F.INGEST_VIN_STAT_LOCK p) then d
  else
    let d := d.setAll [(F.INGEST_VIN_STAT_LOCK p, 0), (F.INGEST_VIN_MODE_VALID p, 0), (F.INGEST_VIN_STAT_AUDIO_PRESENT p, 0)]
    let d := d.onIngest fun i => { i with vinModes := modifyNth i.vinModes p fun _ => none }
    let d := (d.raiseFlag (F.INGEST_VIN_STAT_LOCK_LOST p)).eventSource (R.INGEST_VIN_STAT p) 0x10 p .warning
    if d.bit (F.INGEST_VIN_STAT_HDCP_AUTH p) then
      (d.setAll [(F.INGEST_VIN_STAT_HDCP_AUTH p, 0), (F.INGEST_VIN_STAT_HDCP_TYPE1 p, 0)]).eventSource (R.INGEST_VIN_STAT p) 0x15 p .warning
    else d

/-- Hot-plug goes low for 100 ms; the link goes with it (R150).
DEDUCED (unsafe): log 50. -/
def Dev.hotPlug (d : Dev) (p : Nat) : Dev :=
  (d.lockLost p).onIngest fun i => { i with hpdLow := modifyNth i.hpdLow p fun _ => true }

/-- What follows from a latch of INGEST's registers: the old values of the registers that changed are given.
DEDUCED (unsafe): log 50. -/
def Dev.ingestLatched (d : Dev) (frame : Nat) (olds : List (Nat × Word)) : Dev :=
  let old (a : Nat) : Word := (lookupWord a olds).getD (d.reg a)
  let hit (a : Nat) : Bool := olds.any fun x => x.1 == a
  let d := (List.range 48).foldl (fun d n =>
    if hit (R.INGEST_SRC_BASE n) || hit (R.INGEST_SRC_CFG n) then
      d.sourceLatched n frame (old (R.INGEST_SRC_BASE n)) (old (R.INGEST_SRC_CFG n))
    else d) d
  let d := (List.range d.variant.vins).foldl (fun d p =>
    if hit (R.INGEST_VIN_CFG p) && old (R.INGEST_VIN_CFG p) != d.reg (R.INGEST_VIN_CFG p) then d.hotPlug p else d) d
  let d := (List.range 40).foldl (fun d f =>
    if (hit (R.INGEST_FLOW_DST f) && old (R.INGEST_FLOW_DST f) != d.reg (R.INGEST_FLOW_DST f)) ||
        (hit (R.INGEST_FLOW_FMT f) && old (R.INGEST_FLOW_FMT f) != d.reg (R.INGEST_FLOW_FMT f)) then
      let was := Word.field (old (R.INGEST_FLOW_DST f)) (F.INGEST_FLOW_DST_EN f).lo 1 == 1
      let d := if was then d.igmpFor false (old (R.INGEST_FLOW_DST f)) (old (R.INGEST_FLOW_FMT f)) else d
      let d := (d.onFlow f fun _ => {}).setAll [(F.INGEST_FLOW_STAT_RECEIVING f, 0), (F.INGEST_FLOW_STAT_PAIRED f, 0)]
      let d := if f < 32 then d.restartRate (4 + f) else d
      if d.bit (F.INGEST_FLOW_DST_EN f) then d.joinFlow f true else d
    else d) d
  -- a flow's frames have the size its source states: another size is another received mode (R157)
  let d := (List.range 32).foldl (fun d f =>
    if hit (R.INGEST_SRC_GEOM (4 + f)) && old (R.INGEST_SRC_GEOM (4 + f)) != d.reg (R.INGEST_SRC_GEOM (4 + f)) then d.restartRate (4 + f)
    else d) d
  let d := if hit R.INGEST_ANC_RING && old R.INGEST_ANC_RING != d.reg R.INGEST_ANC_RING then
      d.onIngest fun i => { i with ancAt := 0 } else d
  d.refreshBudget

/-! ### What validation checks (R151, R153, R156, R159, R160) -/

/-- Why a commit fails (R90): status, DETAIL, the words of the reply. -/
structure Fail where
  status : Status
  reason : Nat := 0
  addr : Nat := 0
  lo : Nat := 0
  width : Nat := 0
  figure : Nat := 0
  tile : Nat := 0
  deriving DecidableEq, Repr

/-- A failure that names a field. -/
def failAt (f : Fld) (status : Status) (reason figure : Nat := 0) : Fail :=
  { status := status, reason := reason, addr := f.addr, lo := f.lo, width := f.width, figure := figure }

/-- The first check that fails. -/
def firstFail : List (Option Fail) → Option Fail
  | [] => none
  | some f :: _ => some f
  | none :: rest => firstFail rest

/-- A failure if a condition holds. -/
def failIf (c : Bool) (f : Fail) : Option Fail := if c then some f else none

/-- The ports present that a mask of 100 GbE ports names. -/
def Dev.gbeAbsent (d : Dev) (mask : Nat) : Bool := decide (2 ^ d.variant.gbes ≤ mask)

def Dev.flowFail (d : Dev) (es : List (Nat × Word)) (f : Nat) : Option Fail :=
  let ty := d.get (F.INGEST_FLOW_FMT_TYPE f)
  firstFail [
    failIf (d.gbeAbsent (d.get (F.INGEST_FLOW_DST_PORTS f))) (failAt (F.INGEST_FLOW_DST_PORTS f) .absent),
    failIf (ty == 3) (failAt (F.INGEST_FLOW_FMT_TYPE f) .range),
    -- an entry still at its reset value is not in use; one that is written or enabled has the type of its index
    failIf ((d.bit (F.INGEST_FLOW_DST_EN f) || es.any fun e => e.1 == R.INGEST_FLOW_FMT f) && (decide (f < 32) != (ty == 0))) (failAt (F.INGEST_FLOW_FMT_TYPE f) .invalid)]

/-- A video port shown on a loop without payload encryption while HDCP_EN = 1 is refused (R151); the caller says which
sources layers show on which loops. -/
def Dev.hdcpFail (d : Dev) (shown : Nat → Nat → Bool) : Option Fail :=
  firstFail ((List.range d.variant.vins).map fun p =>
    failIf (d.bit (F.INGEST_VIN_CFG_HDCP_EN p) && (List.range d.loops).any fun k => !d.bit (F.LINK_LOOP_CFG_ENC k) && shown p k)
      (failAt (F.INGEST_VIN_CFG_HDCP_EN p) .invalid 0x0302))

def Dev.vinFail (d : Dev) (p : Nat) : Option Fail :=
  let lm := d.get (F.INGEST_VIN_CFG_LINK_MAX p)
  let dp := d.get (F.INGEST_VIN_CFG_KIND p) == 0
  firstFail [
    failIf (lm != 7 && decide ((if dp then 4 else 6) < lm)) (failAt (F.INGEST_VIN_CFG_LINK_MAX p) .range),
    failIf (dp && d.get (F.INGEST_VIN_CFG_LANES_MAX p) == 3) (failAt (F.INGEST_VIN_CFG_LANES_MAX p) .range)]

def Dev.sourceFail (d : Dev) (n : Nat) : Option Fail :=
  let count := d.get (F.INGEST_SRC_CFG_COUNT n)
  let w := d.get (F.INGEST_SRC_GEOM_WIDTH n)
  let h := d.get (F.INGEST_SRC_GEOM_HEIGHT n)
  let en := d.bit (F.INGEST_SRC_CFG_EN n)
  let wMax := if isLive n then 7680 else 24576
  let hMax := if isLive n then 4320 else 16384
  firstFail [
    failIf (d.get (F.INGEST_SRC_BASE_BASE n) % 4096 != 0) (failAt (F.INGEST_SRC_BASE_BASE n) .range),
    failIf (isLive n && (decide (count < 3) || decide (16 < count))) (failAt (F.INGEST_SRC_CFG_COUNT n) .range),
    failIf (count == 0) (failAt (F.INGEST_SRC_CFG_COUNT n) .range),
    failIf (d.get (F.INGEST_SRC_CFG_HOLD n) == 0) (failAt (F.INGEST_SRC_CFG_HOLD n) .range),
    failIf (decide (3200 < d.get (F.INGEST_SRC_CFG_RES n))) (failAt (F.INGEST_SRC_CFG_RES n) .range),
    failIf (decide (1000000 < d.get (F.INGEST_SRC_CFG_DELAY_US n))) (failAt (F.INGEST_SRC_CFG_DELAY_US n) .range),
    failIf (!isLive n && d.get (F.INGEST_SRC_CFG_RES n) != 0) (failAt (F.INGEST_SRC_CFG_RES n) .range),
    failIf (en && decide (4 ≤ n) && (w == 0 || decide (wMax < w))) (failAt (F.INGEST_SRC_GEOM_WIDTH n) .range),
    failIf (en && decide (4 ≤ n) && (h == 0 || decide (hMax < h))) (failAt (F.INGEST_SRC_GEOM_HEIGHT n) .range),
    failIf (en && decide (n < 4) && decide (d.variant.vins ≤ n)) (failAt (F.INGEST_SRC_CFG_EN n) .absent)]

/-- Areas of DRAM beside those of sources that rings may not overlap. -/
def Dev.otherAreas (d : Dev) : List (Nat × Nat) := [if d.bit F.INGEST_AUD_CFG_EN then d.audioArea else (0, 0), d.ancArea]

/-- A range touches the top 1 MiB of a channel's local space (R126): beyond the usable size, or, where two channels are not
interleaved, at the top of either. -/
def Dev.patternArea (d : Dev) (a len : Nat) : Bool :=
  let mib : Nat := 2 ^ 20
  let ch := d.mc.chBytes
  if d.mc.split then meets (a, len) (ch - mib, mib) || meets (a, len) (2 * ch - mib, mib)
  else decide (d.get F.MEM_INFO_USABLE_MIB * mib < a + len)

def Dev.areaFail (d : Dev) (usable n : Nat) : Option Fail :=
  let a := d.sourceArea n
  firstFail [
    failIf (decide (usable < a.1 + a.2) || d.patternArea a.1 a.2) (failAt (F.INGEST_SRC_BASE_BASE n) .invalid),
    failIf (d.otherAreas.any fun b => meets a b) (failAt (F.INGEST_SRC_BASE_BASE n) .invalid),
    failIf (d.enabledSources.any fun m => m != n && meets a (d.sourceArea m)) (failAt (F.INGEST_SRC_BASE_BASE n) .invalid)]

/-- The sum of RES over enabled live sources. -/
def Dev.resSum (d : Dev) : Nat :=
  ((d.enabledSources.filter isLive).map fun n => d.get (F.INGEST_SRC_CFG_RES n)).foldl (· + ·) 0

/-- What validation checks of INGEST's configuration. -/
def Dev.ingestFail (d : Dev) (es : List (Nat × Word)) (shown : Nat → Nat → Bool) : Option Fail :=
  let usable := d.get F.MEM_INFO_USABLE_MIB * 2 ^ 20
  let sz := d.get F.INGEST_ANC_RING_SIZE_LOG2
  firstFail (
    ((List.range d.variant.vins).map fun p => d.vinFail p) ++
    (if d.variant.gbes = 0 then [] else (List.range 40).map fun f => d.flowFail es f) ++
    [failIf (d.get F.INGEST_ANC_RING_BASE % 4096 != 0) (failAt F.INGEST_ANC_RING_BASE .range),
     failIf (sz != 0 && (decide (sz < 12) || decide (26 < sz))) (failAt F.INGEST_ANC_RING_SIZE_LOG2 .range)] ++
    ((List.range 48).map fun n => d.sourceFail n) ++
    (d.enabledSources.map fun n => d.areaFail usable n) ++
    [d.hdcpFail shown] ++
    ((d.enabledSources.filter isLive).map fun n =>
      failIf (d.get (F.INGEST_SRC_CFG_RES n) == 0) (failAt (F.INGEST_SRC_CFG_RES n) .budget 0x0301 d.resSum)) ++
    [failIf (decide (d.variant.ingestLimit < d.resSum)) { status := .budget, reason := 0x0301, figure := d.resSum }])

/-! ### Protection of DRAM (R151, R161) -/

/-- Frames of an enabled memory source in a configuration. -/
def Dev.stillAreas (d : Dev) : List (Nat × Nat) := (d.enabledSources.filter fun n => !isLive n).map fun n => d.sourceArea n

/-- DRAM that commands may not write: frames of enabled memory sources, and of those in a pending commit. -/
def Dev.displayedFrames (d : Dev) (a len : Nat) : Bool :=
  ((d :: d.commits.map fun c => { d with regs := c.entries.foldl (fun m e => putWord e.1 e.2 m) d.regs }).flatMap
    fun c => c.stillAreas).any fun x => meets (a, len) x

/-- DRAM that commands may not read: the frame ring of a port with HDCP_EN = 1, and the audio rings it feeds. -/
def Dev.secretRing (d : Dev) (a len : Nat) : Bool :=
  (List.range d.variant.vins).any fun p =>
    d.bit (F.INGEST_VIN_CFG_HDCP_EN p) &&
    (meets (a, len) (d.sourceArea p) ||
     (List.range 8).any fun k => d.get (F.INGEST_ACH_CFG_KIND k) == 0 && d.get (F.INGEST_ACH_CFG_INDEX k) == p &&
       meets (a, len) (d.audioRing k))

/-! ### Audio ports (R162 to R166) -/

/-- Sample rates by the RATE code, in Hz. -/
def audioRate (code : Nat) : Nat := nth [32000, 44100, 48000, 88200, 96000, 176400, 192000] code 48000

/-- Bits of a slot by the SLOT code. -/
def slotBits (code : Nat) : Nat := 16 + 8 * code

/-- AMCLK / BCLK is an integer: 4.8 GHz x DEN over (INT x DEN + NUM) x 2 x slot x rate. -/
def bclkOk (amclk cfg : Word) : Bool :=
  let int := Word.field amclk 0 9
  let num := Word.field amclk 16 16
  let den := Word.field amclk 32 16
  let b := (int * den + num) * (2 * slotBits (Word.field cfg 2 2) * audioRate (Word.field cfg 4 3))
  decide (0 < b) && 4800000000 * den % b == 0

/-- The rules of INGEST_AOUTc_CFG and INGEST_AIN_CFG. -/
def Dev.audioPortRule (d : Dev) (a : Nat) (new : Word) : Option (Status × Nat) :=
  let old := d.reg a
  let ownClocks := !(a == R.INGEST_AIN_CFG && Word.bit new 8)
  if Word.bit old 0 && (Word.field old 1 6 != Word.field new 1 6) then some (.state, 0)
  else if ownClocks && (!bclkOk (d.reg R.KEEP_AMCLK_CFG) new || (Word.bit new 0 && !d.bit F.KEEP_AMCLK_CFG_EN)) then some (.invalid, 0)
  else none

/-- The rules of INGEST_ACHk_CFG. -/
def Dev.audioChRule (d : Dev) (new : Word) : Option (Status × Nat) :=
  let kind := Word.field new 0 2
  let idx := Word.field new 2 6
  let ch := Word.field new 8 4
  let src := Word.field new 12 6
  if (kind == 0 && decide (3 < idx)) || (kind == 1 && (decide (idx < 32) || decide (39 < idx))) || (kind == 2 && idx != 0) then
    some (.range, 0)
  else if kind == 2 && decide (1 < ch) then some (.range, 0)
  else if decide (48 ≤ src) && src != 63 then some (.range, 0)
  else if kind == 0 && decide (d.variant.vins ≤ idx) then some (.absent, 0)
  else if decide (src < 4) && decide (d.variant.vins ≤ src) then some (.absent, 0)
  else none

/-- Why a write of an audio register is refused (R162 to R166). -/
def Dev.audioRule (d : Dev) (a : Nat) (new : Word) : Option (Status × Nat) :=
  let old := d.reg a
  if a = R.INGEST_AUD_CFG then
    -- while EN = 1 only EN, TRIM_US and MASTER_CH may change
    if Word.bit old 0 && (Word.bit old 2 != Word.bit new 2 || Word.field old 6 5 != Word.field new 6 5 ||
        Word.field old 12 33 != Word.field new 12 33) then some (.state, 0)
    else none
  else if (R.INGEST_AOUT_CFG 0 ≤ a && a < R.INGEST_AOUT_CFG 4) || a = R.INGEST_AIN_CFG then d.audioPortRule a new
  else if R.INGEST_ACH_CFG 0 ≤ a && a < R.INGEST_ACH_CFG 8 then d.audioChRule new
  else none

/-- An output port's clocks start with zeros, or its data begin to fade before they stop (R164). A port enabled while its data fade
out starts when the fade is over. -/
def Dev.startPort (d : Dev) (c : Nat) : Dev :=
  if d.ingest.asleep then d
  else match d.stage c with
    | .fading _ => d
    | .run => d
    | _ => d.setStage c (.starting 0)
def Dev.stopPort (d : Dev) (c : Nat) : Dev :=
  match d.stage c with
  | .off => d
  | .zeros n => d.setStage c (.zeros n)
  | .starting _ => d.setStage c (.zeros 0)
  | _ => d.setStage c (.fading 0)

/-- SILENT follows the channels: 1 while a channel puts out zeros; a port whose clocks have stopped puts out none. -/
def Dev.refreshSilent (d : Dev) : Dev :=
  d.set F.INGEST_AUD_STAT_SILENT ((List.range 8).foldl (fun m k =>
    let runs := match d.stage (k / 2) with
      | .run | .fading _ => true
      | _ => false
    if d.stage (k / 2) == .off || (runs && decide (0 < (d.channel k).level)) then m else m + 2 ^ k) 0)

/-- What follows a write of an audio register. -/
def Dev.audioWritten (d : Dev) (a : Nat) (old : Word) : Dev :=
  let d :=
    if R.INGEST_AOUT_CFG 0 ≤ a && a < R.INGEST_AOUT_CFG 4 then
      let c := (a - R.INGEST_AOUT_CFG 0) / 8
      if Word.bit old 0 == d.bit (F.INGEST_AOUT_CFG_EN c) then d
      else if d.bit (F.INGEST_AOUT_CFG_EN c) then d.startPort c else d.stopPort c
    else if R.INGEST_ACH_CFG 0 ≤ a && a < R.INGEST_ACH_CFG 8 then
      let k := (a - R.INGEST_ACH_CFG 0) / 8
      if Word.field old 0 12 = Word.field (d.reg a) 0 12 then d
      else d.onChannel k fun c => { c with ring := [], running := false, mismatch := false }
    else if a = R.INGEST_AUD_CFG then
      let d := if Word.bit old 0 && !d.bit F.INGEST_AUD_CFG_EN then
          d.onIngest fun i => { i with channels := i.channels.map fun c => { c with ring := [], wr := 0, running := false } }
        else d
      if !Word.bit old 2 && d.bit F.INGEST_AUD_CFG_TRACK then
        d.onIngest fun i => { i with trim := 0, trimBase := some (d.reg R.KEEP_AMCLK_CFG) }
      else d
    else d
  d.refreshSilent

/-- A bit of INGEST_AUD_STAT [12:8] is set; EV_PICTURE AUDIO when it newly sets (R167). -/
def Dev.audioFlag (d : Dev) (f : Fld) (k : Nat) : Dev :=
  if d.bit f then d else (d.raiseFlag f).eventSource R.INGEST_AUD_STAT 0x18 k .warning

/-! ### Power states and resets (R168) -/

/-- INGEST stops for SLEEP or DEEP. -/
def Dev.ingestSleep (d : Dev) : Dev :=
  if !d.isSender || !d.variant.full then d
  else
    let d := [0, 1, 2, 3].foldl (fun d c => d.stopPort c) d
    let d := (List.range d.variant.vins).foldl (fun d p => d.hotPlug p) d
    let d := (List.range 40).foldl (fun d f =>
      if d.bit (F.INGEST_FLOW_DST_EN f) then (d.joinFlow f false).set (F.INGEST_FLOW_STAT_RECEIVING f) 0 else d) d
    (d.onIngest fun i => { i with asleep := true }).refreshSilent

/-- The return to RUN reverses it; live sources have no frame until their first new one. -/
def Dev.ingestWake (d : Dev) : Dev :=
  if !d.isSender || !d.variant.full || !d.ingest.asleep then d
  else
    let d := d.onIngest fun i => { i with asleep := false, hpdLow := i.hpdLow.map fun _ => false }
    let d := [0, 1, 2, 3].foldl (fun d c => if d.bit (F.INGEST_AOUT_CFG_EN c) then d.startPort c else d) d
    let d := (List.range 40).foldl (fun d f => if d.bit (F.INGEST_FLOW_DST_EN f) then d.joinFlow f true else d) d
    ((List.range 36).foldl (fun d n => if d.bit (F.INGEST_SRC_CFG_EN n) then d.freshRing n else d) d).refreshSilent

/-- After an INGEST region reset has begun: the newest complete frames stay selectable, audio fades, the ports retrain. -/
def Dev.ingestReset (d : Dev) : Dev :=
  let d := (List.range 48).foldl (fun d n =>
    if !d.bit (F.INGEST_SRC_CFG_EN n) then d
    else if !isLive n then d.set (F.INGEST_SRC_STAT_HAS_FRAME n) 1
    else match (d.source n).frames with
      | f :: _ => d.setAll [(F.INGEST_SRC_STAT_HAS_FRAME n, 1), (F.INGEST_SRC_STAT_PROTECTED n, f.guarded.toNat),
          (F.INGEST_SRC_STAT_TF n, f.tf)]
      | [] => d) d
  (d.set F.INGEST_BUDGET_LIMIT d.variant.ingestLimit).refreshBudget.refreshSilent

/-- After a device reset. -/
def Dev.ingestBoot (d : Dev) : Dev :=
  if d.variant.full then (d.set F.INGEST_BUDGET_LIMIT d.variant.ingestLimit).refreshSilent else d

end Sys2Proof.Machine
end

