-- ==== Sys2Proof/Machine/Pixel.lean ====
section
/-!
DEFINITION. A lamp of a layer on its way from the source to the loop code: unpacking, kernel stages, transfer curves,
scaling, blending, quantisation (R172 to R184, R205, R213 to R216, R265).
-/
namespace Sys2Proof.Machine

open Sys2Proof

/-- Full scale of the 1.15 format. -/
abbrev full15 : Nat := 0x8000

/-- Four channels: R, G, B and A or W. -/
abbrev Px := Nat × Nat × Nat × Nat

def Px.chan (p : Px) (c : Nat) : Nat := if c = 0 then p.1 else if c = 1 then p.2.1 else if c = 2 then p.2.2.1 else p.2.2.2

/-! ### Unpack (R146, R172) -/

/-- A word of a P32 store in 1.15. -/
def unpackP32 (w : Nat) : Px :=
  let c (lo : Nat) : Nat := roundDiv (bitsOf w lo 10 * 32768) 1023
  (c 0, c 10, c 20, nth [0, 0x2AAB, 0x5555, 0x8000] (bitsOf w 30 2) 0)

/-- A word of a P64 store in 1.15: values above 0x8000 are clamped. -/
def unpackP64 (w : Nat) : Px :=
  let c (lo : Nat) : Nat := satTo full15 (bitsOf w lo 16)
  (c 0, c 16, c 32, c 48)

/-- The pixel (x, y) of a stored frame. -/
def readPixel (m : List Host.Cell) (base store w x y : Nat) : Px :=
  let a := base + y * strideOf store w + x * pixelBytes store
  let v := (Word.ofBytes (memBytes m a (pixelBytes store))).toNat
  if store = 0 then unpackP32 v else unpackP64 v

/-! ### Transfer curves (R180, R181, R184, R265) -/

/-- Whether r^n does not exceed m. -/
def rootBelow (n m r : Nat) : Bool := decide (r ^ n ≤ m)

/-- The integer n-th root of m, by its bits from a bound down. -/
def rootFrom : Nat → Nat → Nat → Nat → Nat
  | 0, _, _, r => r
  | b + 1, n, m, r => rootFrom b n m (if rootBelow n m (r + 2 ^ b) then r + 2 ^ b else r)

/-- A value of a built-in curve: the exact value rounded down, off by the slack the spec allows (2 LSB of the exact value),
within 0 to 0x8000.
DESIGN CHOICE (safe): log 54. -/
def slack (curve point floor_ : Nat) (exact : Bool) : Nat :=
  let k := Config.curveSlack curve point
  satTo full15 (if exact then floor_ + k % 5 - 2 else floor_ + k % 4 - 1)

/-- BT.1886 with zero black: 32,768 (v / 32,768)^2.4.
DESIGN CHOICE (safe): log 54. -/
def sdrCurve (v : Nat) : Nat :=
  let r := rootFrom 16 5 (v ^ 12 / 32768 ^ 7) 0
  slack 0 v r (r ^ 5 * 32768 ^ 7 == v ^ 12)

/-- The loop's transfer: 32,768 (v / 32,768)^(1/2.4).
DESIGN CHOICE (safe): log 54. -/
def loopCurve (v : Nat) : Nat :=
  let r := rootFrom 16 12 (v ^ 5 * 32768 ^ 7) 0
  slack 1 v r (r ^ 12 == v ^ 5 * 32768 ^ 7)

/-- One in the fixed-point form of the curves below. -/
abbrev one64 : Nat := 2 ^ 64

/-- ST 2084 (R180): 32,768 · 10,000 / ref · (max (E − c1, 0) / (c2 − c3 E))^(1/m1) with E = V^(1/m2), clipped; its constants are the
standard's.
DESIGN CHOICE (safe): log 54.
PRESUMED (unsafe): log 132. -/
def pqCurve (ref v : Nat) : Nat :=
  let e := rootFrom 65 2523 (v ^ 32 * one64 ^ 2523 / 32768 ^ 32) 0
  let n := 4096 * e - 3424 * one64
  let d := 32 * (2413 * one64 - 2392 * e)
  slack 2 (ref * 65536 + v) (rootFrom 17 1305 (327680000 ^ 1305 * n ^ 8192 / (d ^ 8192 * ref ^ 1305)) 0) (v == 0)

/-- e^x of x in 2^-64, by its series. -/
def expFrom : Nat → Nat → Int → Int → Int
  | 0, _, _, _ => 0
  | fuel + 1, k, x, term => term + expFrom fuel (k + 1) x (term * x / ((one64 * (k + 1) : Nat) : Int))

/-- The inverse OETF of BT.2100 HLG (R180) in 2^-64; its constants are the standard's.
PRESUMED (unsafe): log 132. -/
def hlgScene (v : Nat) : Nat :=
  if v ≤ 16384 then v * v * one64 / (3 * 32768 ^ 2)
  else
    let x : Int := ((v * 100000000 : Nat) - (55991073 * 32768 : Nat) : Int) * (one64 : Int) / ((17883277 * 32768 : Nat) : Int)
    ((expFrom 60 0 x one64 + ((28466892 * one64 / 100000000 : Nat) : Int)) / 12).toNat

/-- HLG with the OOTF of system gamma `gamma` / 100 and a gain of 1 (R180).
DESIGN CHOICE (safe): log 54.
PRESUMED (unsafe): log 132. -/
def hlgCurve (gamma : Nat) (p : Px) (c : Nat) : Nat :=
  let e (k : Nat) : Nat := hlgScene (Px.chan p k)
  let y := (2627 * e 0 + 6780 * e 1 + 593 * e 2) / 10000
  let g := gamma - 100
  let f := if g = 0 then one64 else rootFrom 65 100 (y ^ g * one64 ^ (100 - g)) 0
  slack 3 (((gamma * 65536 + p.1) * 65536 + p.2.1) * 65536 + p.2.2.1 + c * 2 ^ 64) (32768 * e c * f / one64 ^ 2) (e c == 0)

/-- A programmable LUT's output for one channel. -/
def lutCurve (entry : Nat → Nat) (x : Nat) : Nat :=
  let i := x * 1023 / 32768
  if 1023 ≤ i then entry 1023
  else
    -- E[i] + f (E[i + 1] - E[i]) in units of 1 / 32,768, rounded half up
    let f : Int := ((x * 1023 - i * 32768 : Nat) : Int)
    let a : Int := (entry i : Int)
    let b : Int := (entry (i + 1) : Int)
    ((2 * (a * 32768 + f * (b - a)) + 32768) / 65536).toNat

/-- Entry i of programmable LUT t, by channel, in a configuration. -/
def Dev.lutEntry (d : Dev) (t chan i : Nat) : Nat := Word.field (d.reg (R.COMPOSE_LUT_E (1024 * t + i))) (16 * chan) 16

/-- The pre-blend LUT of a layer, its code resolved from the frame's transfer function (R180). -/
def preLut (code tf : Nat) : Nat := if code = 0 then (if tf = 0 then 2 else if tf = 1 then 3 else if tf = 2 then 4 else 1) else code

/-- Pre-blend LUT on R, G and B; A passes. -/
def Dev.applyPre (d : Dev) (code tf : Nat) (p : Px) : Px :=
  match preLut code tf with
  | 1 => p
  | 2 => (sdrCurve p.1, sdrCurve p.2.1, sdrCurve p.2.2.1, p.2.2.2)
  | 3 =>
    let f (v : Nat) : Nat := pqCurve (d.get F.COMPOSE_HDR_PQ_REF) v
    (f p.1, f p.2.1, f p.2.2.1, p.2.2.2)
  | 4 =>
    let f (c : Nat) : Nat := hlgCurve (d.get F.COMPOSE_HDR_HLG_GAMMA) p c
    (f 0, f 1, f 2, p.2.2.2)
  | n =>
    let f (c v : Nat) : Nat := lutCurve (d.lutEntry (n - 5) c) v
    (f 0 p.1, f 1 p.2.1, f 2 p.2.2.1, p.2.2.2)

/-- Post-blend LUT of a pipe. -/
def Dev.applyPost (d : Dev) (code : Nat) (p : Px) : Px :=
  match code with
  | 0 => (loopCurve p.1, loopCurve p.2.1, loopCurve p.2.2.1, loopCurve p.2.2.2)
  | 1 => p
  | n =>
    let f (c v : Nat) : Nat := lutCurve (d.lutEntry (n - 5) c) v
    (f 0 p.1, f 1 p.2.1, f 2 p.2.2.1, f 3 p.2.2.2)

/-! ### Geometry (R171, R173, R528) -/

/-- A rectangle: x, y, width, height. -/
abbrev Rect := Nat × Nat × Nat × Nat

def Rect.inside (r : Rect) (x y : Nat) : Bool :=
  decide (r.1 ≤ x) && decide (x < r.1 + r.2.2.1) && decide (r.2.1 ≤ y) && decide (y < r.2.1 + r.2.2.2)

/-- The part two rectangles share. -/
def Rect.meet (a b : Rect) : Rect :=
  let x := max a.1 b.1
  let y := max a.2.1 b.2.1
  (x, y, min (a.1 + a.2.2.1) (b.1 + b.2.2.1) - x, min (a.2.1 + a.2.2.2) (b.2.1 + b.2.2.2) - y)

def Rect.area (r : Rect) : Nat := r.2.2.1 * r.2.2.2

def LayoutTile.rect (t : LayoutTile) : Rect := (t.x, t.y, t.w, t.h)

def Dev.layerDst (d : Dev) (l : Nat) : Rect :=
  (d.get (F.LAYER_DST_X l), d.get (F.LAYER_DST_Y l), d.get (F.LAYER_DST_W l), d.get (F.LAYER_DST_H l))

/-- A layer's crop of a frame of a given size: x, y, width, height; clipped to the frame. -/
def Dev.layerCrop (d : Dev) (l w h : Nat) : Rect :=
  let x := d.get (F.LAYER_CROP_X l)
  let y := d.get (F.LAYER_CROP_Y l)
  let cw := d.get (F.LAYER_CROP_W l)
  let ch := d.get (F.LAYER_CROP_H l)
  (x, y, if cw = 0 then w - x else min cw (w - x), if ch = 0 then h - y else min ch (h - y))

/-! ### Resampling -/

/-- A result on the 1.15 format, clamped to 0 to 0x8000 (R172, R205). -/
def round15Free (what : Nat) (q : Rat) : Nat := satTo full15 (roundFree what q).toNat

/-- Weight of a tap at a distance: cubic convolution with a = -0.5, and linear (R174, R213). -/
def cubicWeight (t : Rat) : Rat :=
  let t := if t < 0 then -t else t
  if t ≤ 1 then 3 / 2 * t ^ 3 - 5 / 2 * t ^ 2 + 1 else if t < 2 then -1 / 2 * t ^ 3 + 5 / 2 * t ^ 2 - 4 * t + 2 else 0
/-- Here: linear. -/
def linearWeight (t : Rat) : Rat :=
  let t := if t < 0 then -t else t
  if t < 1 then 1 - t else 0

/-- A weighted sum over rows and columns of taps, each with its weight. -/
def tapSum (cols rows : List (Nat × Rat)) (pixel : Nat → Nat → Nat) : Rat :=
  (rows.map fun r => (cols.map fun c => c.2 * r.2 * (pixel c.1 r.1 : Rat)).foldl (· + ·) 0).foldl (· + ·) 0

/-! ### Kernel stages (R209, R213 to R216) -/

/-- A displacement of WARP_MESH at a crop pixel before its clamp, in source pixels (R213): the four mesh points around it,
bilinearly; `lo` is 0 for DX, 16 for DY.
DESIGN CHOICE (safe): log 55. -/
def warpAt (block : List Word) (cw ch x y lo : Nat) : Rat :=
  let gx := Word.field (nth block 1 0) 0 8
  let gy := Word.field (nth block 1 0) 8 8
  -- the position on the mesh along one axis, in steps of it
  let place (n len v : Nat) : Rat :=
    if Config.meshCentres then (if len ≤ 1 then 0 else (v * (n - 1) : Nat) / ((len - 1 : Nat) : Rat))
    else ((2 * v + 1) * (n - 1) : Nat) / ((2 * len : Nat) : Rat)
  let px := place gx cw x
  let py := place gy ch y
  let i := min (gx - 2) px.floor.toNat
  let j := min (gy - 2) py.floor.toNat
  let f := px - i
  let g := py - j
  let at_ (i j : Nat) : Rat := (signed 16 (Word.field (nth block (2 + j * gx + i) 0) lo 16) : Rat) / 256
  (1 - g) * ((1 - f) * at_ i j + f * at_ (i + 1) j) + g * ((1 - f) * at_ i (j + 1) + f * at_ (i + 1) (j + 1))

/-- A displacement beyond the block's MARGIN (R213). -/
def warpClips (block : List Word) (cw ch x y : Nat) : Bool :=
  let m : Rat := (Word.field (nth block 0 0) 24 4 : Nat)
  [0, 16].any fun lo => decide (m < warpAt block cw ch x y lo) || decide (warpAt block cw ch x y lo < -m)

/-- WARP_MESH (R213): a channel at the displaced position, bicubic or bilinear, positions outside the crop at its nearest edge pixel.
DESIGN CHOICE (safe): log 55. -/
def warpMesh (block : List Word) (cw ch : Nat) (pixel : Nat → Nat → Nat → Nat) (x y c : Nat) : Nat :=
  let m : Rat := (Word.field (nth block 0 0) 24 4 : Nat)
  let pos (v lo len : Nat) : Rat := max 0 (min ((len - 1 : Nat) : Rat) (v + max (-m) (min m (warpAt block cw ch x y lo))))
  let taps (p : Rat) (len : Nat) : List (Nat × Rat) :=
    (if Word.field (nth block 1 0) 16 2 = 0 then [(-1 : Int), 0, 1, 2].map fun k => (p.floor + k, cubicWeight (p - (p.floor + k)))
      else [(0 : Int), 1].map fun k => (p.floor + k, linearWeight (p - (p.floor + k)))).map fun t => (min (len - 1) t.1.toNat, t.2)
  round15Free 0 (tapSum (taps (pos x 0 cw) cw) (taps (pos y 16 ch) ch) fun a b => pixel a b c)

/-- One channel of the 9 x 9 x 9 lookup of COLOUR_XFORM, tetrahedral (R214): from the corner below the colour the path goes along the
axes in the order of their fractions, the largest first. -/
def colourLookup (block : List Word) (v : Nat → Rat) (c : Nat) : Rat :=
  let i (k : Nat) : Nat := min 7 (v k * 8 / 32768).floor.toNat
  let f (k : Nat) : Rat := v k * 8 / 32768 - i k
  let order := sortBy3 f
  let entry (on : List Nat) : Rat :=
    let at_ (k : Nat) : Nat := i k + (on.contains k).toNat
    (Word.field (nth block (5 + at_ 0 * 81 + at_ 1 * 9 + at_ 2) 0) (16 * c) 16 : Nat)
  let a := nth order 0 0
  let b := nth order 1 0
  let z := nth order 2 0
  entry [] + f a * (entry [a] - entry []) + f b * (entry [a, b] - entry [a]) + f z * (entry [a, b, z] - entry [a, b])
where
  /-- The channels by falling fraction. -/
  sortBy3 (f : Nat → Rat) : List Nat :=
    let le (a b : Nat) : Bool := decide (f b ≤ f a)
    if le 0 1 then (if le 1 2 then [0, 1, 2] else if le 0 2 then [0, 2, 1] else [2, 0, 1])
    else (if le 0 2 then [1, 0, 2] else if le 1 2 then [1, 2, 0] else [2, 1, 0])

/-- COLOUR_XFORM (R214): the matrix, clamped, and the lookup; A passes.
DESIGN CHOICE (safe): log 55. -/
def colourXform (block : List Word) (pixel : Nat → Nat) (c : Nat) : Nat :=
  if c = 3 then pixel 3
  else
    let row (c : Nat) : Rat :=
      let k (i : Nat) : Rat := (signed 16 (Word.field (nth block (2 + c) 0) (16 * i) 16) : Rat) / 4096
      max 0 (min 32768 (k 0 * pixel 0 + k 1 * pixel 1 + k 2 * pixel 2 + k 3 * 32768))
    round15Free 1 (if Word.bit (nth block 1 0) 0 then colourLookup block row c else row c)

/-- A channel of SLOT_VIEW's output (R216); GAIN is not rounded by the spec.
DESIGN CHOICE (safe): log 55. -/
def slotView (word : Word) (v : Nat) (c : Nat) : Nat :=
  if c = 3 then v
  else match Word.field word 0 4 with
    | 0 => v
    | 1 => 0
    | 2 => full15 - v
    | 4 => satTo full15 (Word.field word (16 + 16 * c) 16)
    | _ => round15Free 2 ((v * Word.field word 16 16 : Nat) / (32768 : Rat))

/-- A kernel stage maps the crop grid onto itself.
DESIGN CHOICE (safe): log 55. -/
def kernelStage (block : List Word) (slot cw ch : Nat) (pixel before : Nat → Nat → Nat → Nat) (weight : Nat × Nat) (x y c : Nat) : Nat :=
  let id := Word.field (nth block 0 0) 0 16
  if id = 0x0104 then slotView (nth block (1 + slot) 0) (pixel x y c) c
  else if id = 0x0103 then
    let n := weight.1
    let den := weight.2
    if Word.bit (nth block 1 0) 0 then (if 2 * n < den then before x y c else pixel x y c)
    else roundDiv ((den - n) * before x y c + n * pixel x y c) den
  else if id = 0x0102 then colourXform block (pixel x y) c
  else warpMesh block cw ch pixel x y c

/-! ### Scalers (R174) -/

/-- The weight of tap `i` of `taps` at a phase of 64 (R174): tap i lies i + 1 - taps / 2 pixels after the one before the sample. Linear
and cubic filters have the weights of their curves, and zero beyond them.
DESIGN CHOICE (safe): log 53. -/
def scaleWeight (filter taps phase i : Nat) : Rat :=
  let t : Rat := (phase : Rat) / 64 - (((i : Int) + 1 - (taps / 2 : Nat) : Int) : Rat)
  match filter with
  | 2 => linearWeight t
  | 1 => if 4 ≤ taps then cubicWeight t else Config.scaleCoef 1 taps phase i
  | f => Config.scaleCoef f taps phase i

/-- The taps of one axis: the columns (or rows) read with their weights.
DESIGN CHOICE (safe): log 53. -/
def scaleTaps (filter taps crop dst u : Nat) : List (Nat × Rat) :=
  let p := Config.scalePlace crop dst u
  (List.range taps).map fun (i : Nat) =>
    let at_ : Int := p / 64 + 1 + (i : Int) - (taps / 2 : Nat)
    (if 0 ≤ at_ ∧ at_ < crop then at_.toNat else Config.scaleEdge crop at_ % crop, scaleWeight filter taps (p % 64).toNat i)

/-- A scaler's output: 8 horizontal taps, the taps in use vertically (R174), clamped (R172).
DESIGN CHOICE (safe): log 53. -/
def scaled (filter taps cw ch dw dh : Nat) (pixel : Nat → Nat → Nat) (u v : Nat) : Nat :=
  round15Free 3 (tapSum (scaleTaps filter 8 cw dw u) (scaleTaps filter taps ch dh v) pixel)

/-! ### Blending (R182, R183) -/

/-- Rounds half up and clamps to 1.15. -/
def round15 (num den : Nat) : Nat := satTo full15 (roundDiv num den)

/-- One channel of a layer over what lies below: the colour, the source alpha, the global alpha. -/
def blend (amode c a g b : Nat) : Nat :=
  match amode with
  | 0 => round15 (c * g + b * (full15 - g)) full15
  | 1 => round15 (c * (a * g) + b * (full15 * full15 - a * g)) (full15 * full15)
  | _ => round15 (c * g * full15 + b * (full15 * full15 - a * g)) (full15 * full15)

/-- A layer over the result below it; layers carry no W. -/
def blendPx (amode g : Nat) (p b : Px) : Px :=
  let a := p.2.2.2
  (blend amode p.1 a g b.1, blend amode p.2.1 a g b.2.1, blend amode p.2.2.1 a g b.2.2.1, blend amode 0 a g b.2.2.2)

/-- A layer's colour at a canvas position inside its destination.
DESIGN CHOICE (safe): log 53. -/
def Dev.layerPixel (d : Dev) (m : List Host.Cell) (blocks : List (Nat × List Word)) (l taps slot : Nat) (s : Shown) (cx cy : Nat) : Px :=
  let dst := d.layerDst l
  let crop : Rect := if s.slate then (0, 0, s.w, s.h) else d.layerCrop l s.w s.h
  let cw := crop.2.2.1
  let ch := crop.2.2.2
  let fetchFrom (base w : Nat) (x y : Nat) : Px :=
    let x' := if d.bit (F.LAYER_SRC_FLIP_H l) then cw - 1 - x else x
    let y' := if d.bit (F.LAYER_SRC_FLIP_V l) then ch - 1 - y else y
    readPixel m base s.store w (crop.1 + x') (crop.2.1 + y')
  let raw (x y : Nat) : Px := fetchFrom s.base s.w x y
  let j := d.get (F.LAYER_MIX_KSTAGE l)
  let staged (x y : Nat) : Px :=
    match (if j = 0 then none else (blocks.find? fun b => b.1 == j).map (·.2)) with
    | none => raw x y
    | some b =>
      let now (x y c : Nat) : Nat := Px.chan (raw x y) c
      let old (x y c : Nat) : Nat := match s.before with
        | some f => Px.chan (fetchFrom f.1 f.2.1 x y) c
        | none => now x y c
      let k (c : Nat) : Nat := kernelStage b slot cw ch now old s.weight x y c
      (k 0, k 1, k 2, k 3)
  let pre (x y : Nat) : Px := d.applyPre (d.get (F.LAYER_MIX_PRE_LUT l)) s.tf (staged x y)
  let u := cx - dst.1
  let v := cy - dst.2.1
  if cw = dst.2.2.1 && ch = dst.2.2.2 then pre u v
  else
    let f (c : Nat) : Nat :=
      if d.get (F.LAYER_MIX_FILTER l) = 3 then
        Px.chan (pre (min (cw - 1) (Config.nearest cw dst.2.2.1 u)) (min (ch - 1) (Config.nearest ch dst.2.2.2 v))) c
      else
        scaled (d.get (F.LAYER_MIX_FILTER l)) taps cw ch dst.2.2.1 dst.2.2.2 (fun x y => Px.chan (pre x y) c) u v
    (f 0, f 1, f 2, f 3)

/-- Layers of a slot from the lowest up (R183, R240). -/
def Dev.blendOrder (d : Dev) (slot : Nat) : List Nat :=
  let ls := (List.range 32).filter fun l => d.bit (F.LAYER_SRC_EN l) && (d.get (F.COMPOSE_SLOT_CFG_LAYERS slot)).testBit l
  if d.bit F.COMPOSE_CFG_ORDER then
    (List.range 256).flatMap fun z => ls.filter fun l => d.get (F.LAYER_SRC_Z l) == z
  else ls

/-- Taps a layer has on a loop; none where it is not bound. -/
def tapsOn (binds : List Binding) (l k : Nat) : Option Nat := (binds.find? fun b => b.layer == l && b.loop == k).map (·.taps)

/-- What a layer shows is scaled: the crop of the frame shown, or a slate whole, differs from the destination (R173, R194). -/
def Dev.shownScaled (d : Dev) (l : Nat) (s : Shown) : Bool :=
  let crop : Rect := if s.slate then (0, 0, s.w, s.h) else d.layerCrop l s.w s.h
  crop.2.2.1 != (d.layerDst l).2.2.1 || crop.2.2.2 != (d.layerDst l).2.2.2

/-- The layers that reach a lamp, from the lowest up: those shown, with the lamp in their destination, and with taps on the loop where
they are scaled. -/
def Dev.lampLayers (d : Dev) (set : ComposeSet) (k slot cx cy : Nat) : List (Nat × Shown) :=
  (d.blendOrder slot).filterMap fun l =>
    match nth set.layers l none with
    | some s => if Rect.inside (d.layerDst l) cx cy && (!d.shownScaled l s || decide (0 < (tapsOn set.binds l k).getD 0)) then some (l, s) else none
    | none => none

/-- The blended colour of a lamp. -/
def Dev.lampColour (d : Dev) (m : List Host.Cell) (set : ComposeSet) (k slot cx cy : Nat) : Px :=
  (d.lampLayers set k slot cx cy).foldl (fun b x =>
    blendPx (d.get (F.LAYER_MIX_AMODE x.1)) (d.get (F.LAYER_MIX_GALPHA x.1))
      (d.layerPixel m set.blocks x.1 ((tapsOn set.binds x.1 k).getD 0) slot x.2 cx cy) b)
    (d.get F.COMPOSE_BG_BG_R, d.get F.COMPOSE_BG_BG_G, d.get F.COMPOSE_BG_BG_B, d.get F.COMPOSE_BG_BG_W)

/-! ### Loop codes (R184, R265) -/

/-- Bits of a channel, channels and bits of a lamp in a loop code. -/
def codeWidth (code : Nat) : Nat := if code = 1 then 16 else if code = 3 then 8 else 12
def codeChannels (code : Nat) : Nat := if code = 2 then 4 else 3
def codeBits (code : Nat) : Nat := codeWidth code * codeChannels code

/-- A channel quantised to its code. -/
def quantise (width v : Nat) : Nat := roundDiv (v * (2 ^ width - 1)) 32768

/-- The codes of a lamp: W is 0 where the loop carries three channels. -/
def lampCodes (code : Nat) (p : Px) : Px :=
  let w := codeWidth code
  (quantise w p.1, quantise w p.2.1, quantise w p.2.2.1, if codeChannels code = 4 then quantise w p.2.2.2 else 0)

/-- A lamp's codes packed from the lowest bit. -/
def packCodes (code : Nat) (c : Px) : Nat :=
  let w := codeWidth code
  c.1 + c.2.1 * 2 ^ w + c.2.2.1 * 2 ^ (2 * w) + (if codeChannels code = 4 then c.2.2.2 * 2 ^ (3 * w) else 0)

/-- A lamp's codes from its bits. -/
def unpackCodes (code bits : Nat) : Px :=
  let w := codeWidth code
  (bitsOf bits 0 w, bitsOf bits w w, bitsOf bits (2 * w) w, if codeChannels code = 4 then bitsOf bits (3 * w) w else 0)

/-- The eight bytes a lamp gives a supervised rectangle's check (R197). -/
def codeFeed (c : Px) : List Byte :=
  Word.bytes (Word.pack [(0, 16, c.1), (16, 16, c.2.1), (32, 16, c.2.2.1), (48, 16, c.2.2.2)])

/-- The initial value of a rectangle's check (R197). -/
def rectInit (x y : Nat) : Nat := 0xFFFFFFFF ^^^ (x * 0x10000 + y)

/-- CRC-32C of R53 continued over bytes, and its result. -/
def rectFeed (acc : Nat) (bs : List Byte) : Nat := crcBytes 32 0x1EDC6F41 true acc bs
def rectResult (acc : Nat) : Nat := crcResult 32 true true acc

/-- V: the check over the lamps followed by the frame number. -/
def rectFrameCheck (acc frame : Nat) : Nat := rectResult (rectFeed acc (Word.bytes (Word.of frame)))

end Sys2Proof.Machine
end

