-- ==== Sys2Proof/Machine/Correct.lean ====
section
/-!
DEFINITION. The arithmetic of per-lamp correction (R345 to R353), of the working table (R344, R356), and of saved ledgers (R357,
R360). Working values W are signed with 23 fraction bits; gains are 2.14.
-/
namespace Sys2Proof.Machine

open Sys2Proof

/-- A quotient rounded half up; the denominator is positive. -/
def roundInt (num den : Int) : Int := (2 * num + den) / (2 * den)

/-- A value held in the working format W.
DEDUCED (unsafe): log 83. -/
def toW (v : Int) : Int := if -2147483648 ≤ v ∧ v < 2147483648 then v else Config.wOverflow v

/-- 1.0 in W. -/
abbrev oneW : Int := 8388608

/-! ### Tables (R342, R343, R366) -/

abbrev tcHeader : Nat := 1
abbrev tcCoef : Nat := 2
abbrev tcCurves : Nat := 3
abbrev tcAge : Nat := 4
abbrev tcSeam : Nat := 5
abbrev tcPhoto : Nat := 6

/-- The words of a class; none held: empty. -/
def classWords (ts : List (Nat × List Word)) (c : Nat) : List Word := ((ts.find? fun t => t.1 == c).map (·.2)).getD []

/-- A class is held. -/
def holdsClass (ts : List (Nat × List Word)) (c : Nat) : Bool := ts.any fun t => t.1 == c

def hdrWidth (ts : List (Nat × List Word)) : Nat := Word.field (nth (classWords ts tcHeader) 0 0) 0 16
def hdrHeight (ts : List (Nat × List Word)) : Nat := Word.field (nth (classWords ts tcHeader) 0 0) 16 16
def hdrWEn (ts : List (Nat × List Word)) : Bool := (nth (classWords ts tcHeader) 0 0).getLsbD 32
def hdrZones (ts : List (Nat × List Word)) : Nat := Word.field (nth (classWords ts tcHeader) 0 0) 33 2
def hdrTCal (ts : List (Nat × List Word)) : Int := signed 16 (Word.field (nth (classWords ts tcHeader) 1 0) 0 16)

/-- Zones in use by ZONES (R348). -/
def zoneCount (zones : Nat) : Nat := if zones = 0 then 1 else if zones = 1 then 2 else 4

/-- The zone of a lamp (R348). -/
def zoneOf (zones w h x y : Nat) : Nat :=
  let right := (decide (w ≤ 2 * x)).toNat
  let low := (decide (h ≤ 2 * y)).toNat
  if zones = 1 then right else if zones = 2 then right + 2 * low else 0

/-- The coefficient of emitter e on input c, 3.12. -/
def coef (table : List Word) (j e c : Nat) : Int := signed 16 (Word.field (nth table (4 * j + e) 0) (16 * c) 16)

/-- PE_e of a lamp. -/
def peWord (table : List Word) (j e : Nat) : Nat := Word.field (nth table (4 * j + e) 0) 48 16
def peTc (pe : Nat) : Int := signed 8 (bitsOf pe 0 8)
def peCurve (pe : Nat) : Nat := bitsOf pe 8 4
def peAge (pe : Nat) : Nat := bitsOf pe 12 3
def peFail (pe : Nat) : Bool := bitsOf pe 15 1 == 1

/-- Entry i of a curve (R349). -/
def curveEntry (curves : List Word) (c i : Nat) : Nat :=
  if c = 0 then min (4096 * i) 0xFFFF0 else Word.field (nth curves (257 * c + i) 0) 0 20

/-! ### The correction of a frame -/

/-- What TILE_CORRECT and TILE_DITHER work from for one slot of a frame (R354, R362). -/
structure CorIn where
  w : Nat
  h : Nat
  code : Nat
  decode : Bool
  px : Nat → Px
  working : List Word
  curves : List Word
  seam : List Word
  wEn : Bool
  zones : Nat
  temp : Nat → Int
  tCal : Int
  gcol : Nat → Nat
  fill : Nat
  dither : Bool
  emitters : List Nat
  s : Nat

/-- One channel decoded to 1.15 (R265, R345).
DEDUCED (unsafe): log 83. -/
def decodeCode (decode : Bool) (width c : Nat) : Nat :=
  let m := 2 ^ width - 1
  if decode then
    let fl := rootFrom 16 5 (32768 ^ 5 * c ^ 12 / m ^ 12) 0
    let exact := fl ^ 5 * m ^ 12 == 32768 ^ 5 * c ^ 12
    satTo full15 (if exact then fl else fl + (Config.decodeUp width c).toNat)
  else satTo full15 (roundDiv (c * 32768) m)

/-- The decoded input of a lamp's channel. -/
def CorIn.x (p : CorIn) (j c : Nat) : Nat := decodeCode p.decode (codeWidth p.code) (Px.chan (p.px j) c)

/-- The matrix row of an emitter (R346). -/
def CorIn.matrix (p : CorIn) (j e : Nat) : Int :=
  let sum := (List.range 3).foldl (fun s c => s + coef p.working j e c * (p.x j c : Int)) (0 : Int)
  let y := toW (roundInt sum 16)
  if e = 3 && p.code = 2 && p.wEn then toW (y + (p.x j 3 : Int) * 256) else y

/-- g_T (R347). -/
def gainT (tc : Int) (temp tCal : Int) : Int := clampInt 0x2000 0x8000 (roundInt (16384 * (160000 + tc * (temp - tCal))) 160000)

/-- The edges within 8 lamps of a lamp: edge, position along it, length, depth (R347). -/
def nearEdges (w h x y : Nat) : List (Nat × Nat × Nat × Nat) :=
  [(0, x, w, y), (1, x, w, h - 1 - y), (2, y, h, x), (3, y, h, w - 1 - x)].filter fun e => decide (e.2.2.2 < 8)

/-- g_seam of an emitter (R347).
DEDUCED (unsafe): log 83. -/
def seamGain (seam : List Word) (w h x y e : Nat) : Nat :=
  let gs := (nearEdges w h x y).map fun n =>
    Word.field (nth seam ((32 * n.1 + (if n.2.2.1 = 0 then 0 else n.2.1 * 32 / n.2.2.1)) * 8 + n.2.2.2) 0) (16 * e) 16
  match gs with
  | [] => 0x4000
  | _ =>
    let g := roundDiv (gs.foldl (· * ·) 1) (16384 ^ (gs.length - 1))
    if g < 65536 then g else Config.seamOverflow g % 65536

/-- y_e after the three gains (R347). -/
def CorIn.gained (p : CorIn) (j e : Nat) : Int :=
  let x := j % p.w
  let y := j / p.w
  let pe := peWord p.working j e
  let mul (v g : Int) : Int := toW (roundInt (v * g) 16384)
  let v := mul (p.matrix j e) (gainT (peTc pe) (p.temp (zoneOf p.zones p.w p.h x y)) p.tCal)
  let v := mul v (seamGain p.seam p.w p.h x y e)
  mul v (p.gcol e)

/-- A value clamped to 0 to 1.0, and whether it was clamped from above (R349). -/
def clampW (v : Int) : Int × Bool := (clampInt 0 oneW v, decide (oneW < v))

/-- Emitter e of lamp j has FAIL set. -/
def CorIn.failed (p : CorIn) (j e : Nat) : Bool := peFail (peWord p.working j e)

/-- The orthogonal neighbours of a lamp inside the tile. -/
def neighbours (w h j : Nat) : List Nat :=
  let x := j % w
  let y := j / w
  (if 0 < y then [j - w] else []) ++ (if y + 1 < h then [j + w] else []) ++ (if 0 < x then [j - 1] else []) ++
    (if x + 1 < w then [j + 1] else [])

/-- The neighbours of a failed emitter that take its fill (R350). -/
def CorIn.takers (p : CorIn) (j e : Nat) : List Nat := (neighbours p.w p.h j).filter fun k => !p.failed k e

/-- The target of an emitter with its fill, whether it received any, whether it was clamped from above (R349, R350). The shares
of several neighbours are added exactly and the sum is rounded once. -/
def CorIn.target (p : CorIn) (j e : Nat) : Int × Bool × Bool :=
  let own := clampW (p.gained j e)
  let givers := (neighbours p.w p.h j).filter fun k => p.failed k e
  if givers.isEmpty then (own.1, false, own.2)
  else
    let shares := givers.foldl (fun s k =>
      s + (p.fill : Int) * (clampW (p.gained k e)).1 * ((12 / (p.takers k e).length : Nat) : Int)) (0 : Int)
    let sum := clampW (roundInt (own.1 * 393216 + shares) 393216)
    (sum.1, true, own.2 || sum.2)

/-- D_e of a target on a curve (R349), 16.4. -/
def curveDrive (curves : List Word) (c : Nat) (t : Int) : Nat :=
  let v := t.toNat
  let i := v / 32768
  let f := v % 32768
  if 256 ≤ i then curveEntry curves c 256
  else roundDiv (curveEntry curves c i * (32768 - f) + curveEntry curves c (i + 1) * f) 32768

/-- The 4 x 4 ordered matrix of R351. -/
def ditherB (y x : Nat) : Nat := nth [0, 8, 2, 10, 12, 4, 14, 6, 3, 11, 1, 9, 15, 7, 13, 5] (4 * (y % 4) + x % 4) 0

/-- The dither threshold (R351). -/
def ditherTheta (x y s e : Nat) : Nat := (ditherB y x + 5 * s + 4 * e) % 16

/-- GS of D_e after dither (R351). -/
def ditherGs (on : Bool) (x y s e d : Nat) : Nat :=
  let i := d / 16
  if on && decide (ditherTheta x y s e < d % 16) && decide (i < 0xFFFF) then i + 1 else i

/-- The drive word (R352). -/
def driveWord (gs frac : Nat) (filled failed clipped : Bool) : Nat :=
  gs % 65536 + frac % 16 * 2 ^ 16 + filled.toNat * 2 ^ 20 + failed.toNat * 2 ^ 21 + clipped.toNat * 2 ^ 22

def driveGs (w : Nat) : Nat := bitsOf w 0 16

/-- Drive word and D_e of one emitter (R349 to R352). -/
def CorIn.emitter (p : CorIn) (j e : Nat) : Nat × Nat :=
  if !p.emitters.contains e then (0, 0)
  else if p.failed j e then (driveWord 0 0 false true (clampW (p.gained j e)).2, 0)
  else
    let t := p.target j e
    let d := curveDrive p.curves (peCurve (peWord p.working j e)) t.1
    (driveWord (ditherGs p.dither (j % p.w) (j / p.w) p.s e d) (d % 16) t.2.1 false t.2.2, d)

/-- The four drive words of a lamp, with D_e. -/
def CorIn.lamp (p : CorIn) (j : Nat) : List (Nat × Nat) := (List.range 4).map fun e => p.emitter j e

/-- Every lamp of the slot. -/
def CorIn.drive (p : CorIn) : List (List (Nat × Nat)) := (List.range (p.w * p.h)).map p.lamp

/-- GS in plain service (R353). -/
def plainGs (x level : Nat) : Nat := min 0xFFFF (roundDiv (x * level) 128)

/-- The four drive words of a lamp in plain service (R353); D_e is GS in 16.4.
DEDUCED (unsafe): log 82.
DEDUCED (unsafe): log 84. -/
def plainLamp (code : Nat) (decode : Bool) (level : Nat) (failed : Nat → Bool) (c : Px) : List (Nat × Nat) :=
  (List.range 4).map fun e =>
    if e = 3 then (driveWord 0 0 false (failed e) false, 0)
    else if failed e then (driveWord 0 0 false true false, 0)
    else
      let g := plainGs (decodeCode decode (codeWidth code) (Px.chan c e)) level
      (driveWord g 0 false false false, 16 * g)

/-! ### Ageing and the working table (R344, R356) -/

/-- Stress is held in units of 2^-20 s, saturating at 2^28 s; H counts 10 h. -/
abbrev stressMax : Nat := 2 ^ 48
abbrev hUnit : Nat := 36000 * 2 ^ 20

/-- n ≤ a / b × 2^(p / q), by comparing the q-th powers. -/
def powBelow (a b : Nat) (p : Int) (q n : Nat) : Bool := decide ((n * b) ^ q * 2 ^ (-p).toNat ≤ a ^ q * 2 ^ p.toNat)

/-- The whole part of a / b × 2^(p / q), below 2^bits. -/
def powFloor (a b : Nat) (p : Int) (q bits : Nat) : Nat :=
  (List.range bits).foldl (fun n i => if powBelow a b p q (n + 2 ^ (bits - 1 - i)) then n + 2 ^ (bits - 1 - i) else n) 0

/-- ΔA of R355 in 2^-20 s, of a drive value, a slot length in TCLK cycles, a zone temperature in 1/16 °C and TD: exact but for the last
unit.
DESIGN CHOICE (safe): log 85. -/
def stressAdd (drive len : Nat) (temp : Int) (td : Nat) : Nat :=
  -- LEN × 2.5 ns × 64 × 2^20 is LEN × 2^26 / 400,000,000
  let a := drive * len * 2 ^ 26
  let b := 1048560 * 400000000
  let p := temp - 400
  let n := powFloor a b p (16 * td) 49
  if (n * b) ^ (16 * td) * 2 ^ (-p).toNat = a ^ (16 * td) * 2 ^ p.toNat then n else n + (Config.stressUp drive len temp td).toNat

def agePoint (age : List Word) (k i : Nat) : Nat × Nat :=
  let w := nth age (16 * k + i) 0
  (Word.field w 16 16, Word.field w 0 16)

/-- Efficiency of class k at a stress (R356), 1.15. -/
def efficiency (age : List Word) (k stress : Nat) : Nat :=
  match (List.range 15).find? fun i => decide (stress < (agePoint age k (i + 1)).1 * hUnit) with
  | none => (agePoint age k 15).2
  | some i =>
    let a := agePoint age k i
    let b := agePoint age k (i + 1)
    let den := (b.1 - a.1) * hUnit
    (roundInt ((a.2 : Int) * den + ((b.2 : Int) - a.2) * ((stress : Int) - (a.1 * hUnit : Nat))) den).toNat

/-- The ageing gain before its cap (R356), 2.14. -/
def ageGain (age : List Word) (k stress : Nat) : Nat :=
  if k = 0 then 0x4000
  else
    let e := efficiency age k stress
    if e = 0 then 0x4000 else roundDiv (0x8000 * 16384) e

/-- A coefficient with ageing folded in (R344). -/
def agedCoef (m : Int) (gain : Nat) : Int := clampInt (-32768) 32767 (roundInt (m * gain) 16384)

/-- A word of the working table (R344), and whether its gain reached the cap. -/
def workWord (base : Word) (age : List Word) (cap stress : Nat) (fail : Bool) : Word × Bool :=
  let pe := Word.field base 48 16
  let k := peAge pe
  let g := ageGain age k stress
  let a := min cap g
  let c (i : Nat) : Nat := toSigned 16 (agedCoef (signed 16 (Word.field base (16 * i) 16)) a)
  (Word.pack [(0, 16, c 0), (16, 16, c 1), (32, 16, c 2), (48, 15, pe % 2 ^ 15), (63, 1, fail.toNat)], k != 0 && decide (cap ≤ g))

/-- Entry of the lamp map (R361): lamp, emitters, cause, time. -/
def mapLamp (w : Word) : Nat := Word.field w 0 21
def mapEmitters (w : Word) : Nat := Word.field w 21 4
def mapCause (w : Word) : Nat := Word.field w 25 7

/-- An emitter stands in the lamp map. -/
def inMap (map : List Word) (j e : Nat) : Bool := map.any fun w => mapLamp w == j && (mapEmitters w).testBit e

/-- The working table of the classes held, the ledger and the lamp map (R344), and whether any gain reached AGE_CAP.
DEDUCED (unsafe): log 89. -/
def buildWorking (ts : List (Nat × List Word)) (ledger : List Nat) (map : List Word) (cap : Nat) : List Word × Bool :=
  let base := classWords ts tcCoef
  let age := classWords ts tcAge
  let ws := (List.range base.length).map fun i => workWord (nth base i 0) age cap (nth ledger i 0) (inMap map (i / 4) (i % 4))
  (ws.map (·.1), ws.any (·.2))

/-! ### Rules of the classes (R366, R356, R419) -/

/-- Entries of a list do not decrease. -/
def risingFrom : Nat → List Nat → Bool
  | _, [] => true
  | lo, x :: xs => decide (lo ≤ x) && risingFrom x xs

/-- Curves 1 to 15 rise, and bits [63:20] are 0 (R349, R366). -/
def curvesOk (ws : List Word) : Bool :=
  (ws.all fun w => Word.field w 20 44 == 0) &&
  (List.range 15).all fun c => risingFrom 0 ((List.range 257).map fun i => curveEntry ws (c + 1) i)

/-- The points of ageing classes 1 to 7 (R356). -/
def ageOk (ws : List Word) : Bool :=
  (List.range 7).all fun c =>
    let p (i : Nat) : Nat × Nat := agePoint ws (c + 1) i
    (p 0).1 == 0 && (List.range 15).all (fun i => decide ((p i).1 < (p (i + 1)).1) && decide ((p (i + 1)).2 ≤ (p i).2)) &&
      (List.range 16).all fun i => decide (0x4000 ≤ (p i).2)

/-- The PHOTO class (R419): w and h are the tile's, `zones` its zone count, `present` its emitters. -/
def photoOk (ws : List Word) (w h zones : Nat) (present : List Nat) : Bool :=
  let f (i lo width : Nat) : Nat := Word.field (nth ws i 0) lo width
  let input (i : Nat) : Bool :=
    let b := 520 * i
    f b 49 15 == 0 &&
    (f b 48 1 == 0 ||
      (decide (f b 24 12 * f b 36 12 ≤ 4096) && decide (f b 0 12 + f b 24 12 ≤ w) && decide (f b 12 12 + f b 36 12 ≤ h) &&
       present.all fun e => f (b + 1) (16 * e) 16 != 0)) &&
    f (b + 2) 12 4 == 0 && f (b + 2) 32 32 == 0 && decide (f (b + 2) 8 2 < zones) &&
    (List.range 5).all fun k => nth ws (b + 3 + k) 0 == 0
  (List.range 8).all input && (List.range 16).all fun t => f (4160 + t) 11 53 == 0

/-- Why a class is rejected at END (R366, R367): the DETAIL, where the length and the CRC are right. `rect` is the tile's
rectangle in the wall layout, `ts` the header to check the class against. -/
def classRules (c : Nat) (ws : List Word) (ts : List (Nat × List Word)) (rect : Nat × Nat) (present : List Nat) : Option Nat :=
  let w := Word.field (nth ws 0 0) 0 16
  let h := Word.field (nth ws 0 0) 16 16
  match c with
  | 1 => if ws.length == 3 && (w, h) == rect && w != 0 && Word.field (nth ws 0 0) 33 2 != 3 then none else some 0x0451
  | 2 => if ws.length == 4 * (rect.1 * rect.2) then none else some 0
  | 3 => if ws.length == 4112 && curvesOk ws then none else some 0x0452
  | 4 => if ws.length == 128 && ageOk ws then none else some 0x0452
  | 5 => if ws.length == 1024 then none else some 0
  | _ => if ws.length == 4176 && photoOk ws rect.1 rect.2 (zoneCount (hdrZones ts)) present then none else some 0x0454

/-! ### Saved ledgers (R357, R360) -/

/-- RATE's code for a stress gained over a time (R357): 0 for none, else the power of two nearest in log2. The gain is in
2^-20 s, the time in seconds. -/
def rateCode (gain seconds : Nat) : Nat :=
  if gain = 0 || seconds = 0 then 0
  else
    let den := seconds * 2 ^ 20
    ((List.range 14).filter fun i => decide (den * den ≤ gain * gain * 2 ^ (31 - 2 * (i + 2)))).length + 1

/-- One field of a saved record (R357). -/
def saveField (stress gain seconds : Nat) : Nat := min 0xFFFFFFF (stress / 2 ^ 20) + rateCode gain seconds * 2 ^ 28

/-- The records of a save (R357): two words a lamp. -/
def saveRecords (now before : List Nat) (seconds : Nat) : List Word :=
  (List.range ((now.length + 1) / 2)).map fun i =>
    let f (k : Nat) : Nat := saveField (nth now k 0) (nth now k 0 - nth before k 0) seconds
    Word.pack [(0, 32, f (2 * i)), (32, 32, f (2 * i + 1))]

/-- A whole save (R357). -/
def saveWords (epoch start seconds : Nat) (now before : List Nat) : List Word :=
  let rs := saveRecords now before seconds
  [Word.pack [(0, 32, 0x4C474452), (32, 32, 1)], Word.pack [(0, 32, epoch), (32, 32, now.length / 4)], Word.of start,
   Word.pack [(0, 32, seconds), (32, 32, (checkWord 0 rs).toNat)]] ++ rs

/-- A save passes: its header, and the CRC over its records. -/
def saveOk (ws : List Word) : Bool :=
  let rs := ws.drop 4
  Word.field (nth ws 0 0) 0 32 == 0x4C474452 && Word.field (nth ws 0 0) 32 32 == 1 &&
  rs.length == 2 * Word.field (nth ws 1 0) 32 32 && Word.field (nth ws 3 0) 32 32 == (checkWord 0 rs).toNat

def saveEpoch (ws : List Word) : Nat := Word.field (nth ws 1 0) 0 32
def saveStart (ws : List Word) : Nat := (nth ws 2 0).toNat

/-- The ledger of a save, with the stress its rates estimate for an interval in seconds added (R360). -/
def saveLedger (ws : List Word) (interval : Nat) : List Nat :=
  (ws.drop 4).flatMap fun w => [0, 32].map fun lo =>
    let k := Word.field w (lo + 28) 4
    min stressMax (Word.field w lo 28 * 2 ^ 20 + (if k = 0 then 0 else interval * 2 ^ (k + 5)))

/-- The interval a save is estimated over (R360): to the newest mark of its epoch, 30 s more, at most 630 s; none without a
later mark. -/
def saveInterval (ws : List Word) (marks : List (Nat × Nat)) : Option Nat :=
  let ts := (marks.filter fun m => m.2 == saveEpoch ws && decide (saveStart ws < m.1)).map (·.1)
  if ts.isEmpty then none else some (min 630 (ts.foldl max 0 - saveStart ws + 30))

end Sys2Proof.Machine
end

