-- ==== Sys2Proof/Machine/Layers.lean ====
section
/-!
DEFINITION. What a configuration means before anything is composed: tiles of a loop, slots, layers and their sizes, scaler
bindings, kernel stages, and the loads that validation measures (R171 to R179, R188, R208, R223, R224, R233 to R249, R528).
Every function looks at the registers of the device it is given, so that the same text serves the configuration in force, a
latched one and one under validation.
-/
namespace Sys2Proof.Machine

open Sys2Proof

/-! ### Tiles and slots -/

/-- The tiles of a loop of this sender, in position order (R185, R463). -/
def Dev.loopTiles (d : Dev) (k : Nat) : List LayoutTile :=
  (List.range 128).filterMap fun p => d.link.layout.find? fun t => t.sender == d.senderNo && t.loop == k && t.pos == p

/-- Every tile of this sender. -/
def Dev.allTiles (d : Dev) : List LayoutTile := d.link.layout.filter fun t => t.sender == d.senderNo

def LayoutTile.lamps (t : LayoutTile) : Nat := t.w * t.h

/-- Slots per display frame (R233). -/
def Dev.slotCount (d : Dev) : Nat := d.get F.COMPOSE_SLOTS_COUNT

/-- A slot is COMPOSED (R240). -/
def Dev.slotComposed (d : Dev) (s : Nat) : Bool := decide (s < d.slotCount) && d.get (F.COMPOSE_SLOT_CFG_CONTENT s) == 0

/-- The COMPOSED slots in slot order. -/
def Dev.composedSlots (d : Dev) : List Nat := (List.range 8).filter d.slotComposed

/-- Q and Q_l (R241). -/
def Dev.slotQ (d : Dev) : Nat := d.composedSlots.length
def Dev.layerQ (d : Dev) (l : Nat) : Nat := (d.composedSlots.filter fun s => (d.get (F.COMPOSE_SLOT_CFG_LAYERS s)).testBit l).length

/-- A slot's start, and its length in TCLK cycles: 0 stands for the rest of the frame (R233). -/
def Dev.slotStart (d : Dev) (s : Nat) : Nat := d.get (F.COMPOSE_SLOT_TIME_START s)
def Dev.slotLen (d : Dev) (s : Nat) : Nat :=
  let l := d.get (F.COMPOSE_SLOT_TIME_LEN s)
  if l = 0 then d.tfCycles - d.slotStart s else l

/-- A slot's end: the frame's where LEN is 0. -/
def Dev.slotEnd (d : Dev) (s : Nat) : Nat := d.slotStart s + d.slotLen s

/-- Saddle length in TCLK cycles (R188): the larger of 20 µs and the share of Tf, to the nearest cycle. -/
def Dev.saddleCycles (d : Dev) : Nat :=
  max 8000 (roundDiv (d.tfNum * 400000000 * d.get F.COMPOSE_SADDLE_PERMILLE) (d.tfDen * 1000))

/-- The loop code frames are sent in: LC24 while the sender is in plain service (R282). -/
def Dev.loopCode (d : Dev) (k : Nat) (plain : Bool) : Nat := if plain then 3 else d.get (F.LINK_LOOP_CFG_CODE k)

/-- Pixel parcels a tile takes in one slot (R264). -/
def tileParcels (lamps bits : Nat) : Nat := ceilDiv (lamps * bits) 1920

/-- Pixel parcels of one slot, over the tiles of a loop. -/
def slotParcels (ts : List LayoutTile) (bits : Nat) : Nat := (ts.map fun t => tileParcels t.lamps bits).foldl (· + ·) 0

/-! ### Layers (R171, R173, R528) -/

/-- A source's size where validation or a binding needs it; for a video port, the received mode, or 3,840 x 2,160 (R528). -/
def Dev.sizeNow (d : Dev) (n : Nat) : Nat × Nat :=
  if n < 4 then
    if d.bit (F.INGEST_VIN_MODE_VALID n) then (d.get (F.INGEST_VIN_MODE_ACT_W n), d.get (F.INGEST_VIN_MODE_ACT_H n)) else (3840, 2160)
  else (d.get (F.INGEST_SRC_GEOM_WIDTH n), d.get (F.INGEST_SRC_GEOM_HEIGHT n))

/-- A video port without a received mode: its crop is not clipped (R528). -/
def Dev.unsized (d : Dev) (n : Nat) : Bool := decide (n < 4) && !d.bit (F.INGEST_VIN_MODE_VALID n)

/-- The effective crop of a layer's source: width and height (R528). -/
def Dev.effCrop (d : Dev) (l : Nat) : Nat × Nat :=
  let n := d.get (F.LAYER_SRC_SOURCE l)
  let w := d.get (F.LAYER_CROP_W l)
  let h := d.get (F.LAYER_CROP_H l)
  if d.unsized n then (if w = 0 then 3840 else w, if h = 0 then 2160 else h)
  else
    let z := d.sizeNow n
    let r := d.layerCrop l z.1 z.2
    (r.2.2.1, r.2.2.2)

/-- Enabled layers. -/
def Dev.enabledLayers (d : Dev) : List Nat := (List.range 32).filter fun l => d.bit (F.LAYER_SRC_EN l)

/-- A layer is scaled (R173). -/
def Dev.layerScaled (d : Dev) (l : Nat) : Bool :=
  let c := d.effCrop l
  let r := d.layerDst l
  c.1 != r.2.2.1 || c.2 != r.2.2.2

/-- A ratio of destination over crop lies between 1/8 and 32 (R173). -/
def ratioOk (crop dst : Nat) : Bool := decide (crop ≤ 8 * dst) && decide (dst ≤ 32 * crop)

/-- Lamps of a layer in the tiles of a loop. -/
def Dev.layerLamps (d : Dev) (l k : Nat) : Nat :=
  ((d.loopTiles k).map fun t => (Rect.meet (d.layerDst l) t.rect).area).foldl (· + ·) 0

/-! ### Bindings (R175 to R179) -/

/-- Line-buffer space of a scaler, and its rate in FCLK cycles per second. -/
abbrev lineBuffer : Nat := 49152
abbrev scalerRate : Nat := 800000000

/-- The width a binding takes: under POLICY = SLATE the larger of crop and slate (R175). -/
def Dev.bindWidth (d : Dev) (l : Nat) : Nat :=
  let w := (d.effCrop l).1
  if d.get (F.LAYER_SRC_POLICY l) = 2 then max w (d.sizeNow (d.get (F.LAYER_SRC_SLATE_SRC l))).1 else w

/-- The load of a binding as a fraction of cycles per frame times DEN: numerator and denominator; the rate per second is it
times DEN / NUM (R176, R241). -/
def Dev.bindLoad (d : Dev) (l k : Nat) : Nat × Nat :=
  let lamps := d.layerLamps l k
  let c := d.effCrop l
  let r := d.layerDst l
  let area := r.2.2.1 * r.2.2.2
  -- max (L / 2, P / 4) with P = L x crop / destination
  let num := max (2 * lamps * area) (lamps * (c.1 * c.2))
  (num * d.layerQ l * d.tfDen, 4 * area * d.tfNum)

/-- The sum of fractions. -/
def fracAdd (a b : Nat × Nat) : Nat × Nat := if a.2 = 0 then b else if b.2 = 0 then a else (a.1 * b.2 + b.1 * a.2, a.2 * b.2)

/-- Bindings a configuration needs, as (layer, loop): enabled scaled layers that some COMPOSED slot includes, on loops whose
tiles they meet (R175, R177).
DEDUCED (unsafe): log 52. -/
def Dev.neededBinds (d : Dev) : List (Nat × Nat) :=
  (d.enabledLayers.filter fun l => d.layerScaled l && decide (0 < d.layerQ l)).flatMap fun l =>
    ((List.range d.loops).filter fun k => decide (0 < d.layerLamps l k)).map fun k => (l, k)

/-- One binding comes before another in R177's order, by VTAPS x current effective width, then layer, then loop.
DEDUCED (unsafe): log 52. -/
def Dev.bindBefore (d : Dev) (a b : Nat × Nat) : Bool :=
  let size (x : Nat × Nat) : Nat := d.get (F.LAYER_MIX_VTAPS x.1) * (d.effCrop x.1).1
  if size a ≠ size b then decide (size b < size a)
  else if a.1 ≠ b.1 then decide (a.1 < b.1)
  else decide (a.2 < b.2)

/-- Insertion into a sorted list, and the sort it makes. -/
def insertBy {α : Type} (before : α → α → Bool) (x : α) : List α → List α
  | [] => [x]
  | y :: ys => if before x y then x :: y :: ys else y :: insertBy before x ys

def sortBy {α : Type} (before : α → α → Bool) : List α → List α
  | [] => []
  | x :: xs => insertBy before x (sortBy before xs)

/-- Pixel-lines a set of bindings uses on a scaler, its load, and the loop it serves. -/
def linesUsed (bs : List Binding) (s : Nat) : Nat :=
  ((bs.filter fun b => b.scaler == some s).map fun b => b.taps * b.width).foldl (· + ·) 0

def Dev.loadUsed (d : Dev) (bs : List Binding) (s : Nat) : Nat × Nat :=
  ((bs.filter fun b => b.scaler == some s && b.crop != 0).map fun b => d.bindLoad b.layer b.loop).foldl fracAdd (0, 1)

def scalerLoop (bs : List Binding) (s : Nat) : Option Nat := (bs.find? fun b => b.scaler == some s).map (·.loop)

/-- Scalers whose clock runs and that serve a loop or are free, with room in the line buffer at a tap count. -/
def Dev.roomy (d : Dev) (bs : List Binding) (x : Nat × Nat) (taps : Nat) : List Nat :=
  (List.range d.variant.scalers).filter fun s => (d.reg R.KEEP_GATE_RUN).getLsbD (guScaler + s) &&
    (match scalerLoop bs s with
     | none => true
     | some k => k == x.2) && decide (linesUsed bs s + taps * d.bindWidth x.1 ≤ lineBuffer)

/-- The scaler a binding takes at a tap count: the lowest with room for its lines and its rate. -/
def Dev.placeAt (d : Dev) (bs : List Binding) (x : Nat × Nat) (taps : Nat) : Option Nat :=
  (d.roomy bs x taps).find? fun s =>
    let f := fracAdd (d.loadUsed bs s) (d.bindLoad x.1 x.2)
    decide (f.1 ≤ scalerRate * f.2)

/-- A binding is placed at VTAPS, else at 6, 4 or 2 taps, else hidden (R177). -/
def Dev.placeBind (d : Dev) (bs : List Binding) (x : Nat × Nat) : Binding :=
  let v := d.get (F.LAYER_MIX_VTAPS x.1)
  let tries := v :: ([6, 4, 2].filter fun t => decide (t < v))
  match tries.findSome? fun t => (d.placeAt bs x t).map fun s => (t, s) with
  | some (t, s) => ⟨x.1, x.2, some s, t, d.bindWidth x.1, (d.effCrop x.1).1, v⟩
  | none => ⟨x.1, x.2, none, 0, d.bindWidth x.1, (d.effCrop x.1).1, v⟩

/-- Every binding afresh (R177).
DEDUCED (unsafe): log 52. -/
def Dev.bindAll (d : Dev) : List Binding :=
  (sortBy d.bindBefore d.neededBinds).foldl (fun bs x => bs ++ [d.placeBind bs x]) []

/-- Bindings re-tapped between commits (R173, R179): a layer that a received mode leaves unscaled keeps its place and uses nothing of
it; one that a mode makes scaled without a binding is hidden until a commit binds it.
DEDUCED (unsafe): log 52. -/
def Dev.retap (d : Dev) (bs : List Binding) : List Binding :=
  let need := d.neededBinds
  let bs := (bs.map fun b => if need.contains (b.layer, b.loop) then b else { b with taps := 0, width := 0, crop := 0 }) ++
    (need.filter fun x => !bs.any fun b => b.layer == x.1 && b.loop == x.2).map fun x =>
      ⟨x.1, x.2, none, 0, d.bindWidth x.1, (d.effCrop x.1).1, d.get (F.LAYER_MIX_VTAPS x.1)⟩
  let due (b : Binding) : Bool :=
    b.scaler.isSome && need.contains (b.layer, b.loop) &&
    (b.width != d.bindWidth b.layer || b.crop != (d.effCrop b.layer).1 || decide (b.taps < d.get (F.LAYER_MIX_VTAPS b.layer)))
  let order := (sortBy d.bindBefore ((bs.filter due).map fun b => (b.layer, b.loop)))
  let cleared := bs.map fun b => if due b then { b with taps := 0, width := d.bindWidth b.layer, crop := (d.effCrop b.layer).1 } else b
  order.foldl (fun bs x =>
    bs.map fun b =>
      if b.layer == x.1 && b.loop == x.2 then
        let s := b.scaler.getD 0
        let room := lineBuffer - linesUsed bs s
        let v := d.get (F.LAYER_MIX_VTAPS b.layer)
        { b with taps := (([8, 6, 4, 2].filter fun t => decide (t ≤ v)).find? fun t => decide (t * b.width ≤ room)).getD 0, vtaps := v }
      else b) cleared

/-! ### Kernel stages (R208, R212, R223, R224) -/

/-- Kernels of a tile (R208). -/
abbrev kTileCorrect : Nat := 0x0201
abbrev kTileDither : Nat := 0x0202
abbrev kTilePlain : Nat := 0x0203
abbrev kLedgerAcc : Nat := 0x0204
abbrev kPhotoPredict : Nat := 0x0205
/-- The diagnostic kernels (R208, R231). -/
abbrev kDiagEngine : Nat := 0x0301
abbrev kDiagPool : Nat := 0x0302

/-- A kernel of the library: role (0 sender stage, 1 tile, 2 both), KiB of instruction memory, cost in cycles per unit. -/
def kernelInfo (id : Nat) : Option (Nat × Nat × Nat) :=
  match id with
  | 0x0101 => some (0, 6, 22) | 0x0102 => some (0, 4, 14) | 0x0103 => some (0, 2, 6) | 0x0104 => some (0, 2, 4)
  | 0x0201 => some (1, 8, 96) | 0x0202 => some (1, 1, 12) | 0x0203 => some (1, 1, 6) | 0x0204 => some (1, 1, 2)
  | 0x0205 => some (1, 2, 3) | 0x0301 => some (2, 0, 20000) | 0x0302 => some (2, 0, 8192)
  | _ => none

def kernelCost (id : Nat) : Nat := ((kernelInfo id).map fun x => x.2.2).getD 0

/-- The number of kernels in the library (R208).
DEDUCED (unsafe): log 56. -/
abbrev libraryKernels : Nat := 11

/-- The kernel stage slot of a layer; 0 for none. -/
def Dev.layerStage (d : Dev) (l : Nat) : Nat := d.get (F.LAYER_MIX_KSTAGE l)

/-- Enabled layers that name a stage. -/
def Dev.stagedLayers (d : Dev) : List Nat := d.enabledLayers.filter fun l => d.layerStage l != 0

/-- Source columns (or rows) that a span of lamps takes at a layer's scale, rounded up. -/
def spanOf (lamps crop dst : Nat) : Nat := if dst = 0 then 0 else ceilDiv (lamps * crop) dst

/-- Source columns and rows that a layer's part in a tile spans (R223). -/
def Dev.partSpan (d : Dev) (l : Nat) (t : LayoutTile) : Nat × Nat :=
  let c := d.effCrop l
  let r := d.layerDst l
  let m := Rect.meet r t.rect
  (spanOf m.2.2.1 c.1 r.2.2.1, spanOf m.2.2.2 c.2 r.2.2.2)

/-- Footprint pixels of a staged layer per slot-frame (R223). -/
def Dev.footprint (d : Dev) (l : Nat) : Nat :=
  let g := 2 * d.get (F.COMPOSE_KSTAGE_CFG_MARGIN (d.layerStage l))
  ((d.allTiles.map fun t =>
    let s := d.partSpan l t
    if s.1 = 0 || s.2 = 0 then 0 else (s.2 + g) * (s.1 + g))).foldl (· + ·) 0

/-- Kernel load of a sender in engine cycles per second, as a fraction (R223).
DESIGN CHOICE (safe): log 43. -/
def Dev.senderLoad (d : Dev) : Nat × Nat :=
  if d.tfNum = 0 then (0, 1)
  else
    ((d.stagedLayers.map fun l =>
      kernelCost (d.get (F.COMPOSE_KSTAGE_CFG_KERNEL_ID (d.layerStage l))) * d.footprint l * d.layerQ l).foldl (· + ·) 0 * d.tfDen,
      d.tfNum)

/-- 1 - S / Tf as a fraction (R188, R223): the planning figure takes S as the formula gives it, before it is rounded to a cycle.
DEDUCED (unsafe): log 44. -/
def Dev.openShare (d : Dev) : Nat × Nat :=
  let tf := d.tfNum * 400000000
  (1000 * tf - max (8000000 * d.tfDen) (tf * d.get F.COMPOSE_SADDLE_PERMILLE), 1000 * tf)

/-- A kernel load fits a number of engines: K ≤ engines x 1.2e9 x 0.9 x (1 - S / Tf) (R223).
DEDUCED (unsafe): log 44. -/
def Dev.loadFits (d : Dev) (load : Nat × Nat) (engines : Nat) : Bool :=
  decide (load.1 * 10 * d.openShare.2 ≤ load.2 * engines * 1200000000 * 9 * d.openShare.1)

/-- One fraction exceeds another. -/
def fracLt (a b : Nat × Nat) : Bool := decide (a.1 * b.2 < b.1 * a.2)

/-- The figure of an E_BUDGET reply in millions (R143, R223), which the spec does not round.
DESIGN CHOICE (safe): log 43. -/
def planFigure (x : Nat × Nat) : Nat :=
  let den := x.2 * 1000000
  x.1 / den + (x.1 % den != 0 && Config.figureUp x.1 den).toNat

/-! ### Loop and pipe terms (R249) -/

/-- Payload rate of a port in bit/s by its mode and lanes (R186, R259). -/
def payloadRate (mode lanes : Nat) : Nat :=
  if mode = lsFull then (if lanes = 3 then 76700000000 else 102300000000) else if mode = lsOne then 25570000000 else 0

/-- Lanes an end sends at: its own in service, or three where it has adopted the rate of a slower link (R281). -/
def Dev.sendLanes (d : Dev) (n : Nat) : Nat :=
  let l := d.get (F.LINK_OVL_STAT_TX_LANES n)
  if (d.port n).slow then min l 3 else l

/-- The payload rate of a loop's fastest port in service; none when none is. -/
def Dev.fastest (d : Dev) (k : Nat) : Option Nat :=
  let rs := ((d.loopEnds k).map fun e => payloadRate (d.portState e.2) (d.sendLanes e.2)).filter (0 < ·)
  if rs.isEmpty then none else some (rs.foldl max 0)

/-- The rate R249 counts with: of the fastest port in service, else of the mode RATE names; none for COL. -/
def Dev.budgetRate (d : Dev) (k : Nat) : Option Nat :=
  match d.fastest k with
  | some r => some r
  | none => match d.get (F.LINK_LOOP_CFG_RATE k) with
    | 2 => some 102300000000
    | 1 => some 25570000000
    | _ => none

/-- Bits per lamp a loop is checked with. -/
def Dev.budgetBits (d : Dev) (k : Nat) : Nat := codeBits (d.get (F.LINK_LOOP_CFG_CODE k))

/-- Pixel parcels of a frame on a loop, no mask counted. -/
def Dev.frameParcels (d : Dev) (k : Nat) : Nat := d.slotQ * slotParcels (d.loopTiles k) (d.budgetBits k)

/-- A time given as a fraction of seconds lies inside Tf - 25 µs. -/
def Dev.inWindow (d : Dev) (num den : Nat) : Bool :=
  -- num / den + 25e-6 ≤ tfNum / tfDen
  decide ((num * 40000 + den) * d.tfDen ≤ d.tfNum * den * 40000)

/-- The loop term of R249 in seconds: numerator and denominator. -/
def loopTerm (parcels rate : Nat) : Nat × Nat := (32 * 1920 * parcels, 31 * rate)

/-- The pipe term of R249. -/
def Dev.pipeTerm (d : Dev) (k : Nat) : Nat × Nat :=
  (d.slotQ * ((d.loopTiles k).map (·.lamps)).foldl (· + ·) 0, 3200000000)

/-- A term's share of the window in ‰, rounded down.
DEDUCED (unsafe): log 44. -/
def Dev.share (d : Dev) (x : Nat × Nat) : Nat :=
  let w := d.tfNum * 40000 - d.tfDen
  if x.2 = 0 || w = 0 then 0 else x.1 * d.tfDen * 40000 * 1000 / (x.2 * w)

/-! ### DRAM load of a sender (R143) -/

/-- Bytes per second of a layer's reads, as a fraction (R143, R224): over the tiles, visible source pixels x bytes x rate x F. -/
def Dev.layerReads (d : Dev) (binds : List Binding) (l : Nat) : Nat × Nat :=
  let n := d.get (F.LAYER_SRC_SOURCE l)
  let c := d.effCrop l
  let r := d.layerDst l
  let px := pixelBytes (d.get (F.INGEST_SRC_CFG_STORE n))
  let g := d.layerStage l
  let m := 2 * d.get (F.COMPOSE_KSTAGE_CFG_MARGIN g)
  let twice := if g != 0 && d.get (F.COMPOSE_KSTAGE_CFG_KERNEL_ID g) == 0x0103 then 2 else 1
  let scaled := d.layerScaled l
  let area := r.2.2.1 * r.2.2.2
  let term (t : LayoutTile) : Nat × Nat :=
    let lamps := (Rect.meet r t.rect).area
    let taps := (tapsOn binds l t.loop).getD 0
    if lamps = 0 || area = 0 || (scaled && taps == 0) then (0, 1)
    else
      -- rows and columns the whole tile spans at the layer's scale
      let ht := max 1 (spanOf t.h c.2 r.2.2.2)
      let wt := max 1 (spanOf t.w c.1 r.2.2.1)
      let f : Nat × Nat := if scaled then ((ht + taps - 1) * (wt + 7), ht * wt) else (1, 1)
      let k : Nat × Nat := if g = 0 then (1, 1) else ((ht + m) * (wt + m), ht * wt)
      (lamps * (c.1 * c.2) * px * d.layerQ l * d.tfDen * f.1 * k.1 * twice, area * d.tfNum * f.2 * k.2)
  (d.allTiles.map term).foldl fracAdd (0, 1)

/-- Peak DRAM bandwidth in bytes per second: 8 bytes at the data rate for each channel, 4 for a tile's subchannel. -/
def Dev.dramPeak (d : Dev) : Nat :=
  let rate := d.get F.MEM_INFO_RATE_MTS * 1000000
  if d.isTile then 4 * d.get F.MEM_INFO_SUBCH * rate else 8 * d.mc.channels * rate

/-- The planning load of a sender in bytes per second, as a fraction.
DESIGN CHOICE (safe): log 43. -/
def Dev.senderDram (d : Dev) (binds : List Binding) : Nat × Nat :=
  let reads := ((d.enabledLayers.filter fun l => decide (0 < d.layerQ l)).map fun l => d.layerReads binds l).foldl fracAdd (0, 1)
  fracAdd (2000000000 + d.resSum * 12500000, 1) reads

/-! ### What a twin or tile needs of a rectangle -/

def Dev.srecRect (d : Dev) (r : Nat) : Rect :=
  (d.get (F.COMPOSE_SREC_POS_X r), d.get (F.COMPOSE_SREC_POS_Y r), d.get (F.COMPOSE_SREC_POS_W r), d.get (F.COMPOSE_SREC_POS_H r))

/-- A rectangle lies inside another. -/
def Rect.within (a b : Rect) : Bool :=
  decide (b.1 ≤ a.1) && decide (b.2.1 ≤ a.2.1) && decide (a.1 + a.2.2.1 ≤ b.1 + b.2.2.1) && decide (a.2.1 + a.2.2.2 ≤ b.2.1 + b.2.2.2)

/-- The tile that owns a supervised rectangle (R196). -/
def Dev.srecOwner (d : Dev) (r : Nat) : Option LayoutTile := d.allTiles.find? fun t => Rect.within (d.srecRect r) t.rect

end Sys2Proof.Machine
end

