-- ==== Sys2Proof/Machine/ComposeOps.lean ====
section
/-!
DEFINITION. Operations of the compositor that other chapters use: a pipe's frame stops or ends (R187, R190, R192, R197, R198, R269).
-/
namespace Sys2Proof.Machine

open Sys2Proof

def Dev.onCompose (d : Dev) (f : Compose → Compose) : Dev := { d with compose := f d.compose }
def Dev.pipe (d : Dev) (k : Nat) : Pipe := nth d.compose.pipes k {}
def Dev.onPipe (d : Dev) (k : Nat) (f : Pipe → Pipe) : Dev := d.onCompose fun c => { c with pipes := modifyNth c.pipes k f }

/-- The registers of a latched set. -/
def Dev.atSet (d : Dev) (s : ComposeSet) : Dev := { d with regs := s.regs }

/-- The registers the frame in composition was latched with (R190); those in force where none is composed. -/
def Dev.composing (d : Dev) : Dev := match d.compose.cur with
  | some s => d.atSet s
  | none => d

/-- EV_PICTURE of the compositor (R200, R232, R254). -/
def Dev.eventPicture (d : Dev) (status cause idx loops reason frame : Nat) (sev : Severity) : Dev :=
  d.event .picture sev [d.reg status, Word.pack [(0, 8, cause), (8, 8, idx), (16, 4, loops), (24, 4, reason)], Word.of frame]

/-! ### A frame of a pipe stops or ends -/

/-- The ABORT parcel of a frame on a loop's end, and what waits of that frame there is dropped. -/
def Dev.abortEnd (d : Dev) (k port frame index reason : Nat) : Dev :=
  let p := d.port port
  let ws := parcelWords ⟨ptAbort, false, 0, index, frame, d.senderNo, k, 0⟩
    [Word.of frame, Word.pack [(0, 8, reason), (24, 24, p.pixSent)]]
  d.onPort port fun p => { p with stream := [ws], frame := none, tags := [], pixAll := p.pixSent }

/-- The rectangles of a loop's tiles start afresh: the frame they were fed with is not complete (R197, R198). -/
def Dev.dropRects (d : Dev) (k : Nat) : Dev :=
  let c := d.composing
  d.onCompose fun z => { z with rects := (List.range z.rects.length).map fun r =>
    if ((c.srecOwner r).any fun t => t.loop == k) then { nth z.rects r {} with acc := 0, rows := 0, done := none } else nth z.rects r {} }

/-- One pipe stops frame N; what was released for it is dropped. -/
def Dev.dropPipe (d : Dev) (k frame : Nat) : Dev :=
  let d := d.onTwin fun t => { t with digests := (frame, k, 0, true) :: t.digests.take 31 }
  let d := (d.dropRects k).onPipe k fun _ => {}
  let mine (i : WorkItem) : Bool := !i.background && i.loop == k && i.frame == frame
  d.onCompose fun c => { c with
    waiting := c.waiting.filter fun i => !mine i
    basins := c.basins.map fun b => { b with queue := b.queue.filter fun i => !mine i } }

/-- One pipe stops frame N and its ends send ABORT. -/
def Dev.abortLoop (d : Dev) (k frame reason : Nat) : Dev :=
  let d := if d.bit F.CTRL_PAIR_STAT_MUTED then d else (d.loopEnds k).foldl (fun d e => if lsOne ≤ d.portState e.2 then d.abortEnd k e.2 frame 0 reason else d) d
  d.dropPipe k frame

/-- Memory a frame read is free again: it completed or was aborted (R192). -/
def Dev.releaseReads (d : Dev) (frame : Nat) : Dev :=
  (d.releaseFrame frame).onCompose fun c => { c with reading := c.reading.filter fun x => x.2.2 != frame }

/-- The check values of a frame that has ended join the FROZEN histories (R198). -/
def Dev.keepChecks (d : Dev) : Dev :=
  d.onCompose fun z => { z with rects := z.rects.map fun x => match x.done with
    | some c => { x with done := none, history := (c :: x.history).take 255 }
    | none => x }

/-- Where no pipe composes the frame any more, its memory is free and its check values count (R192, R198). -/
def Dev.frameEnded (d : Dev) (frame : Nat) : Dev :=
  if (List.range d.loops).any fun j => (d.pipe j).composing && (d.pipe j).opened == some frame then d
  else (d.releaseReads frame).keepChecks

/-- The pipe of a loop stops without the steps of R187: its ends send ABORT with LINK's own reason, or nothing. -/
def Dev.stopPipe (d : Dev) (k : Nat) (reason : Option Nat) : Dev :=
  match (d.pipe k).opened with
  | none => d
  | some frame =>
    (match reason with
     | some r => d.abortLoop k frame r
     | none => d.dropPipe k frame).frameEnded frame

/-- The pipes with a frame under way. -/
def Dev.busyPipes (d : Dev) : List Nat := (List.range d.loops).filter fun k => (d.pipe k).opened.isSome

/-- Aborts the frames of some pipes with a reason (R187): COMPOSE_STAT, the pipes' flags, one EV_PICTURE. -/
def Dev.abortSet (d : Dev) (ks : List Nat) (reason : Nat) : Dev :=
  let ks := ks.filter fun k => (d.pipe k).opened.isSome
  match ks with
  | [] => d
  | k0 :: _ =>
    let frame := (d.pipe k0).opened.getD 0
    let mask := ks.foldl (fun m k => m + 2 ^ k) 0
    let d := ks.foldl (fun d k =>
      (d.abortLoop k ((d.pipe k).opened.getD 0) reason).raiseFlag (F.COMPOSE_PIPE_STAT_ABORTED k)) d
    let d := d.setAll [(F.COMPOSE_STAT_ABORTED, 1), (F.COMPOSE_STAT_LAST_REASON, reason), (F.COMPOSE_STAT_LAST_LOOPS, mask)]
    ((d.bump F.COMPOSE_STAT_ABORT_CNT).frameEnded frame).eventPicture R.COMPOSE_STAT 0x06 0 mask reason frame .warning

/-- Every pipe that composes stops its frame with a reason. -/
def Dev.abortAll (d : Dev) (reason : Nat) : Dev := d.abortSet d.busyPipes reason

/-- One pipe stops its frame; with ABORT_SCOPE = 0 in the frame's set so does every other. -/
def Dev.abortPipe (d : Dev) (k reason : Nat) : Dev :=
  if (d.pipe k).opened.isNone then d
  else if d.composing.bit F.COMPOSE_CFG_ABORT_SCOPE then d.abortSet [k] reason else d.abortAll reason

/-- A step of wall time: the frame in composition is aborted with PACE, and composition resumes with the first window that
opens at least 2 ms later (R318). -/
def Dev.stepFrames (d : Dev) : Dev :=
  (d.abortAll 1).onCompose fun c => { c with resumeAt := d.time.wall + 2000000 * nsU, next := none }

end Sys2Proof.Machine
end

