-- ==== Sys2Proof/Machine/Engines.lean ====
section
/-!
DEFINITION. Engines, basins and work items (R25 to R28, R30 to R32, R203 to R207, R218 to R228): what is in service, kernel sets,
the two dispatchers, faults, re-dispatches and retirements.
-/
namespace Sys2Proof.Machine

open Sys2Proof

/-! ### Engines and basins in service -/

def Dev.basin (d : Dev) (b : Nat) : Basin := nth d.compose.basins b {}

/-- BASINb_STAT and BASINb_EPOCH follow the basin.
DEDUCED (unsafe): log 57. -/
def Dev.refreshBasin (d : Dev) (b : Nat) : Dev :=
  let x := d.basin b
  d.setAll [(F.COMPOSE_BASIN_STAT_IN_SVC b, if x.st = 4 || !x.active then 0 else (List.range 16).foldl (fun m e => if x.out.testBit e then m else m + 2 ^ e) 0),
    (F.COMPOSE_BASIN_STAT_SUSPECT b, x.suspect), (F.COMPOSE_BASIN_STAT_STATE b, x.st),
    (F.COMPOSE_BASIN_EPOCH_EPOCH b, x.epoch), (F.COMPOSE_BASIN_EPOCH_RECORD b, if x.active then d.compose.record else 0)]

def Dev.onBasin (d : Dev) (b : Nat) (f : Basin → Basin) : Dev :=
  (d.onCompose fun c => { c with basins := modifyNth c.basins b f }).refreshBasin b

/-- An engine of a basin is in service. -/
def Basin.inService (b : Basin) (e : Nat) : Bool := b.active && b.st != 4 && decide (e < 16) && !b.out.testBit e

/-- Engines of a basin in service. -/
def Basin.engines (b : Basin) : Nat := if b.active && b.st != 4 then 16 - popCount 16 b.out else 0

/-- KEEP_INSVC's counts follow the basins: a replacement counts from the start of its loading (R31). -/
def Dev.refreshInsvc (d : Dev) : Dev :=
  let bs := d.compose.basins.filter fun b => b.active && b.st != 4
  d.setAll [(F.KEEP_INSVC_BASINS_IN, bs.length), (F.KEEP_INSVC_ENGINES_IN, (bs.map (·.engines)).foldl (· + ·) 0)]

/-- The saddle in force, in TCLK cycles. -/
def Dev.saddleNow (d : Dev) : Nat := d.compose.saddle

/-- The configuration in force exceeds the capacity in service (R32, R251).
DEDUCED (unsafe): log 59. -/
def Dev.overBudget (d : Dev) : Bool :=
  !d.loadFits d.compose.load (d.get F.KEEP_INSVC_ENGINES_IN) ||
  (List.range d.loops).any fun k => match d.budgetRate k with
    | some r => !d.inWindow (loopTerm (nth d.compose.parcels k 0) r).1 (loopTerm (nth d.compose.parcels k 0) r).2
    | none => false

/-- COMPOSE_KLOAD follows load, saddle and engines in service (R223).
DEDUCED (unsafe): log 44. -/
def Dev.refreshKload (d : Dev) : Dev :=
  let e := d.get F.KEEP_INSVC_ENGINES_IN
  d.setAll [(F.COMPOSE_KLOAD_LOAD_PERMILLE, if e = 0 then 0 else satTo 65535 (d.compose.load.1 * 1000 / (d.compose.load.2 * e * 1200000000))),
    (F.COMPOSE_KLOAD_LIMIT_PERMILLE, if d.openShare.2 = 0 then 0 else 900 * d.openShare.1 / d.openShare.2)]

/-- After a retirement OVERBUDGET may set (R32); it clears only at a saddle.
DEDUCED (unsafe): log 59. -/
def Dev.judgeBudget (d : Dev) (saddle : Bool) : Dev :=
  let d := d.refreshKload
  let was := d.bit F.KEEP_INSVC_OVERBUDGET
  let now := d.overBudget
  if now && !was then (d.set F.KEEP_INSVC_OVERBUDGET 1).eventCapacity 5 0 .warning
  else if !now && was && saddle then (d.set F.KEEP_INSVC_OVERBUDGET 0).eventCapacity 5 0 .info
  else d

/-! ### Kernel sets (R204, R206, R219, R221) -/

/-- A kernel library is in use (R204, R208). -/
def Dev.hasLibrary (d : Dev) : Bool := d.img.running.any fun r => r.1 == 2

/-- The kernel set every basin takes (R219): a sender's kernels in use fit one set; a tile's chain.
DEDUCED (unsafe): log 114. -/
def Dev.kernelSet (d : Dev) (plain : Bool) : List Nat :=
  if !d.hasLibrary then []
  else if d.isTile then (if plain then [kTilePlain, kLedgerAcc] else [kTileCorrect, kTileDither, kLedgerAcc, kPhotoPredict])
  else [0x0101, 0x0102, 0x0103, 0x0104].filter fun k =>
    (List.range 17).any fun j => decide (0 < j) && d.bit (F.COMPOSE_KSTAGE_CFG_EN j) && d.get (F.COMPOSE_KSTAGE_CFG_KERNEL_ID j) == k

/-- Stage slots whose checked block a basin with a kernel set holds (R210). -/
def Dev.blocksFor (d : Dev) (set : List Nat) : List Nat :=
  (d.compose.blocks.map (·.1)).filter fun j => set.contains (d.get (F.COMPOSE_KSTAGE_CFG_KERNEL_ID j))

/-- A register of an engine and a word of its local data, as its last item left them (R203).
DESIGN CHOICE (safe): log 116. -/
def Basin.engineReg (b : Basin) (e i : Nat) : Word := Config.engineRegister (nth b.left e 0) i
/-- Here:
DESIGN CHOICE (safe): log 116. -/
def Basin.engineData (b : Basin) (e i : Nat) : Word := Config.engineLocal (nth b.left e 0) i

/-- At the latch of a frame every ready basin is given the set, and the blocks, it works with from that frame on (R210, R219, R221);
`blocks` says that some block is new. What a basin is to hold is in its pool with the latch, so its epoch is the record.
DEDUCED (unsafe): log 114. -/
def Dev.assignSets (d : Dev) (frame : Nat) (plain blocks : Bool) : Dev :=
  let set := d.kernelSet plain
  let slots := d.blocksFor set
  (List.range 16).foldl (fun d b =>
    let x := d.basin b
    if !x.active || x.st != 3 then d
    else if blocks || x.set != set || x.blocks != slots then
      d.onBasin b fun x => { x with next := some (frame, set, slots), epoch := d.compose.record }
    else d.onBasin b fun x => { x with next := none, epoch := d.compose.record }) d

/-- A basin that has finished the items of the earlier frames loads its next set (R221).
DEDUCED (unsafe): log 114. -/
def Dev.swapSets (d : Dev) : Dev :=
  (List.range 16).foldl (fun d b =>
    let x := d.basin b
    match x.next with
    | none => d
    | some (frame, set, slots) =>
      let early (i : WorkItem) : Bool := !i.background && decide (i.frame < frame) && x.set.contains i.kernel
      if x.queue.any early || (x.running.any fun r => early r.2) || d.compose.waiting.any early then d
      else d.onBasin b fun x => { x with next := none, set := set, blocks := slots }) d

/-! ### Work items (R218 to R220) -/

/-- Words of input and of output of an item (R218): of a stage its area with its border, and the area; of TILE_CORRECT the frame word
and record of its lamps and those around them, and two words a lamp; of LEDGER_ACC ten words a lamp in all; what the spec does not
size counts the frame's or drive store's words.
DEDUCED (unsafe): log 115. -/
def WorkItem.words (i : WorkItem) : Nat × Nat :=
  let n := i.area.2.2.1
  if i.kernel = kTileCorrect then (15 * (n + 2), 2 * n)
  else if i.kernel = kLedgerAcc then (8 * n, 2 * n)
  else if i.kernel = kTileDither || i.kernel = kPhotoPredict then (2 * n, 2 * n)
  else if i.kernel = kTilePlain then (n, 2 * n)
  else ((n + 2 * i.margin) * (i.area.2.2.2 + 2 * i.margin), n * i.area.2.2.2)

/-- The order items are taken in: FRAME before BACKGROUND, the earliest deadline, the oldest (R220). -/
def itemBefore (a b : WorkItem) : Bool :=
  if a.background != b.background then !a.background
  else if !a.background && a.deadline != b.deadline then decide (a.deadline < b.deadline)
  else decide (a.ident < b.ident)

/-- The first of some items in that order. -/
def firstItem : List WorkItem → Option WorkItem
  | [] => none
  | i :: is => match firstItem is with
    | none => some i
    | some j => some (if itemBefore j i then j else i)

/-- Free engines of a basin in service. -/
def Basin.free (b : Basin) : List Nat := (List.range 16).filter fun e => !b.out.testBit e && !b.running.any fun r => r.1 == e

/-- An item may run on an engine: the one it is pinned to; not the one it failed on last (R26). -/
def WorkItem.suits (i : WorkItem) (engine : Nat) : Bool := i.avoid != some engine && match i.pin with
  | some e => e == engine
  | none => true

/-- The engine of basin `n` an item takes: the lowest free one that is not suspect, else a suspect one when no other is free; an item
that failed before waits for one that is not suspect while the basin has one (R26, R220). A pinned item takes its own. -/
def Basin.engineFor (b : Basin) (n : Nat) (i : WorkItem) : Option Nat :=
  let ok := b.free.filter fun e => i.suits (16 * n + e)
  match ok.find? fun e => i.pin.isSome || !b.suspect.testBit e with
  | some e => some e
  | none =>
    if 0 < i.tries && (List.range 16).any (fun e => b.inService e && !b.suspect.testBit e && i.suits (16 * n + e)) then none
    else ok.head?

/-- Basin `n` starts queued items on free engines. The fuel is the queue's length. -/
def Basin.start (n : Nat) : Nat → Basin → Basin
  | 0, b => b
  | k + 1, b =>
    match firstItem (b.queue.filter fun i => (b.engineFor n i).isSome) with
    | none => b
    | some i => match b.engineFor n i with
      | none => b
      | some e => Basin.start n k { b with queue := b.queue.filter fun j => j.ident != i.ident, running := b.running ++ [(e, i)] }

/-- Here:
DEDUCED (unsafe): log 56. -/
def Dev.startItems (d : Dev) (b : Nat) : Dev := d.onBasin b fun x => if x.st = 3 then Basin.start b x.queue.length x else x

/-- Items not complete, wherever they are. -/
def Dev.itemsLeft (d : Dev) : List WorkItem :=
  d.compose.waiting ++ d.compose.basins.flatMap fun b => b.queue ++ b.running.map (·.2)

/-- A basin may take an item (R17, R204, R219 to R221, R227): it is ready with its epoch the recorded one, its set holds the kernel
(diagnostics are in every set), the item is of a frame its set serves, it is not kept from it by a pin or by the engine it
failed on. -/
def Dev.basinTakes (d : Dev) (b : Nat) (i : WorkItem) : Bool :=
  let x := d.basin b
  x.active && x.st == 3 && x.epoch == d.compose.record &&
  (i.background || (x.set.contains i.kernel && match x.next with
    | some (frame, _) => decide (i.frame < frame)
    | none => true)) &&
  (match i.basin with
   | some c => c == b
   | none => true) &&
  (List.range 16).any fun e => x.inService e && i.suits (16 * b + e)

/-- What an item works on is there: the item whose output it takes is complete (R217). -/
def Dev.inputReady (d : Dev) (i : WorkItem) : Bool := match i.after with
  | none => true
  | some j => !d.itemsLeft.any fun x => x.ident == j

/-- The basin the region dispatcher sends an item to: most free engines, then the lowest index (R220). -/
def Dev.chooseBasin (d : Dev) (i : WorkItem) : Option Nat :=
  let ok := (List.range 16).filter fun b => d.basinTakes b i && decide ((d.basin b).queue.length < 32)
  ok.foldl (fun best b => match best with
    | none => some b
    | some c => if (d.basin c).free.length < (d.basin b).free.length then some b else some c) none

/-- Sends one waiting item to a basin. -/
def Dev.dispatchItem (d : Dev) : Dev :=
  let d := d.swapSets
  match firstItem (d.compose.waiting.filter fun i => d.inputReady i && (d.chooseBasin i).isSome) with
  | none => d
  | some i => match d.chooseBasin i with
    | none => d
    | some b =>
      let d := d.onCompose fun c => { c with waiting := c.waiting.filter fun j => j.ident != i.ident }
      (d.onBasin b fun x => { x with queue := x.queue ++ [i] }).startItems b

/-- Adds items to those that wait, numbering them; `after` names a place in the list.
DEDUCED (unsafe): log 115. -/
def Dev.releaseItems (d : Dev) (l : List WorkItem) : Dev :=
  d.onCompose fun c => { c with
    waiting := c.waiting ++ (List.range l.length).map fun j =>
      let i := nth l j { kernel := 0, units := 0 }
      { i with ident := c.nextItem + j, after := i.after.map (c.nextItem + ·) }
    nextItem := c.nextItem + l.length }

/-! ### Faults (R25 to R28, R30 to R32, R225 to R228) -/

/-- Items that work on the output of one that has ended without any, and on theirs, go with it (R217).
DEDUCED (unsafe): log 115. -/
def Dev.dropAfter (d : Dev) (i : WorkItem) : Dev :=
  let after (is : List Nat) (l : List WorkItem) : List Nat := (l.filter fun x => x.after.any is.contains).map (·.ident)
  let all := d.itemsLeft
  let one := after [i.ident] all
  let gone := one ++ after one all
  d.onCompose fun c => { c with waiting := c.waiting.filter fun x => !gone.contains x.ident }

/-- An item ends with KERNEL_FAULT (R28, R225): a sender aborts its frame; a tile's frame stays without the output. -/
def Dev.kernelFault (d : Dev) (b : Nat) (i : WorkItem) : Dev :=
  let d := (d.bump F.COMPOSE_KERR_KFAULT).raiseFlag (F.COMPOSE_BASIN_STAT_KERNEL_FAULT b)
  if i.background then d
  else
    let d := (d.onCompose fun c => { c with failed := i :: c.failed.take 255 }).dropAfter i
    if d.isSender then (if (d.pipe i.loop).opened == some i.frame then d.abortPipe i.loop 2 else d) else d

/-- An item that failed on a basin goes on (R28, R225, R227): to another engine of the basin, else to another basin that holds
its kernel, else it ends. -/
def Dev.redispatch (d : Dev) (b : Nat) (i : WorkItem) : Dev :=
  let i : WorkItem := { i with tries := i.tries + 1 }
  if i.background then d
  else if 3 ≤ i.tries then d.kernelFault b i
  else
    let count (d : Dev) : Dev := (d.bump F.COMPOSE_KERR_REDISPATCH).raiseFlag (F.COMPOSE_BASIN_STAT_REDISPATCHED b)
    let x := d.basin b
    if x.st == 3 && (List.range 16).any fun e => x.inService e && i.suits (16 * b + e) then
      count (d.onBasin b fun x => { x with queue := i :: x.queue })
    else if (List.range 16).any fun c => c != b && d.basinTakes c i then
      count (d.onCompose fun c => { c with waiting := i :: c.waiting })
    else d.kernelFault b i

/-- A basin is out of service: what it held is answered, to move under R227, and a tile brings in the lowest gated basin that passed its
test (R31). -/
def Dev.dropBasin (d : Dev) (b : Nat) : Dev × List (Nat × WorkItem) :=
  let x := d.basin b
  let items := (x.running.map fun r => (b, r.2)) ++ x.queue.map fun i => (b, i)
  let d := d.onBasin b fun x => { x with st := 4, queue := [], running := [], suspect := 0, set := [], next := none, blocks := [] }
  let spare := if d.isTile then
      (List.range d.variant.basins).find? fun c => !(d.basin c).active && (d.basin c).passed && (d.basin c).st != 4
    else none
  (match spare with
   | some c => (d.onBasin c fun y => { y with active := true, st := 2, replaces := true }).setReg R.KEEP_GATE_RUN
       (d.reg R.KEEP_GATE_RUN ||| Word.of (2 ^ c))
   | none => d, items)

/-- Items in order of age. -/
def byAge (l : List (Nat × WorkItem)) : List (Nat × WorkItem) := sortBy (fun a b => decide (a.2.ident < b.2.ident)) l

/-- Engines and basins leave service together (R27, R30 to R32, R43): eight engines out of one basin retire it; their items move after
them (R226, R228), oldest first; then one event a unit in the order of R43's table. `moved` are items the engines held. -/
def Dev.retireUnits (d : Dev) (engines basins : List Nat) (moved : List (Nat × WorkItem)) : Dev :=
  let d := engines.foldl (fun d g =>
    (d.onBasin (g / 16) fun x => { x with out := Sys2Proof.setBit x.out (g % 16) true, suspect := Sys2Proof.setBit x.suspect (g % 16) false }).raiseFlag
      (F.COMPOSE_BASIN_STAT_ENG_RETIRED (g / 16))) d
  let lost := (List.range 16).filter fun b => let x := d.basin b
    x.active && x.st != 4 && (basins.contains b || decide (8 ≤ popCount 16 x.out))
  let r := lost.foldl (fun r b =>
    let y := r.1.dropBasin b
    (y.1, r.2 ++ y.2)) (d, moved)
  let d := r.1.refreshInsvc
  let d := engines.foldl (fun d g => d.eventCapacity 1 g .warning) d
  let d := lost.foldl (fun d b => d.eventCapacity 2 b .warning) d
  let d := if engines.isEmpty && lost.isEmpty then d else d.judgeBudget false
  let d := (byAge r.2).foldl (fun d x => d.redispatch x.1 x.2) d
  (List.range 16).foldl (fun d b => if (d.basin b).active && (d.basin b).queue != [] then d.startItems b else d) d

/-- Faults of engines, and of pools or ports of basins, that pass up in one cycle (R26 to R28, R30, R226): an engine's item is
abandoned, the engine is suspect, its third fault in one second retires it. -/
def Dev.engineFaults (d : Dev) (engines basins : List Nat) : Dev :=
  let es := engines.filter fun g => (d.basin (g / 16)).inService (g % 16)
  let held := es.flatMap fun g => ((d.basin (g / 16)).running.filter fun r => r.1 == g % 16).map fun r => (g / 16, { r.2 with avoid := some g })
  let d := es.foldl (fun d g => d.onBasin (g / 16) fun x => { x with
    running := x.running.filter fun r => r.1 != g % 16, suspect := Sys2Proof.setBit x.suspect (g % 16) true
    faults := (g % 16, d.now) :: x.faults.filter fun f => decide (d.now < f.2 + sPs) }) d
  let retired := es.filter fun g => decide (3 ≤ ((d.basin (g / 16)).faults.filter fun f => f.1 == g % 16).length)
  d.retireUnits retired basins held

/-- A fault of one engine passes up. -/
def Dev.engineFault (d : Dev) (b e : Nat) : Dev := d.engineFaults [16 * b + e] []

/-- A burst read for a work item came poisoned (R135): the oldest running item fails under R28. -/
def Dev.poisonItem (d : Dev) : Dev :=
  let all := (List.range 16).flatMap fun b => (d.basin b).running.map fun r => (b, r)
  match firstItem ((all.map fun x => x.2.2).filter fun i => !i.background) with
  | none => d
  | some i => match all.find? fun x => x.2.2.ident == i.ident with
    | none => d
    | some (b, e, i) =>
      ((d.onBasin b fun x => { x with running := x.running.filter fun r => r.1 != e }).redispatch b i).startItems b

end Sys2Proof.Machine
end

