-- ==== Sys2Proof/Machine/Gating.lean ====
section
/-!
DEFINITION. What start-up, resets and gating do to basins (R111, R116, R207, R229 to R231), the units a configuration uses (R111),
and DRAM that commands may not write (R161, R192, R211).
-/
namespace Sys2Proof.Machine

open Sys2Proof

/-! ### Start-up, gating, resets (R111, R116, R207, R229 to R231) -/

/-- Basins active in the role on a variant, before any replacement (R207). -/
def Dev.basinActive (d : Dev) (b : Nat) : Bool := decide (b < d.variant.basins) && (d.isSender || decide (b < 4))

/-- The start-up test of R116: engines and basins that fail are left out; in a tile a spare takes the place of one of 0 to 3. -/
def Dev.startupTest (d : Dev) (engines basins : List Nat) : Dev :=
  let out (b : Nat) : Nat := (List.range 16).foldl (fun m e => if engines.contains (16 * b + e) then m + 2 ^ e else m) 0
  let bad (b : Nat) : Bool := basins.contains b || decide (8 ≤ popCount 16 (out b))
  let init (b : Nat) : Basin :=
    { active := d.basinActive b, passed := !bad b, out := out b, st := if bad b && d.basinActive b then 4 else 0 }
  let d := d.onCompose fun c => { c with basins := (List.range 16).map init, record := 1 }
  let lost := if d.isTile then (List.range 4).filter fun b => bad b && d.basinActive b else []
  let d := lost.foldl (fun d _ =>
    match (List.range d.variant.basins).find? fun c => !(d.basin c).active && (d.basin c).passed with
    | some c => (d.onCompose fun z => { z with basins := modifyNth z.basins c fun y => { y with active := true, replaces := true } }).setReg
        R.KEEP_GATE_RUN (d.reg R.KEEP_GATE_RUN ||| Word.of (2 ^ c))
    | none => d) d
  ((List.range d.variant.basins).foldl (fun d b => d.refreshBasin b) d).refreshInsvc

/-- EV_CAPACITY for each unit of a basin present that the start-up test left out, engines first (R43, R115 step 8). -/
def Dev.startupEvents (d : Dev) : Dev :=
  let bs := List.range d.variant.basins
  let engines := bs.flatMap fun b => ((List.range 16).filter (d.basin b).out.testBit).map fun e => 16 * b + e
  let d := engines.foldl (fun d g => d.eventCapacity 1 g .warning) d
  (bs.filter fun b => !(d.basin b).passed).foldl (fun d b => d.eventCapacity 2 b .warning) d

/-- Active basins that are not retired begin to load (R230).
DEDUCED (unsafe): log 57. -/
def Dev.loadBasins (d : Dev) : Dev :=
  (List.range 16).foldl (fun d b =>
    let x := d.basin b
    if x.active && x.st != 4 then d.onBasin b fun x =>
      { x with st := if (d.reg R.KEEP_GATE_RUN).getLsbD b then 2 else 1, epoch := 0, set := [], blocks := [], next := none }
    else d) d

/-- After a device reset: the library in use is shown, the basins load (R208, R230).
DEDUCED (unsafe): log 57. -/
def Dev.composeBoot (d : Dev) : Dev :=
  let lib := (d.img.running.find? fun r => r.1 == 2).map fun r => (nth (nth d.images 2 {}).slots r.2 {}).words
  let d := match lib with
    | some ws => d.setAll [(F.COMPOSE_KLIB_VERSION, Word.field (nth ws 1 0) 32 32), (F.COMPOSE_KLIB_KERNELS, libraryKernels)]
    | none => d
  let d := d.onCompose fun c => { c with saddle := d.saddleCycles, parcels := (List.range 4).map d.frameParcels }
  (d.loadBasins.setAll [(F.COMPOSE_SLOT_STAT_Q, d.slotQ), (F.COMPOSE_SADDLE_S_US, ceilDiv d.saddleCycles 400)]).refreshKload

/-- A COMPOSE region reset (R33, R114, R201): frames not complete are aborted, or at a tile count as late, so that it keeps its
previous one; items end; engines and basins retired stay so. A latch whose window has not opened is noted, to be made again.
DEDUCED (unsafe): log 129. -/
def Dev.composeReset (d : Dev) : Dev :=
  let d := d.abortAll 4
  let d : Dev := match d.lamp.cor with
    | some c => { d with lamp := { d.lamp with causes := (c.n, 4) :: d.lamp.causes.take 31 } }
    | none => d
  let d := d.onCompose fun c => { c with
    waiting := [], failed := [], next := none, cur := none, relatch := c.next.map (·.frame)
    basins := c.basins.map fun b => { b with queue := [], running := [], suspect := 0, faults := [] }
    rects := List.replicate 16 {} }
  let lib := (d.img.running.find? fun r => r.1 == 2).map fun r => (nth (nth d.images 2 {}).slots r.2 {}).words
  let d := match lib with
    | some ws => d.setAll [(F.COMPOSE_KLIB_VERSION, Word.field (nth ws 1 0) 32 32), (F.COMPOSE_KLIB_KERNELS, libraryKernels)]
    | none => d
  let d := (List.range 16).foldl (fun d b => if (d.basin b).active then d.refreshBasin b else d) d
  let d := (List.range 17).foldl (fun d j => if d.compose.blocks.any (fun b => b.1 == j) then d.set (F.COMPOSE_KSTAGE_STAT_ACTIVE j) 1 else d) d
  (d.setAll [(F.COMPOSE_SLOT_STAT_Q, d.slotQ), (F.COMPOSE_SADDLE_S_US, ceilDiv d.compose.saddle 400)]).refreshKload

/-- A basin is gated: items in it move (R230), nothing is retained. -/
def Dev.gateBasin (d : Dev) (b : Nat) : Dev :=
  let x := d.basin b
  let items := x.running.map (·.2) ++ x.queue
  let d := d.onBasin b fun x => { x with st := 1, queue := [], running := [], epoch := 0, set := [], blocks := [], next := none }
  items.foldl (fun d i => d.redispatch b i) d

/-- Basins whose RUN bit is clear are gated at a latch (R229). -/
def Dev.gateLatch (d : Dev) : Dev :=
  (List.range 16).foldl (fun d b =>
    let x := d.basin b
    if x.active && (x.st == 3 || x.st == 2) && !(d.reg R.KEEP_GATE_RUN).getLsbD b then d.gateBasin b else d) d

/-- Units whose RUN bit was set start, and basins reload before they take work (R17, R111, R230). -/
def Dev.gateStarted (d : Dev) (old new : Word) : Dev :=
  (List.range 16).foldl (fun d b =>
    let x := d.basin b
    if new.getLsbD b && !old.getLsbD b && x.active && x.st == 1 then d.onBasin b fun x => { x with st := 2 } else d) d

/-! ### Protected DRAM -/

/-- Where a stage slot's parameter block lies, as (address, bytes). -/
def Dev.blockArea (d : Dev) (j : Nat) : Nat × Nat := (d.get (F.COMPOSE_KSTAGE_PARAM_ADDR j), 8 * d.get (F.COMPOSE_KSTAGE_PARAM_WORDS j))

/-- Areas of parameter blocks that are yet to be copied (R211): those of commits that have still to latch them, and those no latch
could copy. -/
def Dev.blockAreas (d : Dev) : List (Nat × Nat) :=
  (d.commits.flatMap fun c =>
    let v : Dev := { d with regs := c.left.foldl (fun m e => putWord e.1 e.2 m) d.regs }
    ((List.range 17).filter fun j => decide (0 < j) && c.left.any (fun e => e.1 == R.COMPOSE_KSTAGE_CFG j || e.1 == R.COMPOSE_KSTAGE_PARAM j)).map
      v.blockArea) ++
  d.compose.stale.map d.blockArea

/-- DRAM that commands may not write: frames shown or about to be (R161, R192), parameter blocks of pending commits (R211),
as DETAIL 0x0303. -/
def Dev.displayed (d : Dev) (a len : Nat) : Bool :=
  d.displayedFrames a len || (d.compose.reading.any fun x => meets (a, len) (x.1, x.2.1)) || d.blockAreas.any fun x => meets (a, len) x

end Sys2Proof.Machine
end

