-- ==== Sys2Proof/Machine/LaneCode.lean ====
section
/-!
DEFINITION. Lane programs: the twelve instructions and their words (R377), the body's descriptor (R376), and the rules an image
must keep to be activated (R380).
-/
namespace Sys2Proof.Machine

open Sys2Proof

/-! ### Instructions (R377) -/

/-- A lane program instruction with its operands. SHIFTK holds the number of cycles N, not the field N - 1. -/
inductive LaneOp where
  | nop
  | shift (n : Nat)
  | shiftk (k n : Nat)
  | pins (lat blk : Bool) (mask : Nat) (clken : Bool) (h : Nat)
  | wait (event : Nat)
  | tpulse (pin : Nat) (level : Bool) (offset width : Nat)
  | setc (c value : Nat)
  | loop (c target : Nat)
  | jump (target : Nat)
  | gclk (div : Nat)
  | rdiag (n : Nat)
  | stop
  deriving DecidableEq, Repr

/-- The operands fit their fields. -/
def LaneOp.wf : LaneOp → Bool
  | .nop | .stop => true
  | .shift n => decide (n < 2 ^ 20)
  | .shiftk k n => decide (k < 2 ^ 16) && decide (1 ≤ n) && decide (n ≤ 16)
  | .pins _ _ m _ h => decide (m < 4) && decide (h < 2 ^ 20)
  | .wait e => decide (e < 8)
  | .tpulse p _ o w => decide (p < 2) && decide (o < 2 ^ 16) && decide (w < 2 ^ 9)
  | .setc c v => decide (c < 4) && decide (v < 2 ^ 20)
  | .loop c t => decide (c < 4) && decide (t < 2 ^ 12)
  | .jump t => decide (t < 2 ^ 12)
  | .gclk x => decide (x < 2 ^ 8)
  | .rdiag n => decide (n < 2 ^ 20)

/-- The 32-bit word of an instruction: the opcode in [31:27]. -/
def LaneOp.encode : LaneOp → Nat
  | .nop => 0
  | .shift n => 0x01 * 2 ^ 27 + n % 2 ^ 20
  | .shiftk k n => 0x02 * 2 ^ 27 + k % 2 ^ 16 + (n - 1) % 16 * 2 ^ 16
  | .pins lat blk m c h => 0x03 * 2 ^ 27 + lat.toNat + blk.toNat * 2 + m % 4 * 4 + c.toNat * 16 + h % 2 ^ 20 * 32
  | .wait e => 0x04 * 2 ^ 27 + e % 8
  | .tpulse p l o w => 0x05 * 2 ^ 27 + p % 2 + l.toNat * 2 + o % 2 ^ 16 * 4 + w % 2 ^ 9 * 2 ^ 18
  | .setc c v => 0x06 * 2 ^ 27 + c % 4 + v % 2 ^ 20 * 4
  | .loop c t => 0x07 * 2 ^ 27 + c % 4 + t % 2 ^ 12 * 4
  | .jump t => 0x08 * 2 ^ 27 + t % 2 ^ 12
  | .gclk x => 0x09 * 2 ^ 27 + x % 2 ^ 8
  | .rdiag n => 0x0A * 2 ^ 27 + n % 2 ^ 20
  | .stop => 0x0B * 2 ^ 27

/-- The instruction of a word: none for an opcode outside 0x00 to 0x0B (R380). -/
def LaneOp.decode (w : Nat) : Option LaneOp :=
  match bitsOf w 27 5 with
  | 0x00 => some .nop
  | 0x01 => some (.shift (bitsOf w 0 20))
  | 0x02 => some (.shiftk (bitsOf w 0 16) (bitsOf w 16 4 + 1))
  | 0x03 => some (.pins (bitsOf w 0 1 == 1) (bitsOf w 1 1 == 1) (bitsOf w 2 2) (bitsOf w 4 1 == 1) (bitsOf w 5 20))
  | 0x04 => some (.wait (bitsOf w 0 3))
  | 0x05 => some (.tpulse (bitsOf w 0 1) (bitsOf w 1 1 == 1) (bitsOf w 2 16) (bitsOf w 18 9))
  | 0x06 => some (.setc (bitsOf w 0 2) (bitsOf w 2 20))
  | 0x07 => some (.loop (bitsOf w 0 2) (bitsOf w 2 12))
  | 0x08 => some (.jump (bitsOf w 0 12))
  | 0x09 => some (.gclk (bitsOf w 0 8))
  | 0x0A => some (.rdiag (bitsOf w 0 20))
  | 0x0B => some .stop
  | _ => none

/-- Lane clock cycles an instruction takes (R378); a WAIT takes none of its own beyond the wait. -/
def LaneOp.cycles : LaneOp → Nat
  | .shift n | .rdiag n => n
  | .shiftk _ n => n
  | .pins _ _ _ _ h => h
  | .wait _ => 0
  | _ => 1

/-! ### The descriptor (R376) -/

/-- A lane group's rectangle, lanes and clock divider (R375, R376). -/
structure LaneGroup where
  gx : Nat := 0
  gy : Nat := 0
  gw : Nat := 0
  gh : Nat := 0
  lanes : Nat := 0
  div : Nat := 0
  deriving DecidableEq, Repr

/-- The body of a lane program. -/
structure LaneProg where
  magic : Nat
  format : Nat
  count : Nat
  fmax : Nat
  bits : Nat
  banks : Nat
  overhead : Nat
  lines : Nat
  decoder : Bool
  scanPol : Bool
  lineBlank : Nat
  dead : Nat
  disch : Nat
  proofNs : Nat
  rb : Bool
  eUpload : Nat
  eSwap : Nat
  eProof : Nat
  eInit : Nat
  order : Nat
  colDesc : Bool
  groups : List LaneGroup
  code : List Nat
  deriving DecidableEq, Repr

/-- Reads a body. -/
def laneProg (b : List Word) : LaneProg :=
  let f (i lo width : Nat) : Nat := Word.field (nth b i 0) lo width
  let group (g : Nat) : LaneGroup :=
    { gx := f (5 + g) 0 12, gy := f (5 + g) 12 12, gw := f (5 + g) 24 12, gh := f (5 + g) 36 12, lanes := f (5 + g) 48 3
      div := f (5 + g) 51 8 }
  { magic := f 0 0 32, format := f 0 32 16, count := f 0 48 12
    fmax := f 1 0 16, bits := f 1 16 8, banks := f 1 24 2, overhead := f 1 32 32
    lines := f 2 0 7, decoder := f 2 7 1 == 1, scanPol := f 2 8 1 == 1, lineBlank := f 2 16 16, dead := f 2 32 16, disch := f 2 48 16
    proofNs := f 3 0 16, rb := f 3 16 1 == 1, eUpload := f 3 24 12, eSwap := f 3 36 12, eProof := f 3 48 12
    eInit := f 4 0 12, order := f 4 12 4, colDesc := f 4 16 1 == 1
    groups := (List.range 16).map group
    code := (List.range (f 0 48 12)).map fun i => f (21 + i / 2) (32 * (i % 2)) 32 }

/-- The emitters of an order, as 0 R, 1 G, 2 B, 3 W. -/
def emitOrder : Nat → List Nat
  | 0 => [0, 1, 2] | 1 => [0, 2, 1] | 2 => [1, 0, 2] | 3 => [1, 2, 0] | 4 => [2, 0, 1] | 5 => [2, 1, 0] | 6 => [0, 1, 2, 3]
  | 7 => [3, 0, 1, 2] | _ => []

def LaneProg.emitters (p : LaneProg) : List Nat := emitOrder p.order

/-- Groups in use, with their numbers. -/
def LaneProg.used (p : LaneProg) : List (Nat × LaneGroup) :=
  (List.range 16).filterMap fun g => match p.groups[g]? with
    | some x => if x.lanes = 0 then none else some (g, x)
    | none => none

/-- The groups in use, one bit each. -/
def LaneProg.groupMask (p : LaneProg) : Nat := p.used.foldl (fun m x => m + 2 ^ x.1) 0

def LaneGroup.meets (a b : LaneGroup) : Bool :=
  decide (a.gx < b.gx + b.gw) && decide (b.gx < a.gx + a.gw) && decide (a.gy < b.gy + b.gh) && decide (b.gy < a.gy + a.gh)

/-- Two groups of a list overlap. -/
def groupsOverlap : List LaneGroup → Bool
  | [] => false
  | g :: gs => gs.any g.meets || groupsOverlap gs

/-- The groups in use cover exactly a rectangle of lamps at the origin (R381): inside it, apart, and of its area. -/
def LaneProg.covers (p : LaneProg) (w h : Nat) : Bool :=
  let gs : List LaneGroup := p.used.map (·.2)
  (gs.all fun g => decide (g.gx + g.gw ≤ w) && decide (g.gy + g.gh ≤ h)) && !groupsOverlap gs &&
  (gs.map fun g => g.gw * g.gh).foldl (· + ·) 0 == w * h

/-- The lamp's lane bits each emitter takes (R375). -/
def LaneProg.fieldBits (p : LaneProg) : Nat := if p.emitters.isEmpty then 0 else p.bits / p.emitters.length

/-! ### The rules of activation (R380) -/

/-- Bits of the descriptor that no table row names are 0.
DEDUCED (unsafe): log 91. -/
def laneReservedOk (b : List Word) : Bool :=
  let z (i lo width : Nat) : Bool := Word.field (nth b i 0) lo width == 0
  z 0 60 4 && z 1 26 6 && z 2 9 7 && z 3 17 7 && z 3 60 4 && z 4 17 47 && (List.range 16).all fun g => z (5 + g) 59 5

/-- The targets of a branch. -/
def LaneOp.target? : LaneOp → Option Nat
  | .loop _ t | .jump t => some t
  | _ => none

/-- A word of code keeps R380's rules on opcodes, WAIT events and branch targets.
DEDUCED (unsafe): log 91. -/
def laneWordOk (count w : Nat) : Bool :=
  match LaneOp.decode w with
  | none => false
  | some (.wait e) => e != 7
  | some o => match o.target? with
    | some t => decide (t < count)
    | none => true

/-- Why activation of a lane program is refused: the DETAIL of the first rule broken, in the table's order.
DEDUCED (unsafe): log 91. -/
def lprogCheck (b : List Word) (bytes : Nat) : Option Nat :=
  let p := laneProg b
  let gs : List LaneGroup := p.used.map (·.2)
  let e := p.emitters.length
  if p.magic != 0x4C50524F || p.format != 1 || !laneReservedOk b || p.count == 0 || e == 0 || ceilDiv bytes 8 != 21 + (p.count + 1) / 2 then
    some 0x0460
  else if !(p.code.all (laneWordOk p.count)) || [p.eUpload, p.eSwap, p.eProof, p.eInit].any (fun t => decide (p.count ≤ t)) then some 0x0461
  else if gs.any (fun g => g.gh != g.lanes * p.lines || decide (g.div < 4) || decide (4095 < g.gx + g.gw) || decide (4095 < g.gy + g.gh)) then
    some 0x0462
  else if groupsOverlap gs then some 0x0463
  else if (decide (32 < p.lines) && !p.decoder) || decide (64 < p.lines) then some 0x0464
  else if p.lineBlank < 2 * p.dead + p.disch + 50 then some 0x0465
  else if p.bits % e != 0 || p.bits < 8 || 64 < p.bits || p.fmax == 0 || (p.banks != 1 && p.banks != 2) then some 0x0466
  else if p.eUpload == 0 || p.eSwap == 0 || (p.eProof == 0 && p.proofNs != 0) then some 0x0467
  else none

end Sys2Proof.Machine
end

