-- ==== Sys2Proof/Machine/LampOps.lean ====
section
/-!
DEFINITION. Operations of the lamp side that other chapters use (ch. 12 to ch. 14): its events, tables and services, rails and
trims, the ledger and the lamp map, and what a tile loads from flash at start-up.
-/
namespace Sys2Proof.Machine

open Sys2Proof

def Dev.onLamp (d : Dev) (f : Lamp → Lamp) : Dev := { d with lamp := f d.lamp }
def Dev.onPhoto (d : Dev) (f : Photo → Photo) : Dev := { d with photo := f d.photo }
def Dev.onFlash (d : Dev) (f : Flash → Flash) : Dev := { d with flash := f d.flash }
def Dev.onGroup (d : Dev) (g : Nat) (f : Group → Group) : Dev := d.onLamp fun l => { l with groups := modifyNth l.groups g f }
def Dev.onRail (d : Dev) (n : Nat) (f : Rail → Rail) : Dev := d.onLamp fun l => { l with rails := modifyNth l.rails n f }
def Dev.group (d : Dev) (g : Nat) : Group := nth d.lamp.groups g {}
def Dev.rail (d : Dev) (n : Nat) : Rail := nth d.lamp.rails n {}

/-- The lane program in effect (R381). -/
def Dev.prog (d : Dev) : LaneProg := laneProg d.lamp.prog
def Dev.hasProg (d : Dev) : Bool := !d.lamp.prog.isEmpty

/-- The tile's size, from the header class held (R366). -/
def Dev.tileW (d : Dev) : Nat := hdrWidth d.lamp.held
def Dev.tileH (d : Dev) : Nat := hdrHeight d.lamp.held
/-- Here:
DEDUCED (unsafe): log 82. -/
def Dev.tileN (d : Dev) : Nat := d.tileW * d.tileH

/-! ### Events (R370, R411, R429) -/

/-- EV_LAMP (R411). -/
def Dev.eventLamp (d : Dev) (status cause idx lamp ems fault figure : Nat) (sev : Severity) : Dev :=
  d.event .lamp sev [d.reg status, Word.pack [(0, 8, cause), (8, 7, idx), (16, 21, lamp), (37, 4, ems), (41, 7, fault)], Word.of figure]

/-- EV_TILE of this chapter, with LAMP_COR_STAT or LAMP_LEDGER_STAT in word 2 (R370). -/
def Dev.eventTile (d : Dev) (status cause detail secs : Nat) (sev : Severity) : Dev :=
  d.event .tile sev [d.reg status,
    Word.pack [(0, 8, cause), (8, 7, d.get F.LINK_TILE_STAT_POSITION), (16, 16, detail), (32, 32, secs)],
    d.reg R.KEEP_UID_LO, d.reg R.KEEP_UID_HI]

/-- EV_CAL (R429). -/
def Dev.eventCal (d : Dev) (cause mask result worst : Nat) (sev : Severity) : Dev :=
  d.event .cal sev [d.reg R.LAMP_CAL_STAT, Word.pack [(0, 8, cause), (8, 8, mask), (16, 8, result)], Word.of worst]

/-! ### Light and dark -/

/-- The tile shows light: awake, rails on, a frame or the locate pattern on the lamps, nothing that blanks all of it.
DEDUCED (unsafe): log 84. -/
def Dev.lampsLit (d : Dev) : Bool :=
  d.isTile && d.boot == .up && !d.safe.blank &&
  ((d.lamp.locate.isSome && d.hasProg) ||
    (!d.bit F.LAMP_DRV_STAT_LPROG_MISMATCH && d.lamp.shown.isSome && !d.flash.dark && !d.lamp.frozen && !d.lamp.blank))

/-- Lit time in ps: diagnosis timers pause while the lamps are dark (R412). -/
def Dev.litNow (d : Dev) : Nat := d.now - d.lamp.darkSum - (match d.lamp.darkAt with
  | some t => d.now - t
  | none => 0)

/-- The account of dark time follows the lamps. -/
def Dev.refreshLit (d : Dev) : Dev :=
  match d.lampsLit, d.lamp.darkAt with
  | true, some t => d.onLamp fun l => { l with darkAt := none, darkSum := l.darkSum + (d.now - t) }
  | false, none => d.onLamp fun l => { l with darkAt := some d.now }
  | _, _ => d

/-! ### Service and tables (R365, R381) -/

/-- LPROG_MISMATCH follows the program in effect and the header class held (R381). -/
def Dev.refreshMismatch (d : Dev) : Dev :=
  if d.isTile then d.setBit F.LAMP_DRV_STAT_LPROG_MISMATCH (!(d.hasProg && decide (0 < d.tileN) && d.prog.covers d.tileW d.tileH)) else d

/-- WHY_TABLES follows what is loaded (R119, R365, R381, R462, R463). -/
def Dev.refreshWhyTables (d : Dev) : Dev :=
  let d := d.refreshMismatch
  let why :=
    if d.isTile then
      [tcHeader, tcCoef, tcCurves, tcAge, tcSeam].any (fun c => !holdsClass d.lamp.held c) || d.bit F.LAMP_DRV_STAT_LPROG_MISMATCH
    else [icConfig, icLayout, icSafety].any fun c => d.img.missing.contains c
  d.setBit F.KEEP_SVC_STAT_WHY_TABLES (why || d.img.badPolicy)

/-- LAMP_TBL_INFO follows the classes held. -/
def Dev.refreshTableInfo (d : Dev) : Dev :=
  let h := d.lamp.held
  d.setAll [(F.LAMP_TBL_INFO_WIDTH, hdrWidth h), (F.LAMP_TBL_INFO_HEIGHT, hdrHeight h), (F.LAMP_TBL_INFO_W_EN, (hdrWEn h).toNat),
    (F.LAMP_TBL_INFO_ZONES, hdrZones h),
    (F.LAMP_TBL_INFO_CLASSES, (List.range 6).foldl (fun m i => if holdsClass h (i + 1) then m + 2 ^ i else m) 0)]

/-- A rebuild of the working table is asked for (R344). -/
def Dev.askRebuild (d : Dev) : Dev :=
  if holdsClass d.lamp.held tcCoef then d.onLamp fun l => { l with rebuild := if l.rebuild = 0 then 1 else 2 } else d

/-- The map's count, and a change of it: MAP_STAT and a rebuild (R344, R361). -/
def Dev.mapChanged (d : Dev) : Dev := (d.set F.LAMP_MAP_STAT_ENTRIES d.flash.map.length).askRebuild

/-- Emitters of a lamp are no longer due for proof, nor unverified (R400).
DEDUCED (unsafe): log 95. -/
def Dev.neverDue (d : Dev) (lamp ems : Nat) : Dev :=
  let out (v : Nat × Nat) : Bool := v.1 / 4 == lamp && ems.testBit (v.1 % 4)
  d.onLamp fun l => { l with due := l.due.filter fun v => !out v, unverified := l.unverified.filter fun v => !out v }

/-- An emitter is entered in the lamp map (R361); the answer says whether it went in.
DEDUCED (unsafe): log 95. -/
def Dev.enterMap (d : Dev) (lamp ems cause : Nat) : Dev × Bool :=
  if d.flash.map.any fun w => mapLamp w == lamp then
    let m := d.flash.map.map fun w => if mapLamp w = lamp then w ||| Word.of (ems * 2 ^ 21) else w
    (((d.onFlash fun f => { f with map := m }).neverDue lamp ems).mapChanged, true)
  else if 4096 ≤ d.flash.map.length then
    ((d.raiseFlag F.LAMP_COR_STAT_MAP_FULL).eventTile R.LAMP_COR_STAT 0x0C 0 0 .fault, false)
  else
    let w := Word.pack [(0, 21, lamp), (21, 4, ems), (25, 7, cause), (32, 32, d.wallS % 2 ^ 32)]
    (((d.onFlash fun f => { f with map := f.map ++ [w] }).neverDue lamp ems).mapChanged, true)

/-! ### Faults of diagnosis -/

/-- UNVERIFIED and COVER_PERMILLE follow the visits (R403). -/
def Dev.refreshCover (d : Dev) : Dev :=
  let n := d.tileN
  let ems := d.prog.emitters
  let all := (n * ems.length) - (d.flash.map.map fun w => popCount 4 (mapEmitters w)).foldl (· + ·) 0
  let dt := d.get F.LAMP_FAULT_CFG_DT_S * sPs
  let good := (d.lamp.visits.filter fun v => decide (d.litNow ≤ v.2 + dt) && !inMap d.flash.map (v.1 / 4) (v.1 % 4)).length
  d.setAll [(F.LAMP_DIAG_CNT_UNVERIFIED, d.lamp.unverified.length),
    (F.LAMP_DIAG_CNT_COVER_PERMILLE, if all = 0 then 0 else min 1000 (good * 1000 / all))]

/-- Emitters that are due where no proof can reach them are unverified (R403).
DEDUCED (unsafe): log 95. -/
def Dev.noteUnproven (d : Dev) : Dev :=
  if d.bit F.LAMP_FAULT_CFG_PROOF_EN && d.prog.proofNs != 0 && d.prog.rb then d
  else d.onLamp fun l => { l with
    unverified := ((l.due.filter fun v => !l.unverified.any fun u => u.1 == v.1).map fun v => (v.1, d.litNow)) ++ l.unverified }

/-- A calibration run's end, with its result (R428). -/
def Dev.calEnd (d : Dev) (result : Nat) : Dev := d.setAll [(F.LAMP_CAL_STAT_STATE, 0), (F.LAMP_CAL_STAT_LAST_RESULT, result)]

/-- A calibration run under way is cut off (R428): earlier results stay.
DEDUCED (unsafe): log 100. -/
def Dev.calAbandon (d : Dev) : Dev :=
  match d.photo.run with
  | none => d
  | some r =>
    let d := d.onPhoto fun p => { p with run := none, inputs := List.replicate 8 {}, endedAt := some d.now }
    let d := (List.range 8).foldl (fun d i => d.set (F.LAMP_PHOTO_VAL_STALE i) 0) d
    let d := d.onFlash fun f => { f with rejects := satTo 65535 (f.rejects + popCount 8 r.mask) }
    let d := ((d.calEnd 5).raiseFlag F.LAMP_CAL_STAT_ABANDONED).set F.LAMP_CAL_INFO_REJECTS d.flash.rejects
    d.eventCal 0x06 r.mask 5 0 .info

/-- The tile latches dark (R405): in flash, and a calibration run ends. -/
def Dev.latchDark (d : Dev) (wall : Bool) : Dev :=
  let d := if d.flash.dark then d else
    (((d.onFlash fun f => { f with dark := true }).set F.LAMP_DIAG_STAT_LATCHED 1).eventLamp R.LAMP_DIAG_STAT 0x09 0 0 0 0 0 .fault).calAbandon
  (if wall then d.eventLamp R.LAMP_DIAG_STAT 0x0A 0 0 0 0 0 .fault else d).refreshLit

/-! ### Rails (R390 to R394) -/

def Dev.railMode (d : Dev) (n : Nat) : Nat := d.get (F.LAMP_RAIL_CFG_MODE n)
def Dev.railState (d : Dev) (n : Nat) : Nat := d.get (F.LAMP_RAIL_STAT_STATE n)

abbrev rsOff : Nat := 0
abbrev rsStarting : Nat := 1
abbrev rsGood : Nat := 2
abbrev rsWait : Nat := 3
abbrev rsLatched : Nat := 4

/-- Rails with a mode. -/
def Dev.usedRails (d : Dev) : List Nat := (List.range 12).filter fun n => d.railMode n != 0

/-- Every rail with MODE ≠ OFF is good (R391, R410). -/
def Dev.railsGood (d : Dev) : Bool := d.usedRails.all fun n => d.railState n == rsGood

/-- A rail is off: RAILn_DRV and RAILn_EN low, no reference. -/
def Dev.railOff (d : Dev) (n st : Nat) : Dev :=
  (d.setAll [(F.LAMP_RAIL_STAT_STATE n, st), (F.LAMP_RAIL_STAT_REF n, 0)]).onRail n fun r => { r with ramp := none }

/-- A rail starts: its reference ramps from 0 over SOFT (R391). -/
def Dev.railStart (d : Dev) (n : Nat) : Dev :=
  (d.setAll [(F.LAMP_RAIL_STAT_STATE n, rsStarting), (F.LAMP_RAIL_STAT_REF n, 0)]).onRail n fun r => { r with
    ramp := some (d.now, 0, d.get (F.LAMP_RAIL_CFG_TARGET n), d.get (F.LAMP_RAIL_CFG_SOFT n) * 100 * usPs), calm := 0, pinned := 0 }

/-- The references of ramps under way at this time; a TARGET written while the rail started is slewed to from the ramp's end (R391,
R394).
DESIGN CHOICE (unsafe): log 1.
DEDUCED (unsafe): log 94. -/
def Dev.railTick (d : Dev) : Dev :=
  (List.range 12).foldl (fun d n =>
    match (d.rail n).ramp with
    | none => d
    | some (t, a, b, len) =>
      let e := d.now - t
      let goal := d.get (F.LAMP_RAIL_CFG_TARGET n)
      if len ≤ e then (d.set (F.LAMP_RAIL_STAT_REF n) b).onRail n fun r => { r with
        ramp := if goal = b then none else some (d.now, b, goal, (if b ≤ goal then goal - b else b - goal) * 10 * usPs) }
      else d.set (F.LAMP_RAIL_STAT_REF n) (if a ≤ b then a + (b - a) * e / len else a - (a - b) * e / len)) d

/-- The hardware path of R393 and R438: every LGg_BLK high, scan off, rails cut, trims at 0 µA.
DEDUCED (unsafe): log 94. -/
def Dev.lampsCut (d : Dev) : Dev :=
  let d := d.onSafe fun x => { x with blank := true }
  if d.isTile then
    let d := (List.range 12).foldl (fun d n => if d.railState n = rsLatched then d else d.railOff n rsOff) d
    (d.onLamp fun l => { l with line := none, slot := none, seqBlank := true }).refreshLit
  else d

/-- SLEEP begins for the lamps (R118, R412): they go dark, and stay so until a complete frame after the wake. -/
def Dev.lampsAsleep (d : Dev) : Dev :=
  (((d.onSafe fun x => { x with blank := true }).onLamp fun l => { l with
    next := none, cor := none, ready := none, shown := none, old := none, locate := none, locateNext := none, line := none, slot := none
    seqBlank := true, repeating := false, groups := l.groups.map fun g => { g with routine := 0, up := none, on := none, owed := none } }).refreshLit)

/-! ### The ledger -/

/-- A ledger mark (R358). -/
def Dev.ledgerMark (d : Dev) : Dev :=
  if d.isTile then d.onFlash fun f => { f with marks := (d.wallS, d.get F.LAMP_LEDGER_STAT_EPOCH) :: f.marks.take 1023 } else d

/-- The save a start-up loads: the newest whose CRC passes (R360).
DEDUCED (unsafe): log 88. -/
def Flash.newestSave (f : Flash) : Option (List Word) :=
  match (f.ledgers.filter saveOk) with
  | [] => none
  | [a] => some a
  | a :: b :: _ => some (if saveStart a < saveStart b || (saveStart a == saveStart b && decide (saveEpoch a < saveEpoch b)) then b else a)

/-- The ledger at start-up (R360). -/
def Dev.ledgerBoot (d : Dev) : Dev :=
  match d.flash.newestSave with
  | none => (d.raiseFlag F.LAMP_LEDGER_STAT_NO_LEDGER).eventTile R.LAMP_LEDGER_STAT 0x0A 0 0 .warning
  | some ws =>
    let iv := saveInterval ws d.flash.marks
    let l := saveLedger ws (iv.getD 0)
    let d := d.onLamp fun z => { z with ledger := l, lastSaved := saveLedger ws 0, lastStart := some (saveStart ws) }
    let d := d.setAll [(F.LAMP_LEDGER_STAT_EPOCH, saveEpoch ws), (F.LAMP_LEDGER_TIME_SAVED_S, saveStart ws)]
    match iv with
    | none => d
    | some s => (d.raiseFlag F.LAMP_LEDGER_STAT_ESTIMATED).eventTile R.LAMP_LEDGER_STAT 0x0B 0 s .info

/-! ### Start-up -/

/-- C_e as LAMP_PHOTO_FB shows it: 2.14, rounded half up. -/
def rat14 (r : Rat) : Nat := ((r * 32768 + 1) / 2).floor.toNat

/-- The factors of colour feedback in force at the converters and in LAMP_COR_GAIN are recomputed from flash at start-up. -/
def Dev.photoBoot (d : Dev) : Dev :=
  let f := d.flash
  let d := (List.range 8).foldl (fun d i =>
    (d.setReg (R.LAMP_PHOTO_K i) (nth f.photoK i 0)).set (F.LAMP_PHOTO_VAL_CAL_OK i) (f.calOk.testBit i).toNat) d
  let d := (List.range 12).foldl (fun d n => d.setInt (F.LAMP_HKA_RAIL_OFS n) (nth f.offsets n 0)) d
  let c (e : Nat) : Nat := rat14 (nth f.factors e 1)
  (d.setReg R.LAMP_CAL_TZ f.calTz |>.setReg R.LAMP_CAL_TIME f.calTime).setAll
    [(F.LAMP_CAL_INFO_RUNS, f.runs), (F.LAMP_CAL_INFO_REJECTS, f.rejects), (F.LAMP_PHOTO_FB_C_R, c 0), (F.LAMP_PHOTO_FB_C_G, c 1),
     (F.LAMP_PHOTO_FB_C_B, c 2), (F.LAMP_PHOTO_FB_C_W, c 3)]

/-- LAMP_LPROG_INFO (R381). -/
def Dev.refreshProgInfo (d : Dev) : Dev :=
  if d.hasProg then
    let p := d.prog
    d.setAll [(F.LAMP_LPROG_INFO_LINES, p.lines), (F.LAMP_LPROG_INFO_DECODER, p.decoder.toNat), (F.LAMP_LPROG_INFO_BANKS, p.banks),
      (F.LAMP_LPROG_INFO_BITS, p.bits), (F.LAMP_LPROG_INFO_RB, p.rb.toNat), (F.LAMP_LPROG_INFO_PROOF, (p.proofNs != 0).toNat),
      (F.LAMP_LPROG_INFO_F_MAX, p.fmax), (F.LAMP_LPROG_INFO_GROUPS, p.groupMask)]
  else d

/-- What a tile takes from flash at start-up: the lane program, the lamp map and dark latch, the ledger, photometry (R360, R361,
R371, R381, R405, R426). Its tables follow when they are loaded (R468). -/
def Dev.lampBoot (d : Dev) : Dev :=
  if !d.isTile then d
  else
    let body := ((d.img.running.find? fun r => r.1 == icLprog).map fun r => bodyWords ((d.cls icLprog).slot r.2).words).getD []
    let tbl := d.cls icTables
    let epoch := (tbl.active.map fun a => imgEpoch (tbl.slot a).words).getD 0
    let d := d.onLamp fun l => { l with prog := body, darkAt := some d.now, darkSum := 0 }
    let d := d.setAll [(F.LAMP_MAP_STAT_ENTRIES, d.flash.map.length), (F.LAMP_DIAG_STAT_LATCHED, d.flash.dark.toNat),
      (F.LAMP_TBL_EPOCH_EPOCH, epoch), (F.LAMP_TBL_EPOCH_FLASH_EPOCH, epoch)]
    (d.refreshProgInfo.refreshMismatch).ledgerBoot.photoBoot

/-- Tables loaded from flash are in force, and the working table is rebuilt (R365, R371). -/
def Dev.loadTables (d : Dev) (body : List Word) : Dev :=
  let ts := (caldbRecords body.length body).map fun r => (r.2.2.1, r.2.2.2)
  let d := d.onLamp fun l => { l with held := ts, ledger := if l.ledger.isEmpty then List.replicate (classWords ts tcCoef).length 0 else l.ledger }
  (d.refreshTableInfo.askRebuild).refreshWhyTables

/-! ### Frames -/

/-- A cause for which a frame will not be ready (R364). -/
def Dev.frameCause (d : Dev) (n cause : Nat) : Dev := d.onLamp fun l => { l with causes := (n, cause) :: l.causes.take 31 }

/-- A burst of a tile's frame, coefficient or drive stores came poisoned (R135): that frame is not ready. -/
def Dev.poisonFrame (d : Dev) (frame : Nat) : Dev := d.frameCause frame 6

/-! ### Housekeeping rounds -/

/-- ADJ and EFF's next value of a converter (R395). -/
def Dev.trimAdj (d : Dev) (t : Nat) : Int := (nth d.lamp.trims t {}).temp + (nth d.lamp.trims t {}).fb
def Dev.trimEff (d : Dev) (t : Nat) : Nat := (clampInt 0 4095 ((d.get (F.LAMP_TRIM_CFG_BASE t) : Int) + d.trimAdj t)).toNat

/-- The trim temperature term of a round moves by at most one code; a calibration run freezes it (R395, R422).
DESIGN CHOICE (safe): log 98. -/
def Dev.trimRound (d : Dev) : Dev :=
  if !d.isTile || d.photo.run.isSome then d
  else
    let v := d.getInt (F.KEEP_TSENS_READING 6)
    let d := d.onLamp fun l => { l with trims := (List.range 16).map fun t =>
      let x := nth l.trims t {}
      { x with temp := x.temp + clampInt (-1) 1 (Config.trimTerm t v - x.temp) } }
    (List.range 16).foldl (fun d t => d.setInt (F.LAMP_TRIM_CFG_ADJ t) (d.trimAdj t)) d

/-- The rail channels of a round (R416, R417): RAILn_FB in mV and the shunt voltage in 10 µV, as 16 bits in two's complement. -/
def Dev.railRound (d : Dev) (rails : List (Nat × Nat)) : Dev :=
  if !d.isTile then d
  else
    (List.range (min 12 rails.length)).foldl (fun d n =>
      let x := nth rails n (0, 0)
      (d.set (F.LAMP_HKA_RAIL_V_MV n) x.1).setInt (F.LAMP_HKA_RAIL_ISH n) (signed 16 x.2 - d.getInt (F.LAMP_HKA_RAIL_OFS n))) d

/-! ### Writes of lamp registers -/

/-- The rail a configuration or limit register belongs to. -/
def railOf (a base : Nat) : Option Nat := if base ≤ a && a < base + 12 * 0x20 && (a - base) % 0x20 == 0 then some ((a - base) / 0x20) else none

/-- While a rail is not OFF, its MODE, SEQ and FSW stay (R394). -/
def Dev.railBusy (d : Dev) (n : Nat) (changed : Fld → Bool) : Option (Status × Nat) :=
  if d.railState n != rsOff && [F.LAMP_RAIL_CFG_MODE n, F.LAMP_RAIL_CFG_SEQ n, F.LAMP_RAIL_CFG_FSW n].any changed then some (.state, 0) else none

/-- Why a write of a lamp register is refused, beyond its fields' ranges (R390, R394).
DEDUCED (unsafe): log 94. -/
def Dev.lampRule (d : Dev) (a : Nat) (new : Word) : Option (Status × Nat) :=
  match railOf a (R.LAMP_RAIL_CFG 0), railOf a (R.LAMP_RAIL_LIM 0) with
  | some n, _ =>
    let f (x : Fld) : Nat := Word.field new x.lo x.width
    let t := f (F.LAMP_RAIL_CFG_TARGET n)
    let changed (x : Fld) : Bool := f x != d.get x
    if f (F.LAMP_RAIL_CFG_MODE n) = 2 then (if t < 100 then some (.range, 0) else d.railBusy n changed)
    else if t < 200 || 1200 < t then some (.range, 0)
    else d.railBusy n changed
  | _, some n =>
    let f (x : Fld) : Nat := Word.field new x.lo x.width
    if f (F.LAMP_RAIL_LIM_VMAX_MV n) < f (F.LAMP_RAIL_LIM_VMIN_MV n) then some (.range, 0) else none
  | _, _ => none

/-- Colour feedback's factors go back to 1 (R426): ADJ_col 0 and g_col 0x4000 from a frame on. -/
def Dev.clearFactors (d : Dev) (frame : Nat) : Dev :=
  let d := d.onFlash fun f => { f with factors := [1, 1, 1, 1] }
  let d := d.setAll [(F.LAMP_PHOTO_FB_C_R, 0x4000), (F.LAMP_PHOTO_FB_C_G, 0x4000), (F.LAMP_PHOTO_FB_C_B, 0x4000), (F.LAMP_PHOTO_FB_C_W, 0x4000)]
  d.onPhoto fun p => { p with wait := some (frame, List.replicate 4 0x4000, List.replicate 16 0), waitIn := false }

/-- What follows a write of a lamp register (R361, R394, R405, R426).
DEDUCED (unsafe): log 94. -/
def Dev.lampWritten (d : Dev) (a : Nat) (old value : Word) : Dev :=
  if a = R.LAMP_MAP_CTRL then
    (if value.getLsbD 0 then
      ((d.onFlash fun f => { f with map := [] }).onLamp fun l => { l with counts := [] }).mapChanged
     else d).set F.LAMP_MAP_CTRL_CLEAR 0
  else if a = R.LAMP_FAULT_CTRL then
    (if value.getLsbD 0 then d.onLamp fun l => { l with resume := true } else d).set F.LAMP_FAULT_CTRL_RESUME 0
  else if a = R.LAMP_PHOTO_CTRL then
    (if value.getLsbD 0 then d.clearFactors 0 else d).set F.LAMP_PHOTO_CTRL_FB_CLEAR 0
  else match railOf a (R.LAMP_RAIL_CFG 0) with
    | some n =>
      let t := d.get (F.LAMP_RAIL_CFG_TARGET n)
      let was := Word.field old (F.LAMP_RAIL_CFG_TARGET n).lo (F.LAMP_RAIL_CFG_TARGET n).width
      let r := d.get (F.LAMP_RAIL_STAT_REF n)
      if t = was || (d.railState n != rsGood && (d.railState n != rsStarting || (d.rail n).ramp.isSome)) then d
      else d.onRail n fun x => { x with ramp := some (d.now, r, t, (if r ≤ t then t - r else r - t) * 10 * usPs) }
    | none => d

end Sys2Proof.Machine
end

