-- ==== Sys2Proof/Machine/SlotOps.lean ====
section
/-!
DEFINITION. A tile's slots and lanes: lamp-timing edges, PWM cycles, upload windows (R233 to R250, R382), the grayscale an upload
carries and the walk stream of a lane (R375, R389, R402, R410), the dispatch of lane routines (R379).
-/
namespace Sys2Proof.Machine

open Sys2Proof

/-! ### Times -/

/-- A lamp-timing edge num / den TCLK cycles after the start of frame n, in ps, to the nearest 10 ps (R330). -/
def Dev.lampEdge (d : Dev) (n : Int) (num den : Nat) : Int :=
  let q : Int := (d.tfDen * nsU * den : Nat)
  if q = 0 then 0 else roundInt (d.frameScaled n * 100 * den + ((250 * num * d.tfDen * nsU : Nat) : Int)) q * 10

/-- The TCLK edge nearest to a nominal wall time in ps, counted from the counter's last edge; half way between two, the earlier (R235).
DEDUCED (unsafe): log 72. -/
def Dev.launchEdge (d : Dev) (ps : Int) : Int :=
  let step : Int := 10737418240 + d.time.rate
  let off : Int := ps * (nsU : Int) - 1000 * (d.time.wall : Int)
  let down : Int := (1000 * step - 2 * off) / (2000 * step)
  -- ⌈off / (1000 step) - 1/2⌉
  0 - down

/-- The vernier's setting for a nominal wall time in ps, in 10 ps: 1.25 ns plus the remainder from the launch edge (R330).
DEDUCED (unsafe): log 72. -/
def Dev.vernier (d : Dev) (ps : Int) : Int :=
  let launch : Int := (d.time.wall : Int) + d.launchEdge ps * (10737418240 + d.time.rate)
  125 + roundFree 8 (((ps * (nsU : Int) - 1000 * launch : Int) : Rat) / ((10000 * nsU : Nat) : Rat))

/-- PWM cycles of a slot on this tile: PWM_N, or AUTO from the driver's highest refresh (R247). -/
def Dev.pwmN (d : Dev) (k : Nat) : Nat :=
  let n := d.get (F.COMPOSE_SLOT_CFG_PWM_N k)
  if n != 0 then n else min 63 (d.slotLen k * d.prog.fmax / 400000000)

/-- Length of one PWM cycle is LEN / PWM_N; a visit's on-window T_on, as a fraction of a nanosecond (R382): LEN × 2.5 / (PWM_N × S)
less LINE_BLANK_NS. -/
def Dev.onWindow (d : Dev) (k : Nat) : Int × Nat :=
  let m := d.pwmN k * d.prog.lines
  (((5 * d.slotLen k : Nat) : Int) - (2 * d.prog.lineBlank * m : Nat), 2 * m)

/-- The COMPOSED slot before slot k in cyclic order, and whether it lies in the frame before (R248). -/
def Dev.prevSlot (d : Dev) (k : Nat) : Nat × Bool :=
  match (d.composedSlots.filter fun i => decide (i < k)).getLast? with
  | some j => (j, false)
  | none => ((d.composedSlots.getLast?).getD k, true)

/-- The upload window U_k in TCLK cycles (R248). -/
def Dev.uploadWindow (d : Dev) (k : Nat) : Nat :=
  let j := d.prevSlot k
  let from_ := if d.prog.banks = 2 then d.slotStart j.1 else d.slotEnd j.1
  d.slotStart k + (if j.2 then d.tfCycles else 0) - from_

/-- The upload time of a lane group as a fraction of a nanosecond (R250): O + ⌈L_g × b_l / n_g⌉ bits at f_g × (1 − DEPTH × 0.000625). -/
def Dev.uploadTime (d : Dev) (g : LaneGroup) : Nat × Nat :=
  let bits := ceilDiv (g.gw * g.gh * d.prog.bits) g.lanes
  let den := 1000000 - 625 * d.get F.KEEP_SSC_CFG_DEPTH
  (d.prog.overhead * den + bits * g.div * 1000000, den)

/-! ### Grayscale of an upload -/

/-- GS′ of a grayscale under a scale P (R389). -/
def scaledGs (p gs : Nat) : Nat := roundDiv (gs * p) 0x8000

/-- The frame of the drive store with a number. -/
def Dev.driveOf (d : Dev) (n : Nat) : Option DriveFrame :=
  ([d.lamp.ready, d.lamp.shown, d.lamp.old].filterMap id).find? fun f => f.n == n

/-- The drive word of an emitter in a slot. -/
def DriveFrame.word (f : DriveFrame) (slot j e : Nat) : Nat :=
  match f.slots.find? fun s => s.1 == slot with
  | some s => (nth (nth s.2 j []) e (0, 0)).1
  | none => 0

/-- D_e of an emitter in a slot. -/
def DriveFrame.drive (f : DriveFrame) (slot j e : Nat) : Nat :=
  match f.slots.find? fun s => s.1 == slot with
  | some s => (nth (nth s.2 j []) e (0, 0)).2
  | none => 0

/-- The grayscale of the locate patterns (R410) at a lamp of an area: FLOOD, BORDER, POSITION, BLINK (lit), ORIENT; 5 is dark.
DEDUCED (unsafe): log 84. -/
def locateGs (pattern position w h x y e : Nat) : Nat :=
  let lit (b : Bool) : Nat := if b then 0x1000 else 0
  match pattern with
  | 0 | 3 => 0x1000
  | 1 => lit (e != 3 && (x == 0 || y == 0 || x + 1 == w || y + 1 == h))
  | 2 => if y < h / 8 && 0 < w then lit (e == (if position.testBit (6 - min 6 (x * 7 / w)) then 1 else 0)) else 0
  | 4 =>
    let q := (decide (w ≤ 2 * x)).toNat + 2 * (decide (h ≤ 2 * y)).toNat
    lit (if q = 3 then e != 3 else e == q)
  | _ => 0

/-- The area LOCATE draws on: the tile's, or the groups' own extent where they do not cover it (R381). -/
def Dev.locateArea (d : Dev) : Nat × Nat :=
  if d.bit F.LAMP_DRV_STAT_LPROG_MISMATCH || d.tileN = 0 then
    let gs : List LaneGroup := d.prog.used.map (·.2)
    ((gs.map fun g => g.gx + g.gw).foldl max 0, (gs.map fun g => g.gy + g.gh).foldl max 0)
  else (d.tileW, d.tileH)

/-- GS′ an upload carries for an emitter. -/
def Dev.uploadGs (d : Dev) (u : Upload) (x y e : Nat) : Nat :=
  match u.locate with
  | some p => locateGs p (d.get F.LINK_TILE_STAT_POSITION) d.locateArea.1 d.locateArea.2 x y e
  | none => match d.driveOf u.drive with
    | some f => scaledGs u.scale (driveGs (f.word u.slot (y * d.tileW + x) e))
    | none => 0

/-- The pattern LOCATE shows at a wall time: BLINK is FLOOD for 250 ms and dark for 250 ms (R410). -/
def Dev.locateNow (d : Dev) (ps : Int) : Option Nat :=
  d.lamp.locate.map fun p => if p = 3 && ps / 250000000000 % 2 = 1 then 5 else p

/-- The scale P in force (R389). -/
def Dev.lampScale (d : Dev) : Nat := roundDiv (d.lamp.bright * d.lamp.cap) 0x8000

/-- The frame of the drive store that display of frame n works from: n's own when it is ready, else the one shown (R388). -/
def Dev.driveFor (d : Dev) (n : Nat) : Option DriveFrame :=
  match d.lamp.ready with
  | some f => if f.n = n then some f else d.lamp.shown
  | none => d.lamp.shown

/-- A slot of frame n is lit: COMPOSED and unmasked in the frame that is shown, or lit by LOCATE (R244, R388, R410). -/
def Dev.slotLit (d : Dev) (n slot : Nat) : Bool :=
  d.slotComposed slot &&
  (d.lamp.locate.isSome || match d.driveFor n with
    | some f => f.mask.testBit slot
    | none => false)

/-- The lamps are driven: awake, outside the safe state, a lane program that covers the tile, or LOCATE on one that does not (R381). -/
def Dev.lampsRun (d : Dev) : Bool :=
  d.isTile && d.boot == .up && !d.safe.blank && d.hasProg &&
  (!d.bit F.LAMP_DRV_STAT_LPROG_MISMATCH || d.lamp.locate.isSome)

/-! ### The walk stream (R375, R402) -/

/-- Lamp and emitter of place i of a lane's walk over whole emitters: line, column, emitter; of one line under PROOF. -/
def LaneProg.place (p : LaneProg) (g : LaneGroup) (lane : Nat) (proof : Option Nat) (i : Nat) : Nat × Nat × Nat :=
  let e := p.emitters.length
  let s := match proof with
    | some line => line
    | none => i / (g.gw * e)
  let r := i % (g.gw * e)
  let c := r / e
  (if p.colDesc then g.gx + g.gw - 1 - c else g.gx + c, g.gy + lane * p.lines + s, nth p.emitters (r % e) 0)

/-- Places of a lane's walk. -/
def LaneProg.places (p : LaneProg) (g : LaneGroup) (proof : Option Nat) : Nat :=
  (if proof.isSome then 1 else p.lines) * g.gw * p.emitters.length

/-- An emitter is due for proof (R400). -/
def Dev.isDue (d : Dev) (j e : Nat) : Bool := d.lamp.due.any fun x => x.1 == 4 * j + e

/-- GS of a place of the walk stream of a routine, none where the routine has no stream. -/
def Dev.streamGs (d : Dev) (g : Nat) (x y e : Nat) : Option Nat :=
  let r := d.group g
  match r.routine with
  | 1 => r.up.map fun u => d.uploadGs u x y e
  | 3 => some (if d.isDue (y * d.tileW + x) e then 0xFFFF else 0)
  | _ => none

/-- Bit i of a lane's walk stream (R375).
DESIGN CHOICE (safe): log 92. -/
def Dev.walkBit (d : Dev) (g lane i : Nat) : Bool :=
  let p := d.prog
  let grp := nth p.groups g {}
  let r := d.group g
  let proof := if r.routine = 3 then some r.line else none
  let fb := p.fieldBits
  let free := Config.walkBeyond (d.free * 16 + g) lane i
  if fb = 0 || p.places grp proof * fb ≤ i then free
  else
    let (x, y, e) := p.place grp lane proof (i / fb)
    match d.streamGs g x y e with
    | some gs => decide (i % fb < 16) && gs.testBit (15 - i % fb)
    | none => free

/-! ### Routines (R379) -/

/-- A group is in use. -/
def Dev.groupUsed (d : Dev) (g : Nat) : Bool := d.prog.used.any fun x => x.1 == g
def Dev.groupsUsed (d : Dev) : List Nat := d.prog.used.map (·.1)

/-- Routines as `Group.routine` numbers them. -/
abbrev lrIdle : Nat := 0
abbrev lrUpload : Nat := 1
abbrev lrSwap : Nat := 2
abbrev lrProof : Nat := 3
abbrev lrInit : Nat := 4

/-- Event numbers (R379). -/
abbrev leUpload : Nat := 0
abbrev leSwap : Nat := 1
abbrev leCycle : Nat := 2
abbrev leLine : Nat := 3
abbrev leFrame : Nat := 4
abbrev leProof : Nat := 5
abbrev leInit : Nat := 6

/-- An event of a kind occurs at a nominal wall time: groups that wait for it may return. -/
def Dev.laneEvent (d : Dev) (e : Nat) (t : Int) : Dev :=
  d.onLamp fun l => { l with groups := l.groups.map fun g => if g.waiting == some e && g.woken.isNone then { g with woken := some t } else g }

/-- A group starts a routine at its entry.
DEDUCED (unsafe): log 93. -/
def Dev.startRoutine (d : Dev) (g routine entry : Nat) (t : Int) : Dev :=
  d.onGroup g fun x => { x with
    routine := routine, pc := entry, waiting := none, woken := none, stream := 0, read := 0, cycles := 0, base := t, flags := [] }

/-- UPLOAD of a slot of a frame starts on a group.
DEDUCED (unsafe): log 93. -/
def Dev.startUpload (d : Dev) (g n slot : Nat) (t : Int) : Dev :=
  let u : Upload := ⟨((d.driveFor n).map (·.n)).getD 0, n, slot, d.lampScale, d.locateNow (d.lampEdge n (d.slotStart slot) 1)⟩
  (d.onGroup g fun x => { x with up := some u, diag := x.on, owed := none }).startRoutine g lrUpload d.prog.eUpload t

/-- INIT is raised: idle groups are dispatched where the program has the routine (R379, R391).
DEDUCED (unsafe): log 93. -/
def Dev.raiseInit (d : Dev) : Dev :=
  let t : Int := d.wallPs
  let d := d.laneEvent leInit t
  if d.prog.eInit = 0 || !d.hasProg then d
  else d.groupsUsed.foldl (fun d g => if (d.group g).routine = lrIdle then d.startRoutine g lrInit d.prog.eInit t else d) d

end Sys2Proof.Machine
end

