-- ==== Sys2Proof/Machine/TileLoad.lean ====
section
/-!
DEFINITION. What a tile's lamps and photometric inputs ask of it: its kernel load and uploads, for validation and its registers
(R143, R223, R250, R419).
-/
namespace Sys2Proof.Machine

open Sys2Proof

/-- Words of the PHOTO class (R419). -/
def Dev.photoWords (d : Dev) : List Word := classWords d.lamp.held tcPhoto
def Dev.photoField (d : Dev) (i lo width : Nat) : Nat := Word.field (nth d.photoWords i 0) lo width

/-- Inputs the class enables. -/
def Dev.photoInputs (d : Dev) : List Nat := (List.range 8).filter fun i => d.photoField (520 * i) 48 1 == 1

/-- The lamps of an input's footprint with their weights. -/
def Dev.footLamps (d : Dev) (i : Nat) : List (Nat × Nat) :=
  let b := 520 * i
  let w := d.photoField b 24 12
  (List.range (w * d.photoField b 36 12)).map fun q =>
    ((d.photoField b 12 12 + q / w) * d.tileW + d.photoField b 0 12 + q % w, d.photoField (b + 8 + q / 8) (8 * (q % 8)) 8)

/-- The tile's rectangle in the wall layout, as (width, height); (0, 0) where it has none.
DEDUCED (unsafe): log 82. -/
def Dev.tileRect (d : Dev) : Nat × Nat :=
  match d.link.layout.find? fun t => t.pos == d.get F.LINK_TILE_STAT_POSITION with
  | some t => (t.w, t.h)
  | none => (0, 0)

/-- A WHY_ field other than WHY_REQ is 1 (R119). -/
def Dev.whyOther (d : Dev) : Bool :=
  [F.KEEP_SVC_STAT_WHY_TIME, F.KEEP_SVC_STAT_WHY_STALE, F.KEEP_SVC_STAT_WHY_TABLES, F.KEEP_SVC_STAT_WHY_ROLE, F.KEEP_SVC_STAT_WHY_LINK].any d.bit

/-- The service state the configuration leaves is plain (R119, R519): FULL is not set, or another WHY_ field keeps a device in plain
service from leaving it. -/
def Dev.plainAfter (d : Dev) : Bool :=
  (d.service == 1 || d.service == 2) && (!d.bit F.KEEP_SVC_CTRL_FULL || (d.service == 1 && d.whyOther))

/-- Lamps of the tile: of its rectangle in the wall layout, else of its tables. -/
def Dev.tileLamps (d : Dev) : Nat :=
  let r := d.tileRect
  if r.1 * r.2 = 0 then d.tileN else r.1 * r.2

/-- Lamp-slot-frames per second as a fraction. -/
def Dev.lampRate (d : Dev) : Nat × Nat := (d.tileLamps * d.slotQ * d.tfDen, d.tfNum)

/-- Kernel load of a tile in cycles per second, as a fraction (R223).
DESIGN CHOICE (safe): log 43. -/
def Dev.tileLoad (d : Dev) : Nat × Nat :=
  let chain := if d.plainAfter || d.service = 0 then [kTilePlain, kLedgerAcc] else [kTileCorrect, kTileDither, kLedgerAcc]
  let cost := (chain.map kernelCost).foldl (· + ·) 0
  let foot := (d.photoInputs.map fun i => (d.footLamps i).length).foldl (· + ·) 0
  if d.tfNum = 0 then (0, 1)
  else (d.lampRate.1 * cost + 3 * foot * d.slotQ * d.tfDen, d.tfNum)

/-- A tile's loads follow the configuration in force (R143, R223, R250). -/
def Dev.tileLoads (d : Dev) : Dev :=
  let d := d.onCompose fun c => { c with load := d.tileLoad }
  let use (k : Nat) (g : LaneGroup) : Nat :=
    let t := d.uploadTime g
    let w := 5 * d.uploadWindow k * t.2
    if w = 0 then 0 else 2 * t.1 * 1000 / w
  let gs : List LaneGroup := d.prog.used.map (·.2)
  let worst := (d.composedSlots.flatMap fun k => gs.map (use k)).foldl max 0
  d.setAll [(F.COMPOSE_SLOT_STAT_Q, d.slotQ), (F.COMPOSE_SLOT_STAT_USE_PERMILLE, if d.hasProg then satTo 1023 worst else 0)]

end Sys2Proof.Machine
end

