-- ==== Sys2Proof/Machine/CvuOps.lean ====
section
/-!
DEFINITION. The check-value units (R91 to R93): accumulator, feed queue, result.
-/
namespace Sys2Proof.Machine

open Sys2Proof

def Dev.cvuAt (d : Dev) (n : Nat) : Cvu := nth d.cvu n {}
def Dev.onCvu (d : Dev) (n : Nat) (f : Cvu → Cvu) : Dev := { d with cvu := modifyNth d.cvu n f }

/-- The accumulator of a unit with bytes fed to it (R91, R92). -/
def Dev.cvuStep (d : Dev) (n acc : Nat) (bs : List Byte) : Nat :=
  crcBytes (d.get (F.CTRL_CVU_CFG_WIDTH n)) (d.get (F.CTRL_CVU_POLY_POLY n)) (d.bit (F.CTRL_CVU_CFG_REFIN n)) acc bs

/-- BUSY follows the queue. -/
def Dev.refreshCvu (d : Dev) (n : Nat) : Dev := d.setBit (F.CTRL_CVU_CFG_BUSY n) (!(d.cvuAt n).feeds.isEmpty)

/-- The queue drains (R92). -/
def Dev.cvuDrain (d : Dev) (n : Nat) : Dev :=
  let u := d.cvuAt n
  (d.onCvu n fun _ => { acc := d.cvuStep n u.acc u.feeds.flatten, feeds := [] }).refreshCvu n

/-- A feed joins the queue (R92): one that finds 16 waits until the oldest has been processed. -/
def Dev.cvuQueue (d : Dev) (n : Nat) (bs : List Byte) : Dev :=
  let u := d.cvuAt n
  let u : Cvu := match u.feeds with
    | f :: fs => if 16 ≤ u.feeds.length then { acc := d.cvuStep n u.acc f, feeds := fs } else u
    | [] => u
  (d.onCvu n fun _ => { u with feeds := u.feeds ++ [bs] }).refreshCvu n

/-- Bytes processed while a TCLK cycle passes, 1.667 ns a byte (R92): three in two cycles. -/
def Dev.cvuTickOne (d : Dev) (n : Nat) : Dev :=
  let k := if d.now / 2500 % 2 = 0 then 1 else 2
  let u := d.cvuAt n
  match u.feeds with
  | [] => d
  | f :: fs =>
    let done := d.cvuStep n u.acc (f.take k)
    (d.onCvu n fun _ => { acc := done, feeds := if (f.drop k).isEmpty then fs else f.drop k :: fs }).refreshCvu n

/-- Here:
DESIGN CHOICE (unsafe): log 1. -/
def Dev.cvuTick (d : Dev) : Dev := [0, 1, 2, 3].foldl (fun d n => d.cvuTickOne n) d

/-- CTRL_CVUn_RESULT (R91): a read waits until the queue has drained (R92). -/
def Dev.cvuResult (d : Dev) (n : Nat) : Word :=
  let u := (d.cvuDrain n).cvuAt n
  Word.of (crcResult (d.get (F.CTRL_CVU_CFG_WIDTH n)) (d.bit (F.CTRL_CVU_CFG_REFOUT n)) (d.bit (F.CTRL_CVU_CFG_INVERT n)) u.acc)

/-- A write of CTRL_CVUn_CFG (R91): the bits of POLY, INIT and the accumulator at and above the new WIDTH are cleared. -/
def Dev.cvuSetCfg (d : Dev) (n : Nat) (w : Word) : Dev :=
  let d := d.cvuDrain n
  let width := Word.field w 0 7
  let d := d.setAll [(F.CTRL_CVU_CFG_WIDTH n, width), (F.CTRL_CVU_CFG_REFIN n, Word.field w 8 1),
    (F.CTRL_CVU_CFG_REFOUT n, Word.field w 9 1), (F.CTRL_CVU_CFG_INVERT n, Word.field w 10 1),
    (F.CTRL_CVU_POLY_POLY n, d.get (F.CTRL_CVU_POLY_POLY n) % 2 ^ width),
    (F.CTRL_CVU_INIT_INIT n, d.get (F.CTRL_CVU_INIT_INIT n) % 2 ^ width)]
  d.onCvu n fun u => { u with acc := u.acc % 2 ^ width }

/-- A write of CTRL_CVUn_INIT (R91): after the queue drains, the accumulator is loaded. -/
def Dev.cvuSetInit (d : Dev) (n : Nat) (w : Word) : Dev :=
  let d := (d.cvuDrain n).set (F.CTRL_CVU_INIT_INIT n) w.toNat
  d.onCvu n fun u => { u with acc := w.toNat % 2 ^ d.get (F.CTRL_CVU_CFG_WIDTH n) }

end Sys2Proof.Machine
end

