-- ==== Sys2Proof/Machine/MemOps.lean ====
section
/-!
DEFINITION. The DRAM controller's operations (ch. 4): training and what follows from it, the address map, granules being filled,
the ports' queues and which request is served next, the activation tables.
-/
namespace Sys2Proof.Machine

open Sys2Proof

/-! ### Training (R122 to R130) -/

/-- Data rates a module or component set may run at, highest first (R122, R123). -/
def dramRates (f : DramFit) : List Nat := if f.kind = 2 then [8800, 8000] else [6400, 5600, 4800]

/-- Capacities of a DIMM built of DRAMs of 16, 24 or 32 Gb, eight data bits of a rank for each bit of an organisation of x8 (R122). -/
def dimmBuilds (f : DramFit) : Bool := [16, 24, 32].any fun g => f.gib * f.org == f.ranks * 8 * g

/-- A fit the device supports in its role (R122, R123). -/
def dramSupported (f : DramFit) (tile : Bool) : Bool :=
  if tile then
    f.kind == 3 && f.ranks == 1 && f.org == 16 && (f.subch == 1 || f.subch == 2) &&
      [2, 4, 6, 8].contains (f.gib / f.subch) && f.gib % f.subch == 0
  else if f.kind = 1 then
    [16, 24, 32, 48, 64].contains f.gib && (f.ranks == 1 || f.ranks == 2) && (f.org == 4 || f.org == 8) && dimmBuilds f
  else f.kind == 2 && (f.gib == 32 || f.gib == 64) && f.ranks == 2 && (f.org == 4 || f.org == 8) && dimmBuilds f

/-- The rate SPEED_MAX stands for; 0 is no cap. -/
def speedCap : Nat → Nat
  | 1 => 4800 | 2 => 5600 | 3 => 6400 | 4 => 8000 | 5 => 8800 | _ => 100000

/-- The rates training may try, highest first (R124, R129).
DEDUCED (unsafe): log 40. -/
def dramOffered (f : DramFit) (cap : Nat) : List Nat := (dramRates f).filter fun r => decide (r ≤ cap) && decide (r ≤ f.maxRate)

/-- An attempt passes: every lane's eye is at least 0.35 UI wide and 30 mV high (R129). -/
def eyesPass (eyes : List (Nat × Nat)) : Bool := !eyes.isEmpty && eyes.all fun e => decide (350 ≤ e.1) && decide (30 ≤ e.2)

/-- The attempt that passes, of those at the first rate and at most two steps down (R129). -/
def passingAttempt (f : DramFit) : Option Nat := (List.range 3).find? fun i => eyesPass (nth f.eyes i [])

/-- The rate a channel ends training at: none where it fails (R129).
DEDUCED (unsafe): log 40. -/
def dramTrained (f : DramFit) (tile : Bool) (cap : Nat) : Option Nat :=
  if dramSupported f tile then (passingAttempt f).bind fun i => (dramOffered f cap)[i]? else none

/-- What training of the channels finds (R124, R126, R128, R129): the registers' contents, and the shape of the memory in use. Kind,
subchannels, ranks and size come from the module data even where no channel trains (step 1 of R128).
DEDUCED (unsafe): log 40. -/
def Dev.trainShape (d : Dev) (fits : List DramFit) : MemShape :=
  let cap := speedCap (d.get F.MEM_CFG_SPEED_MAX)
  let chans := if d.isTile then 1 else d.variant.ddrs
  let fit (i : Nat) : DramFit := nth fits i { kind := 0, gib := 0, ranks := 0, org := 8, subch := 0, maxRate := 0 }
  let good (i : Nat) : Bool := decide (i < chans) && dramSupported (fit i) d.isTile
  let rate (i : Nat) : Option Nat := if i < chans then dramTrained (fit i) d.isTile cap else none
  let a := fit 0
  let b := fit 1
  let mismatch := good 0 && good 1 && !(a.kind == b.kind && a.gib == b.gib && a.ranks == b.ranks && a.org == b.org)
  let trains (i : Nat) : Bool := decide (i < chans) && !(i == 1 && mismatch)
  let failed (i : Nat) : Bool := trains i && (fit i).kind != 0 && (rate i).isNone
  let use0 := (rate 0).isSome
  let use1 := (rate 1).isSome && !mismatch
  let f := if use0 then a else if use1 then b else if good 0 then a else b
  let r := match rate 0, (if use1 then rate 1 else none) with
    | some x, some y => min x y
    | some x, none => x
    | none, some y => y
    | none, none => 0
  let n := use0.toNat + use1.toNat
  let said := if n = 0 then (good 0).toNat + (good 1 && !mismatch).toNat else n
  let down := [0, 1].any fun i => trains i && good i && !eyesPass (nth (fit i).eyes 0 []) && decide (1 < (dramOffered (fit i) cap).length)
  { chOk := use0.toNat + 2 * use1.toNat, chFail := (failed 0).toNat + 2 * (failed 1).toNat, mismatch := mismatch, down := down, rate := r
    kind := if said = 0 then 0 else f.kind, subch := if said = 0 then 0 else if d.isTile then f.subch else 2
    ranks := if said = 0 then 0 else f.ranks, usable := said * (f.gib * 1024 - 1)
    chBytes := if n = 0 then 0 else f.gib * 2 ^ 30, channels := n, first := (!use0 && use1).toNat
    split := decide (n = 2) && !d.bit F.MEM_CFG_INTERLEAVE, org := f.org, oneSub := d.isTile && f.subch == 1, rfm := f.rfm }

/-- Training results come into force, and into KEEP's retained memory (R128, R130). -/
def Dev.useShape (d : Dev) (x : MemShape) (filled : Bool) : Dev :=
  let d := d.setAll [(F.MEM_STAT_CH_OK, x.chOk), (F.MEM_STAT_CH_FAIL, x.chFail), (F.MEM_STAT_CH1_MISMATCH, x.mismatch.toNat),
    (F.MEM_STAT_SPEED_DOWN, x.down.toNat), (F.MEM_STAT_FILL_DONE, filled.toNat), (F.MEM_INFO_RATE_MTS, x.rate), (F.MEM_INFO_KIND, x.kind),
    (F.MEM_INFO_SUBCH, x.subch), (F.MEM_INFO_RANKS, x.ranks), (F.MEM_INFO_USABLE_MIB, x.usable)]
  d.onMc fun m => { m with toMemShape := x, phyOff := false, kept := if x.channels = 0 then none else some x }

/-- Step 7 of R115: after deep sleep the results kept in KEEP are restored where the read sweep of the training area passes (R130),
otherwise the channels are trained (R128). Contents kept through deep sleep need no fill (R131).
DEDUCED (unsafe): log 40. -/
def Dev.trainDram (d : Dev) (fits : List DramFit) (sweepOk : Bool) : Dev :=
  match d.mc.kept with
  | some x => if sweepOk then d.useShape x d.mc.allFilled else ((d.useShape (d.trainShape fits) d.mc.allFilled).onMc fun m => { m with drift := List.replicate 80 0 })
  | none => (d.useShape (d.trainShape fits) false).onMc fun m => { m with drift := List.replicate 80 0, filled := [], allFilled := false }

/-- Installed DRAM in bytes (R19), and the part that may be used (R126).
DEDUCED (unsafe): log 40. -/
def Dev.installed (d : Dev) : Nat := d.mc.chBytes * d.mc.channels
/-- Here:
DEDUCED (unsafe): log 40. -/
def Dev.usable (d : Dev) : Nat := d.get F.MEM_INFO_USABLE_MIB * 2 ^ 20

/-- The controller accepts requests: a channel is in use and not in self-refresh (R128, R142). -/
def Dev.memOpen (d : Dev) : Bool := d.mc.channels != 0 && !d.mc.selfRefresh

/-- A drift update (R132): each lane's edge offset and its width, both in 1/64 UI; a centre moves by at most one step.
DEDUCED (unsafe): log 38. -/
def Dev.driftUpdate (d : Dev) (lanes : List (Int × Nat)) : Dev :=
  let move (i : Nat) : Int := clampInt (-1) 1 (nth lanes i (0, 64)).1
  let drift := (List.range (max lanes.length d.mc.drift.length)).map fun i => nth d.mc.drift i 0 + move i
  let d := d.onMc fun m => { m with drift := drift }
  if drift.any (fun x => decide (12 < x.natAbs)) || lanes.any (fun l => decide (l.2 < 16)) then
    if d.bit F.MEM_STAT_DRIFT_ALARM then d
    else (d.raiseFlag F.MEM_STAT_DRIFT_ALARM).eventFault 0x02 2 .warning R.MEM_STAT
  else d

/-- Self-refresh ends (R142): one drift update runs before the first request; what it measures is free.
DEDUCED (unsafe): log 38. -/
def Dev.refreshExit (d : Dev) : Dev :=
  let d := d.onMc fun m => { m with selfRefresh := false, phyOff := false }
  if d.mc.channels = 0 then d
  else (d.driftUpdate ((List.range d.mc.drift.length).map (Config.laneEdge d.free))).draw

/-- Self-refresh begins (R142): requests queued are completed; in DEEP the PHY clocks stop too. -/
def Dev.refreshEntry (d : Dev) (deep : Bool) : Dev :=
  d.onMc fun m => { m with selfRefresh := true, phyOff := deep, queues := List.replicate 19 [], banks := m.banks.map fun b => { b with row := none } }

/-! ### The address map (R125) -/

/-- Where a burst lies (R125). -/
structure DramPlace where
  channel : Nat
  subch : Nat
  rank : Nat
  group : Nat
  bank : Nat
  row : Nat
  column : Nat
  deriving DecidableEq, Repr

/-- The channel of a system address and the address local to it (R125, MEM_CFG.INTERLEAVE).
DEDUCED (unsafe): log 120. -/
def MemShape.local (m : MemShape) (a : Nat) : Nat × Nat :=
  if m.channels < 2 then (m.first, a)
  else if m.split then (a / m.chBytes, a % m.chBytes)
  else ((bitsOf a 8 1 + bitsOf a 14 1 + bitsOf a 20 1 + bitsOf a 26 1 + bitsOf a 32 1) % 2, bitsOf a 0 8 + a / 512 * 256)

/-- C′ of a tile with subchannel A alone: C with a zero put in at bit 6 (R125). -/
def zeroAt6 (c : Nat) : Nat := c % 64 + c / 64 * 128

/-- Bits an address below a size takes. -/
def addrBits (size : Nat) : Nat := if size ≤ 1 then 0 else Nat.log2 (size - 1) + 1

/-- The place of a system address (R125).
DEDUCED (unsafe): log 120. -/
def MemShape.place (m : MemShape) (a : Nat) : DramPlace :=
  let l := m.local a
  let c := if m.oneSub then zeroAt6 l.2 else l.2
  let top := addrBits m.chBytes + m.oneSub.toNat
  let rankBit := m.ranks == 2
  let rows := if rankBit then top - 1 else top
  let x16 := m.org == 16
  { channel := l.1, subch := bitsOf c 6 1, column := bitsOf c 7 6
    rank := if rankBit then bitsOf c (top - 1) 1 else 0
    group := if x16 then bitsOf c 13 2 ^^^ bitsOf c 18 2 else bitsOf c 13 3 ^^^ bitsOf c 18 3
    bank := if x16 then bitsOf c 15 2 ^^^ bitsOf c 20 2 else bitsOf c 16 2 ^^^ bitsOf c 21 2
    row := if x16 then bitsOf c 17 (rows - 17) else bitsOf c 18 (rows - 18) }

/-- Numbers of a place's bank group and of its bank among all of the device's. -/
def DramPlace.groupNo (p : DramPlace) : Nat := ((p.channel * 2 + p.subch) * 2 + p.rank) * 8 + p.group
def DramPlace.bankNo (p : DramPlace) : Nat := p.groupNo * 4 + p.bank

/-! ### Granules (R131) -/

/-- Granules of 1 MiB. -/
abbrev granule : Nat := 1048576

/-- A read of an address reaches DRAM: its granule has been filled. -/
def Dev.isFilled (d : Dev) (a : Nat) : Bool := d.mc.allFilled || d.mc.filled.contains (a / granule)

/-- The granules of a range are filled by a write (R131); with the last one FILL_DONE is set. -/
def Dev.fillGranules (d : Dev) (a len : Nat) : Dev :=
  if d.mc.allFilled || len == 0 then d
  else
    let g := (List.range ((a + len - 1) / granule - a / granule + 1)).map fun i => a / granule + i
    let filled := (g.filter fun x => !d.mc.filled.contains x) ++ d.mc.filled
    if filled.length * granule < d.installed then d.onMc fun m => { m with filled := filled }
    else (d.onMc fun m => { m with filled := [], allFilled := true }).set F.MEM_STAT_FILL_DONE 1

/-- A read over a port came poisoned, and has yet to be met by what reads (R135). -/
def Dev.poisonOf (d : Dev) (port : Nat) : Bool := d.mc.poisoned.any fun b => b.1 == port

/-- What read poisoned bursts over a port has been answered.
DEDUCED (unsafe): log 42. -/
def Dev.clearPoison (d : Dev) (port : Nat) : Dev := d.onMc fun m => { m with poisoned := m.poisoned.filter fun b => b.1 != port }

/-- Bytes have been written to DRAM: their granules are filled (R131), and no read of a burst they touch that came poisoned before
counts any longer (R134).
DEDUCED (unsafe): log 42. -/
def Dev.stored (d : Dev) (a len : Nat) : Dev :=
  (d.fillGranules a len).onMc fun m => { m with poisoned := m.poisoned.filter fun b => !(decide (a < b.2 + 64) && decide (b.2 < a + len)) }

/-! ### The activation tables (R139, R140) -/

/-- A targeted refresh is charged to the port whose activate brought it about; at OFFENDER_LIMIT it is throttled for the rest of the
window (R140). -/
def Dev.chargePort (d : Dev) (port n : Nat) : Dev :=
  if n = 0 then d
  else
    let d := d.onMc fun m => { m with charges := modifyNth m.charges port (· + n) }
    if nth d.mc.charges port 0 < d.get F.MEM_RH_CFG_OFFENDER_LIMIT then d
    else if d.bit (F.MEM_PORT_CFG_RH_EXEMPT port) then d.raiseFlag F.MEM_STAT_RH_EXEMPT
    else if nth d.mc.throttled port false then d
    else
      let d := d.onMc fun m => { m with throttled := modifyNth m.throttled port fun _ => true }
      let d := d.setAll [(F.MEM_PORT_STAT_THROTTLED port, 1), (F.MEM_PORT_STAT_URGENCY port, 0), (F.MEM_STAT_RH_THROTTLE, 1)]
      d.eventFault 0x04 2 .warning R.MEM_STAT

/-- A bank of the controller by its number. -/
def Dev.memBank (d : Dev) (n : Nat) : MemBank := (d.mc.banks.find? fun b => b.bank == n).getD { bank := n }

def Dev.putBank (d : Dev) (b : MemBank) : Dev := d.onMc fun m => { m with banks := b :: m.banks.filter fun x => x.bank != b.bank }

/-- How often a count reaches a threshold in `n` activates, each time starting from 0 again, and the count after them (R139).
DESIGN CHOICE (safe): log 39. -/
def countUp (count n thresh : Nat) : Nat × Nat :=
  let first := max 1 (thresh - count)
  if n < first then (0, count + n) else (1 + (n - first) / max 1 thresh, (n - first) % max 1 thresh)

/-- The activation table with room for a row: its entry, or a free one, or that of the lowest count, whose count the row takes (R139).
Of several lowest ones a free value picks.
DESIGN CHOICE (safe): log 39. -/
def rowEntry (draw : Nat) (t : List (Nat × Nat)) (row : Nat) : List (Nat × Nat) × Nat :=
  match t.find? fun e => e.1 == row with
  | some e => (t.filter fun x => x.1 != row, e.2)
  | none =>
    if t.length < 64 then (t, 0)
    else
      let low := (t.map (·.2)).foldl min ((t.head?.map (·.2)).getD 0)
      let cands := t.filter fun e => e.2 == low
      match cands[Config.rowVictim draw % cands.length]? with
      | some v => (t.filter fun x => x.1 != v.1, low)
      | none => (t, 0)

/-- The rows a targeted refresh activates (R139): none where the module declares RFM, which it then uses. -/
def refreshRows (rfm : Bool) (row : Nat) : List Nat :=
  if rfm then [] else (if 2 ≤ row then [row - 2] else []) ++ (if 1 ≤ row then [row - 1] else []) ++ [row + 1, row + 2]

/-- A port activates the row of an address `n` times (R139, R140).
DESIGN CHOICE (safe): log 39. -/
def Dev.activate (d : Dev) (port a n : Nat) : Dev :=
  let p := d.mc.place a
  let b := d.memBank p.bankNo
  let e := rowEntry d.free b.table p.row
  let r := countUp e.2 n (d.get F.MEM_RH_CFG_THRESH)
  let d := ((d.putBank { b with row := some p.row, table := (p.row, r.2) :: e.1 }).onMc fun m =>
    { m with targeted := List.replicate r.1 ⟨p.bankNo, p.row, refreshRows m.rfm p.row⟩ ++ m.targeted
             lastAct := modifyNth m.lastAct port fun _ => some d.now }).draw
  d.chargePort port r.1

/-! ### Queues and urgency (R127, R137, R138) -/

/-- The requests waiting, of all ports. -/
def Dev.memWaiting (d : Dev) : List MemReq := d.mc.queues.flatten

/-- Urgency by age as a share of the target (R138). -/
def ageUrgency (age target : Int) : Nat :=
  if 90 * target ≤ 100 * age then 3 else if 75 * target ≤ 100 * age then 2 else if 50 * target ≤ 100 * age then 1 else 0

/-- The oldest of some requests. -/
def oldestReq (l : List MemReq) : Option MemReq :=
  l.foldl (fun best r => match best with
    | none => some r
    | some b => if r.ident < b.ident then some r else some b) none

/-- A request's age in ps. -/
def Dev.reqAge (d : Dev) (r : MemReq) : Int := (d.now : Int) - r.since

/-- The urgency of a port (R138): by its oldest request; a throttled one's is held at 0 (R140). -/
def Dev.urgencyOf (d : Dev) (p : Nat) : Nat :=
  if nth d.mc.throttled p false then 0
  else match oldestReq (nth d.mc.queues p []) with
    | some r => ageUrgency (d.reqAge r) (r.target * 1000)
    | none => 0

/-- The class of a port's traffic, in the order of R29's table but CT before BK (R29, R137, R138): 0 LT, 1 RT, 2 CT, 3 BK.
DEDUCED (unsafe): log 120. -/
def portClass (p : Nat) : Nat :=
  if p = 4 then 0 else if p < 15 then 1 else if p = 18 then 2 else 3

/-- A request finds its row open. -/
def Dev.rowHit (d : Dev) (r : MemReq) : Bool :=
  let p := d.mc.place r.addr
  (d.memBank p.bankNo).row == some p.row

/-- A request ranks before another (R138): by urgency, among those of urgency 0 row hits first, then by class, then by age.
DEDUCED (unsafe): log 120. -/
def Dev.reqBefore (d : Dev) (a b : MemReq) : Bool :=
  let u := d.urgencyOf a.port
  let v := d.urgencyOf b.port
  if u ≠ v then decide (v < u)
  else if u = 0 && d.rowHit a != d.rowHit b then d.rowHit a
  else if portClass a.port ≠ portClass b.port then decide (portClass a.port < portClass b.port)
  else decide (a.ident < b.ident)

/-- A request may be served now: no older one of its burst waits (R127); a write waits while a port of urgency 2 or more, and no less
than its own, has reads (R138); an activate waits while a port of urgency 3 that ranks before it needs the bank group for its oldest
request (R138), and that of a throttled port until THROTTLE_NS after its last one (R140).
DEDUCED (unsafe): log 120. -/
def Dev.mayServe (d : Dev) (r : MemReq) : Bool :=
  let all := d.memWaiting
  let behind := all.any fun x => x.addr / 64 == r.addr / 64 && decide (x.ident < r.ident)
  let drained := r.write && (List.range 19).any fun p =>
    decide (2 ≤ d.urgencyOf p) && decide (d.urgencyOf r.port ≤ d.urgencyOf p) && (nth d.mc.queues p []).any fun x => !x.write
  let group := (d.mc.place r.addr).groupNo
  let held := (List.range 19).any fun p => p != r.port && d.urgencyOf p == 3 && (oldestReq (nth d.mc.queues p [])).any fun x =>
    (d.mc.place x.addr).groupNo == group && d.reqBefore x r
  let slow := nth d.mc.throttled r.port false && (nth d.mc.lastAct r.port none).any fun t =>
    decide (d.now < t + d.get F.MEM_RH_CFG_THROTTLE_NS * 1000)
  !behind && !drained && (d.rowHit r || !(held || slow))

/-- The request served next. -/
def Dev.nextReq (d : Dev) : Option MemReq :=
  (d.memWaiting.filter d.mayServe).foldl (fun best r => match best with
    | none => some r
    | some b => if d.reqBefore r b then some r else some b) none

/-- A request leaves its queue. -/
def Dev.dropReq (d : Dev) (r : MemReq) : Dev :=
  d.onMc fun m => { m with queues := modifyNth m.queues r.port fun q => q.filter fun x => x.ident != r.ident }

/-- What happens at the controller (R127, R137, R138): a port's queue takes a request of an age in ns, one access is issued, a refresh
interval passes. A read of a burst whose write is still queued is served from there at once; a refresh is postponed by up to four
intervals while some port's urgency is 2 or 3.
DEDUCED (unsafe): log 120. -/
def Dev.memEvent (d : Dev) : MemEvent → Dev
  | .accept port write addr age =>
    if !d.memPort port then d
    else if !write && d.memWaiting.any (fun x => x.write && x.addr / 64 == addr / 64) then d
    else
      let r : MemReq := { port := port, write := write, addr := addr, since := (d.now : Int) - (age * 1000 : Nat)
                          target := d.get (F.MEM_PORT_CFG_TARGET_NS port), ident := d.mc.nextIdent }
      d.onMc fun m => { m with queues := modifyNth m.queues port (· ++ [r]), nextIdent := m.nextIdent + 1 }
  | .access =>
    match d.nextReq with
    | none => d
    | some r => (if d.rowHit r then d else d.activate r.port r.addr 1).dropReq r
  | .refresh =>
    if (List.range 19).any (fun p => decide (2 ≤ d.urgencyOf p)) && decide (d.mc.postponed < 4) then
      d.onMc fun m => { m with postponed := m.postponed + 1 }
    else d.onMc fun m => { m with postponed := 0, banks := m.banks.map fun b => { b with row := none } }

/-- The ports' status follows their queues (R138): URGENCY, URG3, and each request older than its target counted once. -/
def Dev.memSettle (d : Dev) : Dev :=
  (List.range 19).foldl (fun d p =>
    if !d.memPort p then d
    else
      let u := d.urgencyOf p
      let d := if d.get (F.MEM_PORT_STAT_URGENCY p) = u then d else d.set (F.MEM_PORT_STAT_URGENCY p) u
      let d := if u = 3 then d.raiseFlag (F.MEM_PORT_STAT_URG3 p) else d
      let late (r : MemReq) : Bool := !r.late && decide ((r.target * 1000 : Nat) < d.reqAge r)
      let n := ((nth d.mc.queues p []).filter late).length
      if n = 0 then d
      else ((d.raiseFlag (F.MEM_PORT_STAT_MISSED p)).bump (F.MEM_PORT_STAT_MISS_CNT p) n).onMc fun m =>
        { m with queues := modifyNth m.queues p fun q => q.map fun r => if late r then { r with late := true } else r }) d

/-- Requests in the queues age as the model's clock runs. -/
def Dev.memTick (d : Dev) : Dev := if d.memWaiting.isEmpty || !d.memOpen then d else d.memSettle

/-- Events at the controller, and the status after them; in self-refresh it takes none (R142). -/
def Dev.memEvents (d : Dev) (es : List MemEvent) : Dev := if d.memOpen then (es.foldl Dev.memEvent d).memSettle else d

end Sys2Proof.Machine
end

