-- ==== Sys2Proof/Machine/WriteRule.lean ====
section
/-!
DEFINITION. What single registers ask of a write beyond the ranges of their fields, and what a write of them does to the device: clock
gates (R111), AMCLK (R97), the time source, check-value units, audio and lamp registers, the integrator's keys.
-/
namespace Sys2Proof.Machine

open Sys2Proof

/-! ### Clock gates (R111, R117) -/

/-- Units that are present and active in the role, in the layout of the gate registers (R111, R112). -/
def Dev.gateUnits (d : Dev) : Word :=
  let s := d.isSender
  let v := d.variant
  let ones (k : Nat) : Nat := 2 ^ k - 1
  let full := v.full && s
  Word.pack [(0, 16, ones (if s then v.basins else 4) ||| (List.range 16).foldl (fun m b => if (d.basin b).active then m + 2 ^ b else m) 0), (16, 8, if s then ones v.scalers else 0),
    (24, 4, if s then ones v.pipes else 0), (28, 4, if s then ones v.vins else 0), (32, 2, if s then ones v.gbes else 0),
    (34, 1, full.toNat), (35, 1, full.toNat), (36, 8, ones (if s then v.ovls else 2)),
    (44, 2, ones (if s then v.ddrs else 1)), (46, 1, d.isTile.toNat), (47, 1, d.isTile.toNat), (48, 1, d.isTile.toNat),
    (49, 1, full.toNat), (50, 1, 1), (51, 1, 1), (52, 1, 1)]

/-- A bit set for every index below `n` that a condition holds of. -/
def bitsWhere (n : Nat) (p : Nat → Bool) : Nat := (List.range n).foldl (fun m i => if p i then m + 2 ^ i else m) 0

/-- A basin is used by the configuration in force (R229). -/
def Dev.basinUsed (d : Dev) (b : Nat) : Bool :=
  let x := d.basin b
  x.active && x.st != 4 && (d.isTile || !d.loadFits d.compose.load (d.get F.KEEP_INSVC_ENGINES_IN - x.engines))

/-- An Orvarlink port is used by the configuration in force: of a sender, the ports of loops that are enabled and the pair link; of a
tile, a port whose link is not down. -/
def Dev.ovlUsed (d : Dev) (n : Nat) : Bool :=
  if d.isTile then decide (n < 2) && d.portState n != lsDown
  else if d.isTwin && n == d.pairPort then true
  else match d.portLoop n with
    | some (k, _) => d.bit (F.LINK_LOOP_CFG_EN k)
    | none => false

/-- 100 GbE ports an enabled flow or PTP uses. -/
def Dev.gbeUsed (d : Dev) (p : Nat) : Bool :=
  ((List.range 40).any fun f => d.bit (F.INGEST_FLOW_DST_EN f) && (d.get (F.INGEST_FLOW_DST_PORTS f)).testBit p) ||
    (d.get F.TIME_PTP_CFG_PORTS).testBit p

/-- The PHOTO class held enables an input (R419). -/
def Dev.photoUsed (d : Dev) : Bool :=
  (List.range 8).any fun i => (nth (classWords d.lamp.held tcPhoto) (520 * i) 0).getLsbD 48

/-- Units the configuration in force uses (R111, R229), in the layout of KEEP_GATE_RUN: it uses a unit that something enabled in it works
with, and always the control cores.
DEDUCED (unsafe): log 119. -/
def Dev.gateInUse (d : Dev) : Word :=
  let sender := Word.pack [(0, 16, bitsWhere 16 d.basinUsed), (16, 8, bitsWhere 8 fun s => d.compose.binds.any fun b => b.scaler == some s),
    (24, 4, bitsWhere d.loops fun k => d.bit (F.LINK_LOOP_CFG_EN k)), (28, 4, bitsWhere 4 fun p => d.bit (F.INGEST_SRC_CFG_EN p)),
    (32, 2, bitsWhere 2 d.gbeUsed), (34, 1, (d.host.events.enable || d.host.pcie.any (·.enable)).toNat),
    (35, 1, (d.bit F.INGEST_AUD_CFG_EN || d.bit F.KEEP_AMCLK_CFG_EN).toNat), (49, 1, (d.get F.TIME_PTP_CFG_PORTS != 0).toNat)]
  let tile := Word.pack [(0, 16, bitsWhere 16 d.basinUsed), (46, 1, d.hasProg.toNat), (47, 1, (!d.usedRails.isEmpty).toNat),
    (48, 1, d.photoUsed.toNat)]
  (if d.isTile then tile else sender) |||
    Word.pack [(36, 8, bitsWhere 8 d.ovlUsed), (44, 2, d.get F.MEM_STAT_CH_OK),
      (50, 1, (d.bit F.CTRL_PATH_CFG_ETH_EN || (d.isSender && d.bit F.TIME_PTP_CFG_MGMT_EN)).toNat),
      (51, 1, d.get F.CTRL_PATH_CFG_SPI_EN), (52, 1, 1)]

/-! ### Rules of a write -/

/-- Thresholds may only be lowered, and keep their distances (ch. 15). -/
def thermLimOk (w : Word) : Bool :=
  let b (i : Nat) : Nat := Word.field w (8 * i) 8
  decide (b 0 ≤ 100) && decide (b 1 ≤ 110) && decide (b 2 ≤ 120) && decide (b 3 ≤ 80) && decide (b 4 ≤ 90) && decide (b 5 ≤ 100) &&
  decide (60 ≤ b 0) && decide (40 ≤ b 3) && decide (b 0 + 5 ≤ b 1) && decide (b 1 + 5 ≤ b 2) && decide (b 3 + 5 ≤ b 4) &&
  decide (b 4 + 5 ≤ b 5)

/-- KEEP_AMCLK_CFG's divider is valid (R97). -/
def amclkOk (w : Word) : Bool :=
  let int := Word.field w 0 9
  let num := Word.field w 16 16
  let den := Word.field w 32 16
  decide (96 ≤ int) && decide (int ≤ 400) && decide (num < den)

/-- The object identifier of XMSS-SHAKE256_20_256 in SP 800-208, which an enrolled key begins with (R458).
PRESUMED (unsafe): log 70. -/
abbrev xmssOid : Nat := 0x00000012

/-- The OID in the key registers: four bytes, most significant first.
PRESUMED (unsafe): log 70. -/
def Dev.ikeyOid (d : Dev) : Nat :=
  let w := d.reg (R.KEEP_IKEY_D 0)
  Word.field w 0 8 * 2 ^ 24 + Word.field w 8 8 * 2 ^ 16 + Word.field w 16 8 * 2 ^ 8 + Word.field w 24 8

/-- Why a write of KEEP_IKEY_CTRL is refused (R459).
PRESUMED (unsafe): log 70. -/
def ikeyRule (d : Dev) (o : Otp) (w : Word) : Option (Status × Nat) :=
  let slot := Word.field w 0 2
  let enrol := w.getLsbD 8
  let revoke := w.getLsbD 9
  let lock := w.getLsbD 10
  let k := nth o.integrator slot {}
  if 1 < enrol.toNat + revoke.toNat + lock.toNat then some (.invalid, 0)
  else if enrol && !k.key.isEmpty then some (.busy, 0)
  else if enrol && d.ikeyOid != xmssOid then some (.invalid, 0x0488)
  else if revoke && k.key.isEmpty then some (.invalid, 0)
  else none


/-- A register of check-value unit 0 or 1, which no write may touch (R91). -/
def cvuReserved (a : Nat) : Bool := decide (R.CTRL_CVU_CFG 0 ≤ a) && decide (a < R.CTRL_CVU_CFG 2)

/-- The rules of single registers, beyond the ranges of their fields: status and DETAIL of a refusal.
DEDUCED (unsafe): log 22.
DEDUCED (safe): log 31. -/
def Dev.writeRule (d : Dev) (o : Otp) (a : Nat) (new : Word) : Option (Status × Nat) :=
  if a = R.KEEP_AMCLK_CFG then
    (if amclkOk new then none else some (.range, 0))
  else if a = R.KEEP_THERM_LIM then (if thermLimOk new then none else some (.range, 0))
  else if a = R.KEEP_IKEY_CTRL then ikeyRule d o new
  else if a = R.KEEP_GATE_RUN then
    -- clearing the bit of a unit in use (R111)
    (if d.reg a &&& ~~~new &&& d.gateInUse != 0 then some (.state, 0) else none)
  else if a = R.KEEP_GATE_DEEP then
    (if 1 < popCount 8 (Word.field new 36 8 &&& Word.field d.gateUnits 36 8) then some (.invalid, 0) else none)
  else if R.CTRL_CVU_CFG 0 ≤ a && a < R.CTRL_CVU_CFG 4 then
    let n := (a - R.CTRL_CVU_CFG 0) / 0x40
    let width := d.get (F.CTRL_CVU_CFG_WIDTH n)
    if a = R.CTRL_CVU_POLY n || a = R.CTRL_CVU_INIT n then
      (if new.toNat < 2 ^ width then none else some (.range, 0))
    else none
  else if d.namesAbsent a new then some (.absent, 0)
  else if a = R.TIME_CFG then
    let src := Word.field new F.TIME_CFG_SRC.lo F.TIME_CFG_SRC.width
    if d.isTile != (src == 4) then some (.role, 0)
    else if src == 3 && d.get F.TIME_FSYNC_IN_CFG_MODE < 2 then some (.invalid, 0x0441)
    else none
  else if 0xF003003000 ≤ a && a < 0xF003003100 then d.audioRule a new
  else if 0xF006000000 ≤ a && a < 0xF007000000 then d.lampRule a new
  else none

/-! ### Effects of a write -/

/-- The gate registers keep the bits they may hold (R111). -/
def Dev.gateMask (d : Dev) (a : Nat) : Word :=
  let u := d.gateUnits
  if a = R.KEEP_GATE_SLEEP then
    u &&& ~~~(Word.mask 0 16 ||| Word.mask 16 8 ||| Word.mask 24 4 ||| Word.mask 28 4 ||| Word.mask 44 2 ||| Word.mask 46 2)
  else if a = R.KEEP_GATE_DEEP then u &&& Word.mask 36 8
  else u

/-- A change of SRC is a change of source (R314, R319). -/
def Dev.timeCfgWritten (d : Dev) (old : Word) : Dev :=
  if Word.field old F.TIME_CFG_SRC.lo F.TIME_CFG_SRC.width = d.get F.TIME_CFG_SRC then d.refreshSource
  else
    let id := d.gmIdentity
    let d := d.onTime fun t => { t with namedLocked := false }
    let d := d.refreshSource.refreshPtpInfo
    (d.masterChange id d.gmIdentity).refreshWhyTime

/-- What follows on the device from a write of a register that has passed its rules. -/
def Dev.writeEffect (d : Dev) (a : Nat) (old new value : Word) : Dev :=
  if a = R.KEEP_AMCLK_CFG then (d.setReg a new).onClk fun c => { c with amclk := new.toNat }
  else if a = R.KEEP_GATE_RUN then (d.setReg a (new &&& d.gateMask a)).gateStarted old (new &&& d.gateMask a)
  else if a = R.KEEP_GATE_SLEEP || a = R.KEEP_GATE_DEEP then d.setReg a (new &&& d.gateMask a)
  else if a = R.TIME_CFG then (d.setReg a new).timeCfgWritten old
  else if a = R.TIME_PTP_CFG then (d.setReg a new).refreshSource.refreshPtpInfo
  else if R.CTRL_CVU_CFG 0 ≤ a && a < R.CTRL_CVU_CFG 4 then
    let n := (a - R.CTRL_CVU_CFG 0) / 0x40
    if a = R.CTRL_CVU_CFG n then d.cvuSetCfg n new
    else if a = R.CTRL_CVU_INIT n then d.cvuSetInit n new
    else (d.cvuDrain n).setReg a new
  else if 0xF003003000 ≤ a && a < 0xF003003100 then (d.setReg a new).audioWritten a old
  else if 0xF006000000 ≤ a && a < 0xF007000000 then (d.setReg a new).lampWritten a old value
  else d.setReg a new

/-- A write made by a policy or configuration image (R462, R463): under the rules of the register, where the unit is active. -/
def Dev.policyWrite (d : Dev) (o : Otp) (a : Nat) (w : Word) : Dev :=
  match regAt a with
  | some (f, i) =>
    let new := f.merge (d.reg a) w
    if d.unitPresent f.unit i && d.unitActive f.unit i && f.rangeOk [.rw, .rwl] w && (d.writeRule o a new).isNone then
      d.writeEffect a (d.reg a) new w
    else d
  | none => d

end Sys2Proof.Machine
end

