-- ==== Sys2Proof/Machine/Chip.lean ====
section
/-!
DEFINITION. The chip level: the safe state (R438 to R442), faults that pass up (R30, R33), region resets (R114), and the
device reset with its boot sequence (R113 to R116, R128, R467 to R470).
-/
namespace Sys2Proof.Machine

open Sys2Proof

/-! ### The safe state -/

/-- Safety causes (R439). -/
abbrev scThermal : Nat := 0x01
abbrev scSensor : Nat := 0x02
abbrev scEstop : Nat := 0x03
abbrev scRail : Nat := 0x04
abbrev scRpll : Nat := 0x05
abbrev scKeep : Nat := 0x06
abbrev scLamp : Nat := 0x07
abbrev scPicture : Nat := 0x08
abbrev scSupply : Nat := 0x09
abbrev scMonitor : Nat := 0x0A
abbrev scLockstep : Nat := 0x10
abbrev scFwStall : Nat := 0x11
abbrev scMem : Nat := 0x12
abbrev scTime : Nat := 0x13
abbrev scCtrl : Nat := 0x14
abbrev scRegionLimit : Nat := 0x15

/-- The device is in the safe state. -/
def Dev.safeNow (d : Dev) : Bool := d.bit F.KEEP_SAFE_STAT_SAFE

/-- SERVICE leaves full service: a tile's FULL is cleared by the device (R120). -/
def Dev.setService (d : Dev) (v : Nat) : Dev :=
  let d' := d.set F.KEEP_SVC_STAT_SERVICE v
  let d' := if d.service = 2 && v = 1 then d'.raiseFlag F.KEEP_SVC_STAT_DROPPED else d'
  if d.service = 2 && v != 2 && d.isTile then (d'.set F.KEEP_SVC_CTRL_FULL 0).set F.KEEP_SVC_STAT_WHY_REQ 1 else d'

/-- KEEP runs: HKO is stable (R98). -/
def Dev.keepRuns (d : Dev) : Bool := !(d.boot == .held || d.boot == .testStrap || d.boot == .hko || d.boot == .hkoFailed)

/-- Entry to the safe state (R438). A further cause that arises in the safe state leaves CAUSE and raises one EV_SAFE (R442). -/
def Dev.enterSafe (d : Dev) (cause region : Nat) : Dev :=
  if d.safeNow then d.eventSafe cause region
  else
    let d := (d.abortAll 7).lampsCut.calAbandon
    let d := d.onSafe fun x => { x with stopCause := none }
    let d := d.onHost fun h => { h with relays := [] }
    let d := d.setAll [(F.KEEP_THERM_STAT_STOPPING, 0), (F.KEEP_SAFE_STAT_SAFE, 1), (F.KEEP_SAFE_STAT_ENTERED, 1),
      (F.KEEP_SAFE_STAT_CAUSE, cause)]
    (d.setService 3).eventSafe cause region

/-! ### Region resets -/

/-- A region reset begins (R33, R114): the region's units stop, its status returns to reset values, its configuration in force
is reapplied.
DEDUCED (unsafe): log 30. -/
def Dev.startRegionReset (d : Dev) (r : Nat) : Dev :=
  let old := d
  let d := if r = 5 then ((d.abortAll 4).linkReset).cutLoads else d
  let d := d.resetRegionRegs r
  let d := if r = 3 then d.ingestReset else if r = 4 then d.composeReset.calAbandon else
    -- a tile's wall time holds over until the loop is back (R339)
    let d := if d.isTile then ((d.sideDown 0).sideDown 1).timeLost else d
    (List.range 8).foldl (fun d n => if old.portActive n && lsTrain ≤ old.portState n then d.set (F.LINK_OVL_STAT_STATE n) lsTrain else d)
      (d.linkKept old)
  let d := d.onSafe fun x => { x with inReset := r :: x.inReset }
  let d := d.setAll [(F.KEEP_RST_CAUSE_REGION, 1), (F.KEEP_RST_CAUSE_LAST_REGION, r)]
  d.eventFault 0x05 r .warning R.KEEP_RST_CAUSE

/-! ### The boot sequence -/

/-- KEEP_GATE_SLEEP's reset value (R112): loop ports, and with twins the pair-link port; PTP, MGMT, SPI, PCIE and CTRL, and
PHOTO of a tile. -/
def Dev.gateSleepReset (d : Dev) : Word :=
  let ports := (List.range 8).foldl (fun m n => if d.portActive n then m + 2 ^ n else m) 0
  Word.pack [(34, 1, (d.variant.full && d.isSender).toNat), (36, 8, ports), (48, 1, d.isTile.toNat),
    (49, 1, (d.variant.full && d.isSender).toNat), (50, 1, 1), (51, 1, 1), (52, 1, 1)]

/-- The default latency target of a requester port (R137). -/
def portTarget (n : Nat) : Nat :=
  if n < 4 then 1500 else if n = 4 then 2000 else if n < 11 then 8000 else if n = 11 then 16000 else if n = 12 then 8000
  else if n = 13 then 4000 else if n = 14 then 8000 else if n = 15 then 16000 else if n < 18 then 50000 else 20000

/-- KEEP_KEY_INFO, KEEP_XMSS_INFO and CTRL_BOOT_STAT.AUTOLOCK follow OTP (R458 to R460, R470, R477). -/
def Dev.refreshKeys (d : Dev) (o : Otp) : Dev :=
  let bits (l : List KeySlot) (f : KeySlot → Bool) : Nat :=
    (List.range l.length).foldl (fun m i => if f (nth l i {}) then m + 2 ^ i else m) 0
  let written (k : KeySlot) : Bool := !k.key.isEmpty
  d.setAll [(F.KEEP_KEY_INFO_V_PRESENT, bits o.vendor written), (F.KEEP_KEY_INFO_V_REVOKED, bits o.vendor (·.revoked)),
    (F.KEEP_KEY_INFO_I_ENROLLED, bits o.integrator written), (F.KEEP_KEY_INFO_I_REVOKED, bits o.integrator (·.revoked)),
    (F.KEEP_KEY_INFO_AUTOLOCK, o.autolock.toNat), (F.KEEP_KEY_INFO_SVN_FW, nth o.svn 0 0),
    (F.KEEP_KEY_INFO_SVN_KLIB, nth o.svn 1 0), (F.KEEP_KEY_INFO_SVN_LPROG, nth o.svn 2 0),
    (F.KEEP_KEY_INFO_SVN_SAFETY, nth o.svn 3 0), (F.KEEP_XMSS_INFO_BLOCKS_USED, o.xmssBlocks),
    (F.KEEP_XMSS_INFO_NEXT_INDEX, d.img.nextIndex), (F.KEEP_XMSS_INFO_EXHAUSTED, (decide (2 ^ 20 ≤ d.img.nextIndex)).toNat),
    (F.CTRL_BOOT_STAT_AUTOLOCK, o.autolock.toNat)]

/-- Identity, capability and strap registers (R5, R41, R495), once OTP is read. -/
def Dev.identify (d : Dev) (o : Otp) (st : Straps) : Dev :=
  let v := o.variant
  let full := v.full.toNat
  let code := match v with
    | .gkd9256 => 1 | .gkd9128 => 2 | .gkd9064t => 3
  let gib := match v with
    | .gkd9256 => 128 | .gkd9128 => 64 | .gkd9064t => 16
  let d := d.setAll [(F.KEEP_CAP0_BASINS, v.basins), (F.KEEP_CAP0_VIN_MASK, 2 ^ v.vins - 1),
    (F.KEEP_CAP0_GBE_MASK, 2 ^ v.gbes - 1), (F.KEEP_CAP0_PCIE, full), (F.KEEP_CAP0_AUDIO, full), (F.KEEP_CAP0_HDCP, full),
    (F.KEEP_CAP0_OVL_MASK, 2 ^ v.ovls - 1), (F.KEEP_CAP0_DDR_MASK, 2 ^ v.ddrs - 1), (F.KEEP_CAP0_DDR_MAX_GIB, gib),
    (F.KEEP_CAP0_VARIANT, code),
    (F.KEEP_CAP1_ROLE, match d.role with
      | .sender => 0 | .tile => 1 | .senderB => 2),
    (F.KEEP_CAP1_PAIR_PREF, st.pairPref.toNat), (F.KEEP_CAP1_ROLE_FORCED, d.roleForced.toNat),
    (F.KEEP_CAP1_STEPPING, o.stepping), (F.KEEP_CAP1_LOOPS, v.loops), (F.KEEP_CAP1_TILES_MAX, 128 * v.loops),
    (F.KEEP_UID_LO_UID, o.uidLo.toNat), (F.KEEP_UID_HI_UID, o.uidHi.toNat),
    (F.KEEP_STRAP_STAT_ROLE, st.role), (F.KEEP_STRAP_STAT_PAIR_PREF, st.pairPref.toNat),
    (F.KEEP_STRAP_STAT_VIN_KIND, st.vinKind % 2 ^ v.vins), (F.KEEP_STRAP_STAT_FLASH_MODE, st.flashMode),
    (F.KEEP_STRAP_STAT_ROLE_BAD, d.roleForced.toNat), (F.KEEP_SVC_STAT_WHY_ROLE, d.roleForced.toNat),
    (F.KEEP_CLK_MON_HKO_TRIM, Config.hkoTrim 0), (F.KEEP_SAFE_STAT_ESTOP, d.safe.estop.toNat)]
  let d := (List.range 12).foldl (fun d i => d.set (F.KEEP_TSENS_REGION i) (if i < 8 then i else 6)) d
  let d := (List.range 19).foldl (fun d i =>
    if d.memPort i then d.setAll [(F.MEM_PORT_CFG_TARGET_NS i, portTarget i), (F.MEM_PORT_CFG_RH_EXEMPT i, (decide (i < 5)).toNat)]
    else d) d
  let d := (List.range v.vins).foldl (fun d p => d.set (F.INGEST_VIN_CFG_KIND p) ((st.vinKind >>> p) % 2)) d
  let d := d.setReg R.KEEP_GATE_RUN d.gateUnits
  let d := d.setReg R.KEEP_GATE_SLEEP d.gateSleepReset
  let d := d.setReg R.KEEP_GATE_DEEP (Word.of (2 ^ 36))
  let d := d.setAll [(F.CTRL_PAIR_STAT_PREF, (st.pairPref && d.isSender).toNat)]
  let d := if d.isTile then d.setAll [(F.TIME_CFG_SRC, 4), (F.TIME_STAT_SRC_IN_USE, 4)]
    else d.set F.TIME_PTP_CFG_PORTS (2 ^ v.gbes - 1)
  ((List.range 12).foldl (fun d c => d.refreshClass (c + 1)) d).refreshKeys o

/-- The outcomes of the cryptographic checks that a reset comes with, noted with the slots they are of. -/
def Dev.noteVerdicts (d : Dev) (vs : List Verdict) : Dev :=
  { d with images := vs.foldl (fun l v => modifyNth l v.cls fun k =>
      { k with slots := modifyNth k.slots v.slot fun x => { x with hashOk := v.hashOk, sigOk := v.sigOk } }) d.images }

/-- The check of a slot at boot; a slot without an image fails as a broken header. -/
def Dev.bootCheck (d : Dev) (o : Otp) (c slot : Nat) : Nat × Nat :=
  let k := (d.cls c).slot slot
  if k.state = isEmpty || k.state = isLoading then (irHeader, 0) else checkImage d o c k.words k.hashOk k.sigOk

/-- A pending slot is given up (R467): BAD where a check of it failed, as it was where its trials did (reason 0).
DEDUCED (unsafe): log 104. -/
def Dev.fallBack (d : Dev) (c p reason block : Nat) : Dev :=
  let d := (if reason = 0 then d else d.failSlot c p reason block).onClass c fun k => { k with pending := none, trials := 0 }
  (d.raiseFlag F.CTRL_BOOT_STAT_ACT_FAIL).eventImage 0x06 c p reason block .fault

/-- A slot that was active when the boot began, or another that passes. -/
def Dev.bootActive (d : Dev) (o : Otp) (c : Nat) : Dev × Option Nat :=
  match (d.cls c).active with
  | some a =>
    let r := d.bootCheck o c a
    if r.1 = 0 then (d, some a)
    else
      let d := d.failSlot c a r.1 r.2
      let other := 1 - a
      if c = icFw && ((d.cls c).slot other).state == isVerified && (d.bootCheck o c other).1 == 0 then (d, some other)
      else ((d.raiseFlag F.CTRL_BOOT_STAT_BOOT_FAIL).eventImage 0x07 c a r.1 r.2 .warning, none)
  | none => (d, none)

/-- Selects and checks one class at boot (R467, R468): the slot that is used. -/
def Dev.bootClass (d : Dev) (o : Otp) (c : Nat) : Dev × Option Nat :=
  match (d.cls c).pending with
  | none => d.bootActive o c
  | some p =>
    let r := d.bootCheck o c p
    if isCode c then
      if 2 ≤ (d.cls c).trials then (d.fallBack c p 0 0).bootActive o c
      else if r.1 = 0 then (d.onImg fun i => { i with onTrial := c :: i.onTrial }, some p)
      else if 2 ≤ (d.cls c).trials + 1 then (d.fallBack c p r.1 r.2).bootActive o c
      else (d.onClass c fun k => { k with trials := k.trials + 1 }).bootActive o c
    else if r.1 = 0 then
      let d := d.onClass c fun k => { k with active := some p, pending := none, trials := 0 }
      (d.eventImage 0x05 c p 0 0 .info, some p)
    else (d.fallBack c p r.1 r.2).bootActive o c

/-- Boots a class, and records the slot in use. -/
def Dev.useClass (d : Dev) (o : Otp) (c : Nat) : Dev :=
  let r := d.bootClass o c
  r.1.onImg fun i => match r.2 with
    | some s => { i with running := (c, s) :: i.running }
    | none => { i with missing := c :: i.missing }

/-- A data image is loaded after the boot: a poisoned burst of it fails its block check (R135, R468). -/
def Dev.useLate (d : Dev) (o : Otp) (c : Nat) : Dev :=
  if !d.poisonOf 17 then d.useClass o c
  else
    let block (s : Nat) : Nat := Config.poisonBlock d.free % max 1 (imgBlocks ((d.cls c).slot s).words)
    let d := d.draw.clearPoison 17
    match (d.cls c).pending, (d.cls c).active with
    | some p, _ => (d.fallBack c p irBlock (block p)).useClass o c
    | none, some a =>
      (((d.failSlot c a irBlock (block a)).raiseFlag F.CTRL_BOOT_STAT_BOOT_FAIL).eventImage 0x07 c a irBlock (block a) .warning).onImg fun i =>
        { i with missing := c :: i.missing }
    | none, none => d.useClass o c

/-- The words of the image in use of a class. -/
def Dev.inUse (d : Dev) (c : Nat) : Option (List Word) :=
  ((d.img.running.find? fun r => r.1 == c).map (·.2)).map fun s => ((d.cls c).slot s).words

/-- A class whose body broke R462 or R463: not applied, WHY_TABLES and EV_IMAGE 0x07 with reason POLICY. -/
def Dev.policyFail (d : Dev) (c : Nat) : Dev :=
  let s := ((d.img.running.find? fun r => r.1 == c).map (·.2)).getD 0
  let d := d.onImg fun i =>
    { i with running := i.running.filter fun r => r.1 != c, missing := c :: i.missing, badPolicy := true }
  ((d.set (F.CTRL_IMG_INFO_REASON c) irPolicy).raiseFlag F.CTRL_BOOT_STAT_BOOT_FAIL).eventImage 0x07 c s irPolicy 0 .warning

/-- The rectangle a COMPOSE_SRECr_POS, _CFG or _EXPECT address belongs to (R462). -/
def srecOf (a : Nat) : Option Nat :=
  if 0xF004006000 ≤ a && a < 0xF004006000 + 32 * 0x40 && (a - 0xF004006000) % 0x40 < 0x18 && a % 8 == 0 then
    some ((a - 0xF004006000) / 0x40)
  else none

/-- An address a SAFETY body may write (R462). -/
def safetyAddr (a : Nat) : Bool :=
  (srecOf a).isSome || match regAt a with
    | some (f, _) => f.onlyRwl
    | none => false

/-- Applies a SAFETY body (R462): its RWL writes at once; its rectangles at the first saddle; rectangles with ACTION = SAFE
are held.
DEDUCED (unsafe): log 104. -/
def Dev.applySafety (d : Dev) (o : Otp) : Dev :=
  match d.inUse icSafety with
  | none => d
  | some ws =>
    let ps := (pairsOf (bodyWords ws)).map fun p => (p.1.toNat, p.2)
    if ps.all fun p => safetyAddr p.1 then
      let d := ps.foldl (fun d p => if (srecOf p.1).isSome then d else d.policyWrite o p.1 p.2) d
      let rects := ps.filter fun p => (srecOf p.1).isSome
      let held := rects.filterMap fun p =>
        match srecOf p.1 with
        | some r => if p.1 == R.COMPOSE_SREC_CFG r && Word.field p.2 (F.COMPOSE_SREC_CFG_ACTION r).lo 2 == 2 then some r else none
        | none => none
      d.onImg fun i => { i with policyWrites := rects, held := held }
    else d.policyFail icSafety

/-- Applies one record of a CONFIG body (R463); none for a record that breaks its rules. -/
def Dev.applyConfig (o : Otp) (d : Dev) (r : Nat × List Word) : Option Dev :=
  let w0 := nth r.2 0 0
  match r.1 with
  | 1 =>
    let ps := (pairsOf r.2).map fun p => (p.1.toNat, p.2)
    let ok (a : Nat) : Bool :=
      [0, 1, 2, 7].contains ((a - 0xF000000000) / 0x1000000) && match regAt a with
        | some (f, _) => f.has .rw || f.has .rwl
        | none => false
    if ps.all fun p => ok p.1 then some (ps.foldl (fun d p => d.policyWrite o p.1 p.2) d) else none
  | 2 => some { d with ingest := { d.ingest with
      edids := (Word.field w0 0 2, r.2.drop 1) :: d.ingest.edids.filter fun x => x.1 != Word.field w0 0 2 } }
  | 3 => some (d.onHost fun h => { h with
      ip := some (Word.field w0 0 32, Word.field (nth r.2 1 0) 0 32, Word.field (nth r.2 2 0) 0 32) })
  | 4 => some { d with senderNo := if d.isTile then 0 else Word.field w0 0 4 }
  | _ => none

/-- Applies a CONFIG body (R463). -/
def Dev.applyConfigImage (d : Dev) (o : Otp) : Dev :=
  match d.inUse icConfig with
  | none => d
  | some ws =>
    let body := bodyWords ws
    match (configRecords body.length body).bind fun rs => rs.foldlM (fun d r => Dev.applyConfig o d r) d with
    | some d' => d'
    | none => d.policyFail icConfig

/-- Loads the wall layout (R463). -/
def Dev.applyLayout (d : Dev) : Dev :=
  match d.inUse icLayout with
  | none => d
  | some ws =>
    let ts := layoutTiles (bodyWords ws)
    if layoutOk ts then d.onLink fun l => { l with layout := ts } else d.policyFail icLayout

/-- A vendor slot is revoked, and minimum SVNs rise, when trials succeed (R459, R460). -/
def confirmOtp (d : Dev) (o : Otp) (c : Nat) : Otp :=
  match (d.cls c).pending with
  | none => o
  | some p =>
    let ws := ((d.cls c).slot p).words
    let o := { o with svn := modifyNth o.svn (c - 1) fun v => max v (imgSvn ws) }
    if c = icFw then
      let rv := Word.field (nth ws 0 0) 52 2
      { o with vendor := (List.range o.vendor.length).map fun i =>
          let k := nth o.vendor i {}
          if rv.testBit i && i != imgKeySlot ws then { k with revoked := true } else k }
    else o

/-- A trial succeeds: the pending slot becomes active (R467). -/
def Dev.confirmTrial (d : Dev) (c : Nat) : Dev :=
  match (d.cls c).pending with
  | none => d
  | some p =>
    (d.onClass c fun k => { k with active := some p, pending := none, trials := 0 }).eventImage 0x05 c p 0 0 .info

/-- Plain service begins (step 8 of R115, R119), unless the device is in the safe state since its start (R109, R440): the firmware
then raises what happened before it ran. -/
def Dev.enterPlain (d : Dev) : Dev :=
  let d := if d.safeNow then d else d.setService 1
  let d := { d with boot := .up }
  let d := d.refreshWhyTables.refreshWhyTime.refreshWhyLink.startupEvents
  let d := if d.bit F.KEEP_CLK_STAT_TRIP_HELD then d.eventFault 0x01 0 .warning R.KEEP_CLK_STAT else d
  let d := if d.bit F.KEEP_SAFE_STAT_LATENT_FAIL then d.eventFault 0x07 0 .fault R.KEEP_SAFE_STAT else d
  let d := if d.bit F.KEEP_RST_CAUSE_SAFETY then d.eventSafe (d.get F.KEEP_RST_CAUSE_SAFETY_CAUSE) 0 else d
  if d.safeNow then d.eventSafe (d.get F.KEEP_SAFE_STAT_CAUSE) 0
  else if d.safe.estop then d.enterSafe scEstop 0 else d

/-- The end of step 8: trials are confirmed once plain service is reached. -/
def State.finishBoot (s : State) : State :=
  let d := s.dev.enterPlain
  if d.service = 1 then
    let o := d.img.onTrial.foldl (fun o c => confirmOtp d o c) s.otp
    let d := d.img.onTrial.foldl (fun d c => d.confirmTrial c) d
    let d := (d.set F.CTRL_BOOT_STAT_TRIAL 0).onImg fun i => { i with onTrial := [] }
    { s with otp := o, dev := (d.refreshKeys o).twinBoot }
  else { s with dev := d }

/-- Step 8 of R115: the images of the firmware's own are checked and applied, boot lock is taken under AUTOLOCK (R468, R470). -/
def State.bootStep8 (s : State) : State :=
  let o := s.otp
  let untwinned := (s.dev.set F.CTRL_PAIR_CFG_TWIN 0).gateSleepReset
  let classes := [icKlib, icSafety] ++ if s.dev.isTile then [icLprog] else [icLayout]
  let d := classes.foldl (fun d c => d.useClass o c) s.dev
  let d := if d.isSender then d.applyLayout else d
  let d := d.applySafety o
  let d := if d.isTwin && d.reg R.KEEP_GATE_SLEEP == untwinned then d.setReg R.KEEP_GATE_SLEEP d.gateSleepReset else d
  let d := if o.autolock then d.raiseFlag F.CTRL_BOOT_STAT_LOCKED else d
  let d := d.ingestBoot.composeBoot.lampBoot
  ({ s with dev := (if d.isTile then d.tileLoads.refreshKload else d).refreshPtpInfo }).finishBoot

/-- Steps 5 to 8 of R115, from RPLL lock: the start-up test, the boot ROM, training, service. DRAM contents kept through deep sleep need
no fill, however the read sweep ends (R130, R131). The firmware sets the sampling delay of SDR reads first (R512). -/
def State.bootFromLock (s : State) (env : BootInputs) : State :=
  let d := s.dev
  let d := d.setAll [(F.KEEP_CLK_STAT_RPLL_LOCK, 1), (F.KEEP_CLK_STAT_REF_QUAL, 1)]
  let d := d.onClk fun c => { c with onHko := false, rateInit := (0, 0) }
  let d := d.onTime fun t => { t with running := true, wall := 0 }
  let d := d.startupTest env.failedEngines env.failedBasins
  let d := if env.latentFail then d.raiseFlag F.KEEP_SAFE_STAT_LATENT_FAIL else d
  let d := if s.straps.flashMode = 3 then d.onImg fun i => { i with missing := [icFw] } else d.useClass s.otp icFw
  match d.inUse icFw with
  | none =>
    let d := d.trainDram env.dram env.sweepOk
    { s with dev := ({ d with boot := .recovery } : Dev).raiseFlag F.CTRL_BOOT_STAT_RECOVERY }
  | some fw =>
    let d := d.onImg fun i => { i with fwHeader := fw.take 16 }
    let d := if s.straps.flashMode ≤ 1 && env.taps % 65536 == 0 then d.raiseFlag F.CTRL_BOOT_STAT_BOOT_FAIL else d
    let d := d.setAll [(F.CTRL_FW_VER_HDR, (nth fw 1 0).toNat), (F.CTRL_FW_WIN_T_HDR, (nth fw 4 0).toNat),
      (F.CTRL_FW_WIN_S_HDR, (nth fw 5 0).toNat), (F.CTRL_FW_WIN_P_HDR, (nth fw 6 0).toNat),
      (F.CTRL_BOOT_STAT_TRIAL, (d.img.onTrial.contains icFw).toNat)]
    let d := ((d.useClass s.otp icConfig).applyConfigImage s.otp)
    let d := d.trainDram env.dram env.sweepOk
    if d.mc.channels = 0 then { s with dev := { d with boot := .noDram } }
    else ({ s with dev := d } : State).bootStep8

/-- From a qualified REFCLK (R100, R101). -/
def State.bootFromRef (s : State) (env : BootInputs) : State :=
  let d := s.dev.set F.KEEP_CLK_STAT_REF_QUAL 1
  if env.rpllLock then ({ s with dev := d } : State).bootFromLock env else { s with dev := { d with boot := .rpll } }

/-- A trip held during HKO's start is evaluated (R109): its source is still active, and the safety monitor reacts as always, or has
cleared. -/
def Dev.heldTrips (d : Dev) (trip : Option (Nat × Bool)) : Dev :=
  let past := (d.safe.heldTrip && !d.safe.estop) || trip.any fun t => !t.2
  let d := if past then d.raiseFlag F.KEEP_CLK_STAT_TRIP_HELD else d
  let d := d.onSafe fun x => { x with heldTrip := false }
  match trip with
  | some (c, true) => d.enterSafe c 0
  | _ => if d.safe.estop then d.enterSafe scEstop 0 else d

/-- From a stable HKO (R98): OTP is read, and a trip met during the start is evaluated (R109). -/
def State.bootFromHko (s : State) (env : BootInputs) : State :=
  let d := (s.dev.identify s.otp s.straps).heldTrips env.trip
  if env.refQual then ({ s with dev := d } : State).bootFromRef env else { s with dev := { d with boot := .refclk } }

/-- The effective role of the straps on a variant (R2, R5).
DESIGN CHOICE (unsafe): log 108. -/
def effectiveRole (v : Variant) (strap : Nat) : Role × Bool :=
  if strap = 1 then (.tile, false)
  else if v = .gkd9064t then (.tile, true)
  else if strap = 2 then (.senderB, false) else (.sender, false)

/-- Step 1 of R115. A shipped device strapped 0b11 stays in reset (R3). -/
def State.bootStart (s : State) (env : BootInputs) : State :=
  let r := effectiveRole s.otp.variant s.straps.role
  let d : Dev := { s.dev with role := r.1, roleForced := r.2, variant := s.otp.variant, env := some env
                              safe := { s.dev.safe with estop := env.estopLow } }
  let s := { s with dev := d.noteVerdicts env.verdicts }
  if s.straps.role = 3 then { s with dev := { s.dev with boot := .testStrap } }
  else if env.hkoStable then s.bootFromHko env
  else { s with dev := { s.dev with boot := .hko } }

/-! ### Device resets -/

/-- The record of one class after a reset: a trial that had not succeeded counts as failed (R467); a load under way stands
at the progress recorded every 256 blocks (R473). -/
def afterReset (d : Dev) (c : Nat) : ImgClass :=
  let k := d.cls c
  let k := if d.img.onTrial.contains c then { k with trials := satTo 3 (k.trials + 1) } else k
  match d.img.jobs.find? fun j => j.cls == c && !j.recheck with
  | some j => { k with slots := modifyNth k.slots j.slot fun x =>
      { x with done := max x.done (min (Config.loadProgress d.free) (imgBlocks x.words) / 256 * 256) } }
  | none => k

/-- Everything at reset but what R113 and R121 keep: flash, KEEP_RST_CAUSE as given, and across deep sleep the training
results. The model's own clock, counter and record of outputs go on. -/
def Dev.cleared (d : Dev) (cause : Word) (deep : Bool) : Dev :=
  { now := d.now, free := d.free + 1, out := d.out, env := d.env, porst := d.porst, supplyLow := d.supplyLow
    regs := [(R.KEEP_RST_CAUSE, cause)], images := (List.range 13).map (afterReset d), flash := d.flash
    role := d.role, variant := d.variant, roleForced := d.roleForced
    safe := { estop := d.safe.estop }
    mc := if deep then { kept := d.mc.kept, drift := d.mc.drift, filled := d.mc.filled, allFilled := d.mc.allFilled } else {} }

/-- The inputs the running sequence was given. -/
def Dev.bootEnv (d : Dev) : BootInputs :=
  d.env.getD ⟨⟨0, false, 0, 0⟩, true, true, true, none, false, [], [], false, [], [], true, 0xFFFF⟩

/-- The model's inputs of a reset that no strap sampling comes with: those of the last release, with the pins as they are; the
images' checks end as they last did.
DEDUCED (unsafe): log 34. -/
def Dev.resetInputs (d : Dev) : BootInputs :=
  let e := d.bootEnv
  { e with trip := none, estopLow := d.safe.estop, verdicts := [] }

/-- A device reset that KEEP_RST_CAUSE records (R113): DRAM is lost, unless the reset is the wake from deep sleep. -/
def State.deviceReset (s : State) (cause : Word) (env : BootInputs) (deep : Bool := false) : State :=
  let d := s.dev.cleared cause deep
  let o := { s with dev := d.onImg fun i => { i with nextIndex := s.otp.xmssBlocks * 256 }, mem := if deep then s.mem else [] }
  (({ o with dev := o.dev.emit (.reset cause.toNat) } : State)).bootStart env

/-- The RST_CAUSE of a reset that keeps it, with a cause added. -/
def Dev.causeWith (d : Dev) (f : Fld) : Word :=
  Word.setField (d.reg R.KEEP_RST_CAUSE) f.lo f.width 1

/-- RESET_DEVICE (R113). -/
def State.resetByCommand (s : State) : State :=
  s.deviceReset (s.dev.causeWith F.KEEP_RST_CAUSE_CMD) s.dev.resetInputs

/-- A reset by the safety monitor (R113, R439). -/
def State.resetBySafety (s : State) (cause : Nat) : State :=
  let f := F.KEEP_RST_CAUSE_SAFETY_CAUSE
  s.deviceReset (Word.setField (s.dev.causeWith F.KEEP_RST_CAUSE_SAFETY) f.lo f.width cause) s.dev.resetInputs

/-! ### Faults that pass up (R30, R33, R439, R442) -/

/-- The safety monitor's reaction to a fault a region passes up. -/
def State.passUp (s : State) (region cause : Nat) : State :=
  let d := s.dev
  if !d.keepRuns then s
  else if region = 0 || region = 6 then { s with dev := d.enterSafe cause region }
  else if region = 3 || region = 4 || region = 5 then
    if d.safe.inReset.contains region then s
    else
      let recent := d.safe.resets.filter fun r => r.1 == region && decide (d.now < r.2 + 10 * sPs)
      if 2 ≤ recent.length then
        if d.safeNow then { s with dev := d.setAll [(F.KEEP_SAFE_STAT_CAUSE_HELD, scRegionLimit), (F.KEEP_SAFE_STAT_HELD, 1)] }
        else s.resetBySafety scRegionLimit
      else
        { s with dev := (d.onSafe fun x => { x with resets := (region, d.now) :: x.resets }).startRegionReset region }
  else if d.safeNow then { s with dev := d.setAll [(F.KEEP_SAFE_STAT_CAUSE_HELD, cause), (F.KEEP_SAFE_STAT_HELD, 1)] }
  else s.resetBySafety cause

/-- How severe the safety monitor's reaction to a fault of a region would be (R33): 0 none while the region is in reset, 1 a region reset,
2 a device reset, 3 the safe state. -/
def Dev.reaction (d : Dev) (region : Nat) : Nat :=
  if region = 0 || region = 6 then 3
  else if region = 3 || region = 4 || region = 5 then
    if d.safe.inReset.contains region then 0
    else if 2 ≤ (d.safe.resets.filter fun r => r.1 == region && decide (d.now < r.2 + 10 * sPs)).length then 2 else 1
  else 2

/-- Faults of regions, each with its cause, that reach the safety monitor together: only the most severe reaction is applied (R33); region
resets are all of one severity. -/
def State.passUpAll (s : State) (xs : List (Nat × Nat)) : State :=
  let most := (xs.map fun x => s.dev.reaction x.1).foldl max 0
  let chosen := xs.filter fun x => s.dev.reaction x.1 == most
  if most ≤ 1 then chosen.foldl (fun s x => s.passUp x.1 x.2) s
  else match chosen with
    | x :: _ => s.passUp x.1 x.2
    | [] => s

/-! ### Pins -/

/-- FAULT_N is low (R446, R3).
DESIGN CHOICE (unsafe): log 108. -/
def Dev.faultLow (d : Dev) : Bool :=
  d.boot != .up || d.safeNow || d.clk.late || (d.bit F.KEEP_SAFE_CFG_FAULT_PIN && d.bit F.KEEP_SAFE_STAT_FAULT) ||
  d.wakeLate

/-- SAFE_N is low: during reset, in the safe state, and under R3, R98 and R494 (R446).
DESIGN CHOICE (unsafe): log 108. -/
def Dev.safeLow (d : Dev) : Bool := d.boot != .up || d.safeNow || d.wakeLate

/-- DEEP_N is low: from the end of the entry into DEEP until the wake (R494).
DESIGN CHOICE (unsafe): log 108. -/
def Dev.deepLow (d : Dev) : Bool := d.power == .deep

end Sys2Proof.Machine
end

