-- ==== Sys2Proof/Machine/HostOps.lean ====
section
/-!
DEFINITION. Commands on their way through the device: replies and what is kept of them (R49, R52), the originators' queues
(R46), the permissions of the paths (R65), the states that refuse commands, transactions a command names (R76), and the relay
onto loops (R66). What each command does is in the files of the commands.
-/
namespace Sys2Proof.Machine

open Sys2Proof

/-! ### Replies -/

/-- What a command's own meaning answers: a reply at once, a reply that follows later, or nothing. -/
inductive Answer where
  | now (status : Status) (detail : Nat) (payload : List Word)
  | later
  | nothing
  deriving DecidableEq, Repr

/-- An OK reply. -/
def Answer.ok (payload : List Word) : Answer := .now .ok 0 payload

/-- A refusal without a detail. -/
def Answer.refuse (s : Status) : Answer := .now s 0 []

/-- The packets of a reply to a command (R52), split for the management port (R62). -/
def replyPackets (q : QCmd) (responder status detail : Nat) (more : Bool) (payload : List Word) : List (List Word) :=
  let parts := if 4 ≤ q.orig && q.orig < 8 then splitReply 8 payload else [(payload, false)]
  parts.map fun p => replyPacket q.opcode q.seq q.txn status detail q.cookie responder (p.2 || more) p.1

/-- A command without the parts of it that its reply does not need. -/
def QCmd.isFor (q : QCmd) (o seq check : Nat) : Bool := q.orig == o && q.seq == seq && q.check == check

/-- The packets with MORE that a command has been answered with so far. -/
def Dev.partReplies (d : Dev) (q : QCmd) : List (List Word) :=
  (d.host.partReplies.filter fun k => q.isFor k.orig k.seq k.check).flatMap (·.packets)

/-- A command's packets with MORE are remembered until its last reply (R49, R67). -/
def Dev.keepPart (d : Dev) (q : QCmd) (packets : List (List Word)) : Dev :=
  d.onHost fun h => { h with partReplies := h.partReplies ++ [⟨q.orig, q.seq, q.check, packets⟩] }

/-- The last 16 replies of an originator are kept with the SEQ and check word they answered, every packet of each (R49).
DEDUCED (safe): log 13. -/
def Dev.keepReply (d : Dev) (q : QCmd) (packets : List (List Word)) : Dev :=
  let all := d.partReplies q ++ packets
  d.onHost fun h =>
    let mine := h.kept.filter fun k => k.orig == q.orig
    let rest := h.kept.filter fun k => k.orig != q.orig
    { h with
      kept := (⟨q.orig, q.seq, q.check, all⟩ :: mine).take 16 ++ rest
      partReplies := h.partReplies.filter fun k => !q.isFor k.orig k.seq k.check
      waiting := h.waiting.filter fun w => !q.isFor w.1 w.2.1 w.2.2 }

/-- Sends a reply from a device (R52, R66): this one, or the tile whose answer the sender passes on. A reply whose path was lost
meanwhile is lost (R61, R63). -/
def Dev.replyFrom (d : Dev) (q : QCmd) (responder status detail : Nat) (more : Bool) (payload : List Word) : Dev :=
  let ps := replyPackets q responder status detail more payload
  if d.host.lostReplies.any fun w => q.isFor w.1 w.2.1 w.2.2 then
    if more then d else d.onHost fun h => { h with lostReplies := h.lostReplies.filter fun w => !q.isFor w.1 w.2.1 w.2.2 }
  else
    let d := ps.foldl (fun d p => d.sendTo q.orig p) d
    if more then d.keepPart q ps else d.keepReply q ps

/-- The refusal of a packet whose check word failed or is missing (R54, R524): it has no SEQ and check word to keep it by.
DEDUCED (safe): log 13. -/
def Dev.refuseUnkept (d : Dev) (q : QCmd) (status : Status) (payload : List Word) : Dev :=
  (replyPackets q d.responder status.code 0 false payload).foldl (fun d p => d.sendTo q.orig p) d

/-- A refusal at receipt of a packet with a good check word (R46, R54): a reply like any other, kept under R49. -/
def Dev.refuse (d : Dev) (q : QCmd) (status : Status) (payload : List Word) : Dev :=
  (d.refuseUnkept q status payload).keepReply q (replyPackets q d.responder status.code 0 false payload)

/-- The reply that ends a command. -/
def Dev.reply (d : Dev) (q : QCmd) (status : Status) (detail : Nat) (payload : List Word) : Dev :=
  d.replyFrom q d.responder status.code detail false payload

/-- Does with a command's answer what it says. -/
def Dev.answer (d : Dev) (q : QCmd) : Answer → Dev
  | .now st det pl => d.reply q st det pl
  | .later => d.onHost fun h => { h with waiting := (q.orig, q.seq, q.check) :: h.waiting }
  | .nothing => d

/-! ### Transactions and what ends them -/

/-- The open transaction of an originator. -/
def Dev.txnOf (d : Dev) (o : Nat) : Option Txn := d.txns.find? fun t => t.orig == o

/-- The accepted commit of an originator that has not applied (R82). -/
def Dev.commitOf (d : Dev) (o : Nat) : Option Commit := d.commits.find? fun c => c.orig == o

/-- Changes the open transaction of an originator. -/
def Dev.onTxn (d : Dev) (o : Nat) (f : Txn → Txn) : Dev := { d with txns := d.txns.map fun t => if t.orig == o then f t else t }

/-- Forgets the open transaction of an originator. -/
def Dev.dropTxn (d : Dev) (o : Nat) : Dev := { d with txns := d.txns.filter fun t => t.orig != o }

/-- The TARGET form of a tile of this sender. -/
def Dev.tileAddr (d : Dev) (t : Nat × Nat) : Nat := tileTarget d.senderNo t.1 t.2

/-- Sends a COMMAND item to one tile on the sender's own account. Its COOKIE is a number of its own, so that no two such commands have
the same check word and a tile takes none for a repetition (R49). -/
def Dev.sendTileCommand (d : Dev) (t : Nat × Nat) (op : Op) (seq txn : Nat) (payload : List Word) : Dev :=
  (d.loopItem t.1 0x02 (relayWords op.code seq txn d.host.relayIds (d.tileAddr t) false payload)).onHost fun h =>
    { h with relayIds := h.relayIds + 1 }

/-- Tiles that an originator's writes in a transaction are on their way to: their answers are still to come (R81). -/
def Dev.tilesAwaited (d : Dev) (o txn : Nat) : List (Nat × Nat) :=
  (d.host.relays.filter fun r => r.orig == o && r.txn == txn && (r.opcode == Op.writeReg.code || r.opcode == Op.writeField.code)).flatMap (·.waiting)

/-- Tiles a transaction touched (R81). -/
def Dev.tilesTouched (d : Dev) (t : Txn) : List (Nat × Nat) := (t.tiles ++ d.tilesAwaited t.orig t.id).eraseDups

/-- Rolls the open transaction of an originator back, at the tiles it touched too (R80, R81). -/
def Dev.rollback (d : Dev) (o : Nat) : Dev :=
  match d.txnOf o with
  | none => d
  | some t => ((d.tilesTouched t).foldl (fun d x => d.sendTileCommand x .txnRollback 0 t.id []) d).dropTxn o

/-- What of an originator's queue still runs when its path is lost: a TXN_COMMIT already accepted, and what precedes it (R47, R61).
DEDUCED (unsafe): log 28. -/
def commitsQueued (qs : List QCmd) : List QCmd := (qs.reverse.dropWhile fun q => q.opcode != Op.txnCommit.code).reverse

/-- A path of an originator is lost (R61, R63, R80): its open transaction rolls back unless its commit has been accepted, replies
that were pending are lost.
DEDUCED (unsafe): log 28. -/
def Dev.pathLost (d : Dev) (o : Nat) : Dev :=
  let mine := d.host.queue.filter fun q => q.orig == o
  let runs := commitsQueued mine
  let commits := (d.txnOf o).any fun t => runs.any fun q => q.opcode == Op.txnCommit.code && q.txn == t.id
  let owed := (d.txnOf o).isSome || !mine.isEmpty || d.host.waiting.any fun w => w.1 == o
  let d := if commits then d else d.rollback o
  let d := d.onHost fun h => { h with
    waiting := h.waiting.filter fun w => w.1 != o
    queue := h.queue.filter fun q => q.orig != o || runs.contains q
    lostReplies := h.lostReplies ++ (h.waiting.filter fun w => w.1 == o) ++ runs.map fun q => (q.orig, q.seq, q.check) }
  if owed then d.raiseFlag F.CTRL_TXN_STAT_TXN_PATH_LOST else d

/-! ### Paths and states -/

/-- The path of an originator accepts commands (CTRL_PATH_CFG, R45). -/
def Dev.pathOpen (d : Dev) (o : Nat) : Bool :=
  if o < 4 then d.variant.full && d.isSender && d.bit F.CTRL_PATH_CFG_PCIE_EN
  else if o < 8 then d.bit F.CTRL_PATH_CFG_ETH_EN
  else if o = 8 then d.bit F.CTRL_PATH_CFG_SPI_EN
  else d.isTile

/-- The path is one of a tile's own (R56, R65). -/
def Dev.localPath (d : Dev) (o : Nat) : Bool := d.isTile && decide (o < 9)

/-- Registers that carry wall-wide timing (R65, R189, R236, R329). -/
def wallTiming (a : Nat) : Bool :=
  a == R.COMPOSE_SADDLE || a == R.COMPOSE_SLOTS || a == R.TIME_FRAME_TF || a == R.TIME_FRAME_BASE_S ||
  a == R.TIME_FRAME_BASE_NS || a == R.TIME_FRAME_BASE_N ||
  (decide (R.COMPOSE_SLOT_TIME 0 ≤ a) && decide (a < R.COMPOSE_SLOT_TIME 8)) ||
  (decide (R.COMPOSE_CAM_CFG 0 ≤ a) && decide (a < R.COMPOSE_CAM_CFG 4))

/-- The registers a write command addresses (R70): a feed register takes every value at its one address. -/
def writeAddrs (op : Op) (payload : List Word) : List Nat :=
  let a := (nth payload 0 0).toNat
  match op with
  | .writeReg => (List.range (payload.length - 1)).map fun i => a + 8 * i
  | .writeField => [a]
  | _ => []

/-- The path permits the command (R65). -/
def Dev.permitted (d : Dev) (o : Nat) (op : Op) (payload : List Word) : Bool :=
  op.readClass ||
  (!((4 ≤ o && o < 8 && !d.bit F.CTRL_PATH_CFG_ETH_WRITE) || (o == 8 && !d.bit F.CTRL_PATH_CFG_SPI_WRITE)) &&
   !(d.localPath o && (!d.bit F.CTRL_PATH_CFG_LOCAL_WRITE || (writeAddrs op payload).any wallTiming)))

/-- Commands the boot ROM answers in recovery (R469). -/
def recoveryOp (op : Op) (payload : List Word) : Bool :=
  match op with
  | .ping | .getCaps | .getState | .resetDevice => true
  | .imageLoad => Word.field (nth payload 1 0) 0 8 == icFw
  | .imageVerify | .imageActivate => Word.field (nth payload 0 0) 8 8 == icFw
  | _ => false

/-- Units a command works with (R117), as lists of which one must run: a DRAM channel, PCIe, lanes and rails, photometry.
DEDUCED (unsafe): log 119. -/
def Op.units (op : Op) : List (List Nat) :=
  let dram := [guDdr, guDdr + 1]
  match op with
  | .memRead | .memWrite | .cvRun | .tablePush | .imageLoad | .ledgerSave => [dram]
  | .dmaIn | .dmaOut => [dram, [guPcie]]
  | .calRun => [dram, [guPhoto], [guLanes], [guRails]]
  | .locate => [[guLanes], [guRails]]
  | _ => []

/-- A command needs a unit that is there and gated in the power state (R117). -/
def Dev.needsGated (d : Dev) (op : Op) : Bool :=
  op.units.any fun us =>
    let here := us.filter d.gateUnits.getLsbD
    !here.isEmpty && !here.any d.clocked

/-- The device's state admits the command (R117, R129, R438, R469). -/
def Dev.stateAdmits (d : Dev) (op : Op) (payload : List Word) : Bool :=
  match d.boot with
  | .recovery => recoveryOp op payload
  | .noDram => op.readClass
  | _ =>
    (!d.safeNow || op.readClass || op == .resetDevice || op == .imageVerify) && !d.needsGated op

/-- The device answers at all: its firmware or boot ROM runs, and it is not in deep sleep (R42, R117). -/
def Dev.answers (d : Dev) : Bool :=
  (d.boot == .up || d.boot == .recovery || d.boot == .noDram) && d.power != .deep && d.power != .wakeWait

/-! ### TARGET (R56) -/

/-- A TARGET this device accepts from a path. -/
def Dev.targetOk (d : Dev) (o : Nat) (t : Target) : Bool :=
  if d.isTile then
    if o = 9 then t.zerosOk
    else t.zerosOk && (t.scope == 0 || (t.scope == 1 && t.toNat == d.responder))
  else
    t.zerosOk &&
    (t.scope == 0 ||
     (t.sender == d.senderNo && (t.scope == 3 || decide (t.loop < d.variant.loops)) &&
      (t.scope != 1 || (d.positions t.loop).contains t.position)))

/-! ### Relay (R66, R67) -/

/-- Loops a TARGET reaches: for SENDER_ALL those that have tiles. -/
def Dev.targetLoops (d : Dev) (t : Target) : List Nat :=
  if t.scope = 3 then (List.range d.loops).filter fun k => !(d.positions k).isEmpty else [t.loop]

/-- Relayed commands outstanding on a loop. -/
def Dev.outstanding (d : Dev) (k : Nat) : Nat := (d.host.relays.filter fun r => r.loop == k).length

/-- Why a relay is refused, if it is (R66).
DESIGN CHOICE (unsafe): log 126. -/
def Dev.relayRefusal (d : Dev) (t : Target) : Option Status :=
  if !d.hasToken then some .token
  else if (d.targetLoops t).isEmpty || (d.targetLoops t).any fun k => !d.loopRuns k then some .link
  else if (d.targetLoops t).any fun k => decide (64 ≤ d.outstanding k) then some .busy
  else none

/-- The number a transaction of the sender's own carries to its tiles, where the command that asked for it had none (R10, R526).
DESIGN CHOICE (unsafe): log 12. -/
abbrev impliedTxn : Nat := 255

/-- A transaction other than an originator's own holds tile writes on one of some loops, or has sent some (R81). TXN 0 stands for the
implied transaction of a write outside any. -/
def Dev.tilesHeld (d : Dev) (orig txn : Nat) (ks : List Nat) : Bool :=
  let other (o t : Nat) : Bool := !(o == orig && t == txn)
  (d.txns.any fun t => other t.orig t.id && t.tiles.any fun x => ks.contains x.1) ||
  (d.commits.any fun c => c.tiles.any fun x => ks.contains x.1) ||
  d.host.relays.any fun r => ks.contains r.loop && (r.opcode == Op.writeReg.code || r.opcode == Op.writeField.code) && (r.own || r.txn != 0) &&
    other r.orig (if r.implied then 0 else r.txn)

/-- Sends a command onto the loops its TARGET reaches, and keeps what its answers need. `own` marks a write that the sender
relays on its own account and then makes itself (R526); it may take several commands, whose payloads are `parts`. -/
def Dev.relay (d : Dev) (q : QCmd) (t : Target) (own : Bool) (implied : Bool := false) (parts : List (List Word) := [q.payload]) : Dev :=
  let ident := d.host.relayIds
  let loops := d.targetLoops t
  -- only a write of FULL goes out while a loop does not run: its tiles count as missed (R518)
  let live := loops.filter d.loopRuns
  let tiles := d.targetTiles t
  let d := parts.foldl (fun d pl =>
    live.foldl (fun d k => d.loopItem k 0x02 (relayWords q.opcode q.seq q.txn q.cookie t.toNat q.quiet pl)) d) d
  let rec_ (i k : Nat) : Relay :=
    { orig := q.orig, opcode := q.opcode, seq := q.seq, txn := q.txn, cookie := q.cookie, check := q.check, quiet := q.quiet,
      loop := k, bcast := t.scope != 1, ident := ident, waiting := tiles.filter fun x => x.1 == k && live.contains k,
      addressed := (tiles.filter fun x => x.1 == k).length, okCnt := 0, badCnt := 0, own := own, payload := q.payload, implied := implied
      part := i, sends := nth parts i [] }
  d.onHost fun h => { h with
    relayIds := ident + 1, relays := h.relays ++ (List.range parts.length).flatMap fun i => loops.map (rec_ i) }

/-- The command a relay stands for. -/
def Relay.cmd (r : Relay) : QCmd := ⟨r.orig, r.opcode, r.seq, if r.implied then 0 else r.txn, r.cookie, 0, r.quiet, r.check, r.payload⟩

/-- The parts of a relayed command. -/
def Dev.relayParts (d : Dev) (ident : Nat) : List Relay := d.host.relays.filter fun r => r.ident == ident

/-- Forgets a relayed command. -/
def Dev.dropRelay (d : Dev) (ident : Nat) : Dev := d.onHost fun h => { h with relays := h.relays.filter fun r => r.ident != ident }

/-- A relayed command whose tiles have all answered or fallen silent ends; a broadcast is summed up (R67). -/
def Dev.relaySettle (d : Dev) (ident : Nat) : Dev :=
  let rs := d.relayParts ident
  match rs with
  | [] => d
  | r :: _ =>
    if r.own || rs.any (fun x => !x.waiting.isEmpty) then d
    else
      let d := d.dropRelay ident
      if r.bcast && decide (r.orig < 10) then
        let sum (f : Relay → Nat) : Nat := (rs.map f).foldl (· + ·) 0
        let all := sum (·.addressed)
        let ok := sum (·.okCnt)
        let bad := sum (·.badCnt)
        d.replyFrom r.cmd d.responder Status.ok.code 0 false [Word.pack [(0, 16, all), (16, 16, ok), (32, 16, bad), (48, 16, all - ok - bad)]]
      else d

/-- Commands a sender runs itself whatever tiles its TARGET names. -/
def senderRuns (op : Op) : Bool := op == .tablePush || op == .imageLoad || op == .imageActivate

/-! ### The front of a command -/

/-- The payload of a refusal: the reply to TXN_COMMIT has four words whatever it says (R90).
DEDUCED (unsafe): log 18. -/
def refusalWords (op : Op) : List Word := if op == .txnCommit then [0, 0, 0, 0] else []

/-- Refusals that come before a command's own meaning, in order: length and TARGET (R54, R56), path (R65), state, transaction (R69, R76,
R79). -/
def Dev.frontRefusal (d : Dev) (q : QCmd) (op : Op) : Option Status :=
  let t := Target.ofNat q.target
  if !op.lenOk q.payload.length then some .len
  else if !d.targetOk q.orig t then some .target
  else if op == .getCaps && 2 ≤ t.scope then some .target
  else if !d.permitted q.orig op q.payload then some .perm
  else if !d.stateAdmits op q.payload then some .state
  else if op == .txnBegin then none
  else if q.txn != 0 && !op.transactional then some .txn
  else
    let open_ := d.txnOf q.orig
    let own := open_.any fun x => x.id == q.txn
    let held := (d.commitOf q.orig).any fun c => c.txn == q.txn
    if op == .txnCommit then (if q.txn != 0 && own then none else some .txn)
    else if op == .txnRollback then (if q.txn != 0 && (own || held) then none else some .txn)
    else if q.txn != 0 && !own && !(q.orig == 9 && open_.isNone) then some .txn
    else if q.txn != 0 && (open_.any fun x => x.poisoned) then some .txnFull
    else none

/-- A command of a transaction restarts its inactivity time (R80); a session lives on with each of its commands (R63). -/
def Dev.touch (d : Dev) (q : QCmd) : Dev :=
  let d := if q.txn != 0 then d.onTxn q.orig fun t => if t.id = q.txn then { t with last := d.now } else t else d
  if 4 ≤ q.orig && q.orig < 8 then
    d.onHost fun h => { h with eth := modifyNth h.eth (q.orig - 4) fun s => s.map fun s => { s with last := d.now } }
  else d

/-- A command that is neither refused nor relayed runs; its answer is sent. -/
def State.runBody (s : State) (q : QCmd) (body : State → QCmd → State × Answer) : State :=
  let r := body s q
  { r.1 with dev := r.1.dev.answer q r.2 }

/-- Runs a command (R47): refused, relayed (R66), or by its own meaning. -/
def State.runCommand (s : State) (q : QCmd) (op : Op) (body : State → QCmd → State × Answer) : State :=
  let d := s.dev
  let t := Target.ofNat q.target
  match d.frontRefusal q op with
  | some st =>
    let d := if st = .len then d.raiseFlag F.CTRL_CMD_STAT_FORMAT_ERR else d
    { s with dev := d.reply q st 0 (refusalWords op) }
  | none =>
    let s := { s with dev := d.touch q }
    if s.dev.isSender && t.scope != 0 && !senderRuns op then
      match s.dev.relayRefusal t with
      | some st => { s with dev := s.dev.reply q st 0 [] }
      | none =>
        if q.txn != 0 && (op == .writeReg || op == .writeField) && s.dev.tilesHeld q.orig q.txn (s.dev.targetLoops t) then
          { s with dev := s.dev.reply q .busy 0 [] }
        else { s with dev := ((s.dev.relay q t false).answer q .later).relaySettle s.dev.host.relayIds }
    else s.runBody q body

/-- A duplicate of a command (R49): its kept reply is sent again, or nothing is done while its reply is pending.
DEDUCED (safe): log 13. -/
def Dev.duplicate (d : Dev) (q : QCmd) : Option Dev :=
  match d.host.kept.find? fun k => k.orig == q.orig && k.seq == q.seq && k.check == q.check with
  | some k => some (k.packets.foldl (fun d p => d.sendTo q.orig p) d)
  | none => if d.host.waiting.any fun w => q.isFor w.1 w.2.1 w.2.2 then some d else none

/-- A packet joins its originator's queue (R46), or is refused with E_BUSY when the queue is full. -/
def Dev.enqueue (d : Dev) (q : QCmd) : Dev :=
  if 64 ≤ (d.host.queue.filter fun x => x.orig == q.orig).length then
    (d.raiseFlag F.CTRL_CMD_STAT_QUEUE_FULL).refuse q .busy []
  else d.onHost fun h => { h with queue := h.queue ++ [q] }

/-- Takes the first queued command of an originator out of the queue.
DEDUCED (unsafe): log 10. -/
def dequeue (o : Nat) : List QCmd → List QCmd
  | [] => []
  | q :: qs => if q.orig = o then qs else q :: dequeue o qs

/-- A TXN_COMMIT waits for the relayed commands its originator sent before it, whose writes are part of what it validates (R47). -/
def Dev.commitWaits (d : Dev) (o opcode : Nat) : Bool := opcode == Op.txnCommit.code && d.host.relays.any fun r => r.orig == o

/-- A command of an originator executes (R46, R47, R49): at once when nothing of that originator waits before it, and when it
is itself the oldest that waits; behind earlier ones it joins their queue.
DEDUCED (unsafe): log 9. -/
def State.command (s : State) (h : Hdr) (op : Op) (payload : List Word) (body : State → QCmd → State × Answer) : State :=
  let q : QCmd := ⟨h.orig, op.code, h.seq, h.txn, h.cookie, h.target, h.quiet, h.check, payload⟩
  if !s.dev.answers || !s.dev.pathOpen h.orig then s
  else
    let go (s : State) : State :=
      match s.dev.duplicate q with
      | some d => { s with dev := d }
      | none => s.runCommand q op body
    let waits := s.dev.commitWaits q.orig q.opcode
    match s.dev.host.queue.find? fun x => x.orig == q.orig with
    | none => if waits then { s with dev := s.dev.enqueue q } else go s
    | some x =>
      if x = q then
        if waits then s else go { s with dev := s.dev.onHost fun h => { h with queue := dequeue q.orig h.queue } }
      else { s with dev := s.dev.enqueue q }

/-- A command that needs only the device: its own meaning on the device. -/
def devBody (f : Dev → QCmd → Dev × Answer) (s : State) (q : QCmd) : State × Answer :=
  let r := f s.dev q
  ({ s with dev := r.1 }, r.2)

end Sys2Proof.Machine
end

