-- ==== Sys2Proof/Machine/TxnOps.lean ====
section
/-!
DEFINITION. Transactions (R76 to R90): shadow entries, acceptance of a commit, the groups its entries latch in, the reply.
Validation is in Machine/Validate.lean, the latches in Machine/Latch.lean.
-/
namespace Sys2Proof.Machine

open Sys2Proof

/-! ### Latch groups (R527) -/

/-- The groups an entry latches in, as frames ahead of lamp drive: 2 composition, 1 correction, 0 lamp drive and other units. -/
def latchGroups (tile : Bool) (a : Nat) : List Nat :=
  if tile then
    if a == R.KEEP_SVC_CTRL || a == R.LAMP_COR_CFG || (srecOf a).isSome then [1]
    else if a == R.COMPOSE_SLOTS || (decide (R.COMPOSE_SLOT_TIME 0 ≤ a) && decide (a < R.COMPOSE_SLOT_TIME 8)) then [1, 0]
    else [0]
  else if a == R.COMPOSE_SADDLE then [0]
  else if (decide (0xF003000000 ≤ a) && decide (a < 0xF005000000)) || a == R.KEEP_SVC_CTRL ||
      (decide (R.LINK_LOOP_CFG 0 ≤ a) && decide (a < R.LINK_LOOP_CFG 4)) then [2]
  else [0]

/-- The highest group of a set of entries: the frames from its latch to the first frame it wholly governs (R191). -/
def topGroup (tile : Bool) (es : List (Nat × Word)) : Nat :=
  (es.map fun e => ((latchGroups tile e.1).foldl max 0)).foldl max 0

/-- Every shadowed register of the spec is marked "shadowed, saddle only", so a NOW commit with entries is refused (R86).
DEDUCED (unsafe): log 23. -/
def nowAllowed (t : Txn) : Bool := t.shadows.isEmpty && t.tiles.isEmpty

/-! ### What is in force -/

/-- The device with a set of entries in force: what validation looks at (R83). -/
def Dev.overlay (d : Dev) (es : List (Nat × Word)) : Dev :=
  { d with regs := es.foldl (fun m e => putWord e.1 e.2 m) d.regs }

/-- Who a register is reserved to (R78): open transactions, by originator and TXN, and commits that have not applied, whose number is none
a write can bear (a TXN is below 256, the implied transaction of a command bears 256).
DEDUCED (unsafe): log 26. -/
def Dev.reservedTo (d : Dev) (a : Nat) : List (Nat × Nat) :=
  ((d.txns.filter fun t => t.shadows.any fun e => e.1 == a).map fun t => (t.orig, t.id)) ++
  ((d.commits.filter fun c => c.entries.any fun e => e.1 == a).map fun c => (c.orig, 257)) ++
  (match d.prepared with
   | some p => if p.entries.any fun e => e.1 == a then [(9, 257)] else []
   | none => [])

/-- Shadow entries held in the device (R79).
DEDUCED (unsafe): log 26. -/
def Dev.shadowCount (d : Dev) : Nat :=
  (d.txns.map fun t => t.shadows.length).foldl (· + ·) 0 + (d.commits.map fun c => c.entries.length).foldl (· + ·) 0 +
    (d.prepared.map fun p => p.entries.length).getD 0

/-- The entries of a transaction that are among those already counted: none of an implied one (R10). -/
def Dev.countedOf (d : Dev) (t : Txn) : Nat :=
  match d.txnOf t.orig with
  | some x => if x.id = t.id then x.shadows.length else 0
  | none => 0

/-- The value a transaction sees in a register: its shadow, or the applied value (R77).
DESIGN CHOICE (unsafe): log 12. -/
def Dev.seenBy (d : Dev) (t : Txn) (a : Nat) : Word := (lookupWord a t.shadows).getD (d.reg a)

/-! ### The reply to a commit (R90) -/

/-- The four payload words of the reply to an applied commit.
DEDUCED (unsafe): log 25. -/
def commitWords (frame entries : Nat) (late converted : Bool) (tiles missed : Nat) : List Word :=
  [Word.of frame, Word.pack [(0, 13, entries), (16, 1, late.toNat), (17, 1, converted.toNat), (32, 16, tiles), (48, 16, missed)],
   0, 0]

/-- The four payload words of the reply to a commit that failed: TILES are the tiles that held shadow entries of it.
DEDUCED (unsafe): log 24. -/
def failWords (f : Fail) (converted : Bool) (tiles missed : Nat) : List Word :=
  [Word.of f.figure, Word.pack [(17, 1, converted.toNat), (32, 16, tiles), (48, 16, missed)], Word.of f.addr,
   Word.pack [(0, 8, f.lo), (8, 8, f.width), (16, 16, f.reason), (32, 32, f.tile)]]

/-- The command a commit answers. -/
def Commit.cmd (c : Commit) : QCmd := ⟨c.orig, c.opcode, c.seq, c.txn, c.cookie, 0, false, c.check, []⟩

/-- A register that a standby of a pair mirrors: a shadowed one of INGEST, COMPOSE, LINK or TIME (R295). -/
def mirroredReg (a : Nat) : Bool :=
  match regAt a with
  | some (f, _) => f.has .rws && [3, 4, 5, 7].contains ((a - 0xF000000000) / 0x1000000)
  | none => false

/-- The saddle of the frame in progress has begun: its latch has passed (R188, R190). -/
def Dev.inSaddle (d : Dev) : Bool :=
  decide (d.frameScaled (d.frameNow + 1 : Nat) < ((d.time.wall + d.saddleNow * 10737418240) * d.tfDen : Nat))

/-- The frame whose composition latch is the next.
DEDUCED (unsafe): log 25. -/
def Dev.nextLatch (d : Dev) : Nat :=
  let m := d.frameNow + 1
  if d.inSaddle then m + 3 else m + 2

/-- The lowest group of a set of entries: the frames from the saddle its last part latches at to the first frame it governs. -/
def lowGroup (tile : Bool) (es : List (Nat × Word)) : Nat := (es.flatMap fun e => latchGroups tile e.1).foldl min 2

/-- The body of a MIRROR (R294): 0 a commit accepted, 1 its APPLY decision, 2 withdrawn; whether it holds tile writes; the frame its
composition latch serves; its entries. The layout is the model's.
DEDUCED (unsafe): log 75. -/
def mirrorBody (kind latch : Nat) (c : Commit) : List Word :=
  Word.pack [(0, 5, c.orig), (8, 8, c.txn), (16, 2, match c.mode with
    | .saddle => 0 | .now => 1 | .atTime => 2), (18, 1, (!c.tiles.isEmpty).toNat), (20, 2, kind)] ::
  Word.of latch :: (if kind = 0 then (c.entries.filter fun e => mirroredReg e.1).flatMap fun e => [Word.of e.1, e.2] else [])

/-- POWER_STATE is mirrored (R311): kind 3, with the target state. -/
def Dev.mirrorPower (d : Dev) (goal : Nat) : Dev :=
  if d.pairUp && d.pairState == psHolder then d.pairItem 0x20 [Word.pack [(16, 2, goal), (20, 2, 3)], 0] else d

/-- A commit of a holder is mirrored when the pair link is up and it writes a mirrored register (R295). -/
def Dev.mirrors (d : Dev) (c : Commit) : Bool := d.pairUp && d.pairState == psHolder && c.entries.any fun e => mirroredReg e.1

/-- Takes a commit out of those pending. -/
def Dev.dropCommit (d : Dev) (c : Commit) : Dev :=
  { d with commits := d.commits.filter fun x => !(x.orig == c.orig && x.seq == c.seq && x.check == c.check && x.txn == c.txn) }

/-- Replaces a pending commit. -/
def Dev.putCommit (d : Dev) (c : Commit) : Dev :=
  { d with commits := d.commits.map fun x =>
      if x.orig == c.orig && x.seq == c.seq && x.check == c.check && x.txn == c.txn then c else x }

/-- The TXN a commit's tiles know it by.
DESIGN CHOICE (unsafe): log 12. -/
def Commit.tileTxn (c : Commit) : Nat := if c.txn = 0 then impliedTxn else c.txn

/-- A TXN item on every loop where tiles hold a commit (R89): 0 PREPARE, 1 APPLY, 2 DROP. -/
def Dev.txnItem (d : Dev) (c : Commit) (phase : Nat) : Dev :=
  ((List.range 4).filter fun k => c.tiles.any fun t => t.1 == k).foldl (fun d k =>
    d.loopItem k 0x03 [Word.pack [(0, 2, phase), (8, 8, c.tileTxn), (16, 4, c.orig)], Word.of c.frame]) d

/-- A commit fails (R83, R89, R90): it is rolled back at the device and at its tiles, and its reply says why. -/
def Dev.failCommit (d : Dev) (c : Commit) (f : Fail) : Dev :=
  let d := if c.stage = .preparing then d.txnItem c 2 else c.tiles.foldl (fun d t => d.sendTileCommand t .txnRollback 0 c.tileTxn []) d
  let d := if d.mirrors c then d.pairItem 0x20 (mirrorBody 2 c.frame c) else d
  (d.dropCommit c).replyFrom c.cmd d.responder f.status.code f.reason false (failWords f c.converted c.tiles.length c.missed)

/-! ### Acceptance (R82, R86 to R88) -/

/-- The capacity in service (R32): KEEP_INSVC, and the ports' modes with the lanes each sends at. -/
def Dev.capacityNow (d : Dev) : List (Nat × Word) :=
  (R.KEEP_INSVC, d.reg R.KEEP_INSVC) :: (List.range 8).map fun n =>
    (R.LINK_OVL_STAT n, (d.set (F.LINK_OVL_STAT_TX_LANES n) (d.sendLanes n)).reg (R.LINK_OVL_STAT n))

/-- The wall time is past the start of frame n less some ps (R88). -/
def Dev.pastFrame (d : Dev) (n : Int) (beforePs : Nat) : Bool :=
  decide (d.frameScaled n < ((d.time.wall + beforePs * nsU / 1000) * d.tfDen : Nat))

/-- The first frame whose start lies at least 3 × Tf + 2 ms ahead (R87).
DEDUCED (unsafe): log 24. -/
def Dev.convertFrame (d : Dev) : Nat := d.frameFrom (d.time.wall + 2000000 * nsU) + 3

/-- An entry writes an address. -/
def writes (es : List (Nat × Word)) (a : Nat) : Bool := es.any fun e => e.1 == a

/-- A supervised rectangle is chained. -/
def Dev.chained (d : Dev) (r : Nat) : Bool := d.bit (F.COMPOSE_SREC_CFG_EN r) && d.bit (F.COMPOSE_SREC_CFG_CHAIN_EN r)

/-- Writes that carry a chained rectangle to the tile that owns it, and to the one that owned it before (R198), as (tile, payload).
DEDUCED (unsafe): log 118. -/
def Dev.chainPushes (d : Dev) (es : List (Nat × Word)) : List ((Nat × Nat) × List Word) :=
  let v := d.overlay es
  ((List.range 16).filter fun r => writes es (R.COMPOSE_SREC_CFG r) || writes es (R.COMPOSE_SREC_POS r)).flatMap fun r =>
    let owner (x : Dev) : List (Nat × Nat) := if x.chained r then ((x.srecOwner r).map fun t => (t.loop, t.pos)).toList else []
    ((owner d ++ owner v).eraseDups.filter fun t => (d.loopSt t.1).tiles.any fun x => x.pos == t.2).map fun t =>
      (t, [Word.of (R.COMPOSE_SREC_POS r), v.reg (R.COMPOSE_SREC_POS r), v.reg (R.COMPOSE_SREC_CFG r)])

/-- The writes of a transaction count as tile writes: it holds writes at tiles, relays some on the sender's own account, chains a
rectangle, or changes a loop's RATE (R87, R198).
DEDUCED (unsafe): log 118. -/
def Dev.tileWrites (d : Dev) (t : Txn) : Bool :=
  d.isSender &&
  (!t.tiles.isEmpty || !(d.chainPushes t.shadows).isEmpty || t.shadows.any fun e => wallTiming e.1 || e.1 == R.KEEP_SVC_CTRL ||
    (List.range 4).any fun k => e.1 == R.LINK_LOOP_CFG k &&
      Word.field e.2 (F.LINK_LOOP_CFG_RATE k).lo (F.LINK_LOOP_CFG_RATE k).width != d.get (F.LINK_LOOP_CFG_RATE k))

/-- A commit changes t0 or Tf (R88, R329). -/
def changesFrames (es : List (Nat × Word)) : Bool :=
  es.any fun e => e.1 == R.TIME_FRAME_TF || e.1 == R.TIME_FRAME_BASE_S || e.1 == R.TIME_FRAME_BASE_NS || e.1 == R.TIME_FRAME_BASE_N

/-- A change of t0 or Tf while a wall-time commit pends (R88): the first register of it. -/
def framesConflict (es : List (Nat × Word)) : Fail :=
  { status := .conflict, addr := ((es.find? fun e => changesFrames [e]).map (·.1)).getD 0 }

/-- A wall-time commit is pending. -/
def Dev.atTimePending (d : Dev) : Bool := d.commits.any (fun c => c.mode == .atTime) || d.prepared.isSome

/-- Accepts the commit of a transaction (R82): into the commits that wait for validation. The answer is none once accepted.
DESIGN CHOICE (unsafe): log 127. -/
def Dev.acceptCommit (d : Dev) (q : QCmd) (t : Txn) (mode : Nat) (time : Option (Word × Word)) : Dev × Option Fail :=
  let roll (d : Dev) : Dev := d.rollback t.orig
  let mk (m : CommitMode) (conv : Bool) (n : Nat) : Commit :=
    { orig := q.orig, opcode := q.opcode, seq := q.seq, txn := t.id, cookie := q.cookie, check := q.check, mode := m,
      converted := conv, frame := n, entries := t.shadows, left := t.shadows, stage := .validating,
      -- the latch of the saddle it is accepted in has passed (R85, R191)
      latches := (d.inSaddle && d.time.running).toNat, tiles := t.tiles, await := [], missed := t.missed, capacity := d.capacityNow }
  let accept (c : Commit) : Dev × Option Fail :=
    let pushes := if c.mode == .atTime && d.isSender then d.chainPushes t.shadows else []
    let c : Commit := { c with tiles := (c.tiles ++ pushes.map (·.1)).eraseDups }
    let d := pushes.foldl (fun d p => d.sendTileCommand p.1 .writeReg 0 c.tileTxn p.2) (d.dropTxn t.orig)
    if d.mirrors c then
      let msg := d.link.nextMsg
      let d := d.pairItem 0x20 (mirrorBody 0 (if c.mode = .atTime then c.frame else d.nextLatch) c)
      ({ d with commits := d.commits ++ [{ c with mirror := some msg }] }, none)
    else ({ d with commits := d.commits ++ [c] }, none)
  let refuse (s : Status) : Dev × Option Fail := (d, some { status := s })
  let tilesToo := d.tileWrites t
  if mode = 0 then
    if (changesFrames t.shadows && d.atTimePending) then (roll d, some (framesConflict t.shadows))
    else if tilesToo then accept (mk .atTime true d.convertFrame)
    else accept (mk .saddle false 0)
  else if mode = 1 then
    if nowAllowed t then accept (mk .now false 0) else refuse .mode
  else if mode = 2 then
    match time with
    | none => refuse .len
    | some (sec, ns) =>
      let at_ := sec.toNat * secU + Word.field ns 0 30 * nsU
      if d.time.wall + 3600 * secU < at_ then refuse .range
      else
        let n := d.frameFrom at_
        if d.pastFrame ((n : Int) - 3) 2000000000 then (roll d, some { status := .lateTime })
        else if changesFrames t.shadows && d.atTimePending then (roll d, some (framesConflict t.shadows))
        else accept (mk .atTime false n)
  else refuse .range

/-! ### Shadow writes (R77 to R79) -/

/-- One write into a transaction's shadows: the new transaction, or why it is refused. -/
def Dev.shadowWrite (d : Dev) (t : Txn) (a : Nat) (mask value : Word) : Except Status Txn :=
  match regAt a with
  | none => .error .addr
  | some (f, i) =>
    if !d.unitPresent f.unit i then .ok t
    else if !d.unitActive f.unit i || (d.isTile && a == R.COMPOSE_SLOT_MASK) then .error .role
    else if !f.has .rws then .error .noShadow
    else if (d.reservedTo a).any fun r => !(r.1 == t.orig && r.2 == t.id) then .error .busy
    else
      let old := d.seenBy t a
      let new := f.latch old ((old &&& ~~~mask) ||| (value &&& mask))
      if d.namesAbsent a new then .error .absent
      else if (lookupWord a t.shadows).isNone &&
          (decide (4096 ≤ t.shadows.length) || decide (8192 ≤ d.shadowCount + (t.shadows.length - d.countedOf t)))
      then .error .txnFull
      else .ok { t with shadows := putWord a new t.shadows }

/-- Several writes into a transaction's shadows, in order; a refused one leaves the transaction as it was (R77).
DEDUCED (unsafe): log 22. -/
def Dev.shadowWrites (d : Dev) (t : Txn) : List (Nat × Word × Word) → Except Status Txn
  | [] => .ok t
  | (a, m, v) :: rest =>
    match d.shadowWrite t a m v with
    | .ok t' => d.shadowWrites t' rest
    | .error e => .error e

end Sys2Proof.Machine
end

