-- ==== Sys2Proof/Machine/RegWrite.lean ====
section
/-!
DEFINITION. Reading and writing registers (R7, R9 to R14, R20): the view a read gives, the rules a write is held to, the
effects of a write on registers that act, and the rows that are a write of one register.
-/
namespace Sys2Proof.Machine

open Sys2Proof

/-! ### Reads -/

/-- The bits of originators with an open transaction, and with a commit pending (CTRL_TXN_OPEN). -/
def Dev.txnOpenWord (d : Dev) : Word :=
  let open_ := (List.range 10).foldl (fun m o => if (d.txnOf o).isSome then m + 2 ^ o else m) 0
  let pend := (List.range 10).foldl (fun m o => if (d.commitOf o).isSome then m + 2 ^ o else m) 0
  Word.pack [(0, 10, open_), (16, 10, pend)]

/-- What a read of an address shows (R7, R9, R20): none where no register is. Registers the device computes at the read:
the wall time, CTRL_TXN_OPEN, the results of the check-value units, the entries of the lamp map. -/
def Dev.readReg (d : Dev) (a : Nat) : Option Word :=
  if a = R.TIME_NOW_S then some (Word.of d.wallS)
  else if a = R.TIME_NOW_NS then some d.nowNsWord
  else if a = R.CTRL_TXN_OPEN then some d.txnOpenWord
  else if a = R.CTRL_CVU_RESULT 0 then some (d.cvuResult 0)
  else if a = R.CTRL_CVU_RESULT 1 then some (d.cvuResult 1)
  else if a = R.CTRL_CVU_RESULT 2 then some (d.cvuResult 2)
  else if a = R.CTRL_CVU_RESULT 3 then some (d.cvuResult 3)
  else if d.isTile && decide (R.LAMP_MAP_E 0 ≤ a) && decide (a < R.LAMP_MAP_E 4096) && a % 8 == 0 then
    some (nth d.flash.map ((a - R.LAMP_MAP_E 0) / 8) 0)
  else d.plainRead a

/-! ### Effects of a write -/

/-- The action bits of KEEP_IKEY_CTRL (R459, R470): the fuses they burn. -/
def Otp.ikeyAct (o : Otp) (d : Dev) (w : Word) : Otp :=
  let slot := Word.field w 0 2
  let o := if w.getLsbD 8 then
      { o with integrator := modifyNth o.integrator slot fun _ =>
          { key := (List.range 9).map fun i =>
              if i = 8 then Word.of (Word.field (d.reg (R.KEEP_IKEY_D 8)) 0 32) else d.reg (R.KEEP_IKEY_D i) } }
    else o
  let o := if w.getLsbD 9 then { o with integrator := modifyNth o.integrator slot fun k => { k with revoked := true } } else o
  if w.getLsbD 10 then { o with autolock := true } else o

/-- Feeds of a check-value unit by the register written: bytes of the feed width (R91, R92). -/
def feedWidth (a : Nat) : Option (Nat × Nat) :=
  if R.CTRL_CVU_CFG 0 ≤ a && a < R.CTRL_CVU_CFG 4 then
    let n := (a - R.CTRL_CVU_CFG 0) / 0x40
    if a = R.CTRL_CVU_D8 n then some (n, 1) else if a = R.CTRL_CVU_D16 n then some (n, 2)
    else if a = R.CTRL_CVU_D32 n then some (n, 4) else if a = R.CTRL_CVU_D64 n then some (n, 8) else none
  else none

/-- The registers a write changes, with what follows from it. The write has passed its rules. -/
def State.applyWrite (s : State) (a : Nat) (f : RegFam) (value : Word) : State :=
  let d := s.dev
  let old := d.reg a
  let new := f.merge old value
  match feedWidth a with
  | some (n, w) => { s with dev := d.cvuQueue n ((Word.bytes value).take w) }
  | none =>
    if a = R.KEEP_IKEY_CTRL then
      let o := s.otp.ikeyAct d new
      { s with otp := o, dev := (d.set F.KEEP_IKEY_CTRL_SLOT (Word.field new 0 2)).refreshKeys o }
    else
      { s with dev := d.writeEffect a old new value }

/-- One write of the unshadowed fields of a register under a mask (R7, R9, R11, R20): the new state, or status and DETAIL.
DEDUCED (unsafe): log 49. -/
def State.writeOne (s : State) (a : Nat) (mask value : Word) : Except (Status × Nat) State :=
  let d := s.dev
  match regAt a with
  | none => .error (.addr, 0)
  | some (f, i) =>
    if !d.unitPresent f.unit i then .ok s
    else if !d.unitActive f.unit i then .error (.role, 0)
    else
      let old := d.reg a
      -- unwritten bits keep; a flag whose bit the mask leaves out is not cleared, and a feed takes what is written
      let v := f.fields.foldl (fun w x =>
        let m := Word.mask x.lo x.width &&& mask
        if x.ty = .w1c || x.ty = .wo then w ||| (value &&& m)
        else w ||| (old &&& Word.mask x.lo x.width &&& ~~~m) ||| (value &&& m)) 0
      let touched (ty : FieldType) : Bool := f.fields.any fun x => x.ty == ty && Word.mask x.lo x.width &&& mask != 0
      if d.bit F.CTRL_BOOT_STAT_LOCKED && touched .rwl then .error (.locked, 0)
      -- the divider is the firmware's own while it trims it (R163)
      else if a = R.KEEP_AMCLK_CFG && d.bit F.INGEST_AUD_CFG_TRACK then .error (.busy, 0)
      -- check-value units 0 and 1 are the firmware's (R91)
      else if cvuReserved a then .error (.perm, 0)
      else if !f.rangeOk [.rw, .rwl] v then .error (.range, 0)
      else match d.writeRule s.otp a v with
        | some e => .error e
        | none => .ok (s.applyWrite a f v)

/-- A direct write of a register by a row: what it does, and the status it would answer.
DEDUCED (unsafe): log 111. -/
def State.writeRow (s : State) (a : Nat) (value : Word) : State :=
  if !s.dev.answers then s
  else match s.writeOne a (BitVec.allOnes 64) value with
    | .ok s' => { s' with dev := { s'.dev with lastStatus := Status.ok.code, lastDetail := 0 } }
    | .error e => { s with dev := { s.dev with lastStatus := e.1.code, lastDetail := e.2 } }

/-! ### The rows that are a write -/

/-- A write of 1 to W1C flags (R12 to R14): cleared but for those hardware sets in the same cycle, a collision sets AGAIN.
DESIGN CHOICE (unsafe): log 110. -/
def Dev.clearFlags (d : Dev) (a : Nat) (mask hwSet : Word) : Dev :=
  match regAt a with
  | none => d
  | some (f, i) =>
    if !d.unitPresent f.unit i || !d.unitActive f.unit i then d
    else
      let flags := f.fields.foldl (fun m x => if x.ty = .w1c then m ||| Word.mask x.lo x.width else m) (0 : Word)
      let agains := flags &&& Word.mask 63 1
      let plain := flags &&& ~~~(Word.mask 63 1)
      let hit := mask &&& hwSet &&& plain
      let w := d.reg a &&& ~~~(mask &&& flags)
      let w := w ||| (hwSet &&& plain)
      d.setReg a (if hit = 0 then w else w ||| agains)

/-- A status flag clear, with the flags hardware sets in the same cycle (R12, R13, R14).
DESIGN CHOICE (unsafe): log 110. -/
def execStatusFlagClear (addr : Nat) (mask hwSet : Word) (s : State) : Host.Outcome State Fault Refusal :=
  s.onDev fun d => if d.answers then d.clearFlags addr mask hwSet else d

/-- A feed of a check-value unit (R92). -/
def execCvuFeed (unit : Fin 4) (width : Nat) (value : Word) (s : State) : Host.Outcome State Fault Refusal :=
  let a := match width with
    | 1 => R.CTRL_CVU_D8 unit | 2 => R.CTRL_CVU_D16 unit | 4 => R.CTRL_CVU_D32 unit | _ => R.CTRL_CVU_D64 unit
  .next (s.writeRow a value)

/-- A write of CTRL_CVUn_INIT (R91, R92). -/
def execCvuInitLoad (unit : Fin 4) (value : Word) (s : State) : Host.Outcome State Fault Refusal :=
  .next (s.writeRow (R.CTRL_CVU_INIT unit) value)

/-- A write of CTRL_CVUn_CFG with its WIDTH (R91). -/
def execCvuWidthWrite (unit : Fin 4) (value : Word) (s : State) : Host.Outcome State Fault Refusal :=
  .next (s.writeRow (R.CTRL_CVU_CFG unit) value)

/-- A write of KEEP_AMCLK_CFG (R97).
DEDUCED (unsafe): log 49. -/
def execAmclkCfgWrite (value : Word) (s : State) : Host.Outcome State Fault Refusal :=
  .next (s.writeRow R.KEEP_AMCLK_CFG value)

/-- A write of KEEP_GATE_RUN (R111). -/
def execGateRunWrite (value : Word) (s : State) : Host.Outcome State Fault Refusal :=
  .next (s.writeRow R.KEEP_GATE_RUN value)

/-- KEEP_IKEY_CTRL.ENROL (R459): the key in KEEP_IKEY_D0 to D8 is burnt into a slot. -/
def execIkeyEnrol (slot : Nat) (s : State) : Host.Outcome State Fault Refusal :=
  .next (s.writeRow R.KEEP_IKEY_CTRL (Word.of (slot % 4 + 256)))

/-- KEEP_IKEY_CTRL.REVOKE (R459). -/
def execIkeyRevoke (slot : Nat) (s : State) : Host.Outcome State Fault Refusal :=
  .next (s.writeRow R.KEEP_IKEY_CTRL (Word.of (slot % 4 + 512)))

/-- KEEP_IKEY_CTRL.AUTOLOCK (R470). -/
def execIkeyAutolock (s : State) : Host.Outcome State Fault Refusal :=
  .next (s.writeRow R.KEEP_IKEY_CTRL (Word.of 1024))

end Sys2Proof.Machine
end

