-- ==== Sys2Proof/Machine/HostCmd.lean ====
section
/-!
DEFINITION. The commands of ch. 2 and ch. 3 that a device answers itself: identity and state, registers, memory, transactions,
subscriptions, check values, resets, time, boot lock.
-/
namespace Sys2Proof.Machine

open Sys2Proof

/-! ### Identity and state -/

/-- PING (R69): wall time in seconds and nanoseconds. -/
def bodyPing (s : State) (_q : QCmd) : State × Answer :=
  (s, .ok [Word.of s.dev.wallS, Word.of s.dev.wallNs])

/-- GET_CAPS (R42). -/
def bodyGetCaps (s : State) (_q : QCmd) : State × Answer :=
  let d := s.dev
  (s, .ok [d.reg R.KEEP_CAP0, d.reg R.KEEP_CAP1, d.reg R.KEEP_UID_LO, d.reg R.KEEP_UID_HI, d.reg R.KEEP_INSVC,
    nth d.img.fwHeader 1 0])

/-- The power state as GET_STATE shows it (R117): 2 while a transition is under way. -/
def Dev.powerWord (d : Dev) : Nat :=
  match d.power with
  | .run => 0
  | .sleep => 1
  | _ => 2

/-- GET_STATE (R117). -/
def bodyGetState (s : State) (_q : QCmd) : State × Answer :=
  (s, .ok [Word.of s.dev.powerWord, s.dev.reg R.KEEP_SVC_STAT])

/-- TIME_GET (R313): seconds, nanoseconds and the fraction, at one TCLK edge. -/
def bodyTimeGet (s : State) (_q : QCmd) : State × Answer :=
  (s, .ok [Word.of s.dev.wallS, Word.of s.dev.wallNs, Word.of s.dev.wallFrac])

/-! ### Registers -/

/-- A read inside the originator's own transaction returns the shadow (R77). -/
def Dev.readFor (d : Dev) (q : QCmd) (a : Nat) : Option Word :=
  let shadow := if q.txn = 0 then none else (d.txnOf q.orig).bind fun t => lookupWord a t.shadows
  match shadow with
  | some w => some w
  | none => d.readReg a

/-- READ_REG (R69, R77): consecutive registers.
DEDUCED (unsafe): log 20. -/
def bodyReadReg (s : State) (q : QCmd) : State × Answer :=
  let a := (nth q.payload 0 0).toNat
  let n := (nth q.payload 1 0).toNat
  if n < 1 || 1020 < n then (s, .refuse .range)
  else
    match (List.range n).mapM fun i => s.dev.readFor q (a + 8 * i) with
    | some ws =>
      -- a read of a result waits until the queue has drained (R92)
      let d := (List.range 4).foldl (fun d u =>
        if a ≤ R.CTRL_CVU_RESULT u && R.CTRL_CVU_RESULT u < a + 8 * n then d.cvuDrain u else d) s.dev
      ({ s with dev := d }, .ok ws)
    | none => (s, .refuse .addr)

/-- The writes of a WRITE_REG or WRITE_FIELD: address, mask, value (R70). -/
def writesOf (q : QCmd) (field : Bool) : List (Nat × Word × Word) :=
  let a := (nth q.payload 0 0).toNat
  if field then [(a, nth q.payload 1 0, nth q.payload 2 0)]
  else
    let vs := q.payload.drop 1
    (List.range vs.length).map fun i =>
      (if (feedWidth a).isSome then a else a + 8 * i, BitVec.allOnes 64, nth vs i 0)

/-- A register with shadowed fields. -/
def shadowedReg (a : Nat) : Bool :=
  match regAt a with
  | some (f, _) => f.has .rws
  | none => false

/-- A write that a sender relays on its own account to all its tiles (R526, R518): the registers of it that the tiles get. -/
def relayedPart (ws : List (Nat × Word × Word)) : List (Nat × Word × Word) :=
  ws.filter fun w => wallTiming w.1 || w.1 == R.KEEP_SVC_CTRL

/-- Writes of consecutive registers, as the payloads of WRITE_REG commands. -/
def registerRuns : List (Nat × Word × Word) → List (List Word)
  | [] => []
  | w :: rest =>
    match registerRuns rest with
    | (a :: vs) :: more => if a == Word.of (w.1 + 8) then (Word.of w.1 :: w.2.2 :: vs) :: more else [Word.of w.1, w.2.2] :: (a :: vs) :: more
    | more => [Word.of w.1, w.2.2] :: more

/-- Sends the tiles' part of a sender's own write, and keeps the command until they answer (R526). -/
def Dev.relayOwn (d : Dev) (q : QCmd) (txn : Nat) (field : Bool) : Dev :=
  let t : Target := ⟨0, 0, d.senderNo, 3, 0⟩
  d.relay { q with txn := txn } t true (q.txn == 0) (if field then [q.payload] else registerRuns (relayedPart (writesOf q false)))

/-- The tiles a write of the sender itself goes to: every enumerated one (R189, R236, R329, R518, R526). -/
def Dev.ownTiles (d : Dev) : List (Nat × Nat) :=
  (List.range d.loops).flatMap fun k => (d.positions k).map fun p => (k, p)

/-- A write of FULL, which the sender relays under R518 in place of R526. -/
def writesFull (ws : List (Nat × Word × Word)) : Bool := ws.any fun w => w.1 == R.KEEP_SVC_CTRL

/-- Why a write that goes to all tiles of the sender is refused (R66, R81). Of FULL a tile out of reach is a tile missed (R518). -/
def Dev.ownRefusal (d : Dev) (orig txn : Nat) (ws : List (Nat × Word × Word)) : Option Status :=
  let ks := d.targetLoops ⟨0, 0, d.senderNo, 3, 0⟩
  let busy := (ks.any fun k => decide (64 ≤ d.outstanding k)) || d.tilesHeld orig txn (List.range d.loops)
  match d.relayRefusal ⟨0, 0, d.senderNo, 3, 0⟩ with
  | some .link => if !writesFull ws then some .link else if busy then some .busy else none
  | some st => some st
  | none => if busy then some .busy else none

/-- Tiles that a write of FULL cannot even be sent to, because no loop with tiles runs (R518).
DEDUCED (unsafe): log 79. -/
def Dev.fullMissed (d : Dev) (ws : List (Nat × Word × Word)) : Nat :=
  if d.isSender && writesFull ws && !(d.ownTiles.any fun t => d.loopRuns t.1) then d.ownTiles.length else 0

/-- The implied transaction of a write outside any transaction (R10): its entries go to a commit in SADDLE mode. -/
def State.impliedCommit (s : State) (q : QCmd) (t : Txn) : State × Answer :=
  let d := { s.dev with txns := s.dev.txns.filter fun x => !(x.orig == t.orig && x.id == 256) }
  let q' := { q with txn := t.id }
  match d.acceptCommit { q with txn := 0 } { t with orig := q'.orig } 0 none with
  | (d', none) =>
    -- the originator's own open transaction is not this one
    let kept := s.dev.txns.filter fun x => x.orig == q.orig && x.id != 256
    let d' := { d' with txns := d'.txns.filter (fun x => x.orig != q.orig) ++ kept }
    ({ s with dev := d' }, .later)
  | (_, some f) => ({ s with dev := d }, .now f.status f.reason (failWords f false t.tiles.length t.missed))

/-- Writes outside any transaction, in order (R9, R10): unshadowed fields at once, shadowed ones gathered; or the first refusal.
DEDUCED (unsafe): log 11. -/
def State.writeAll (s : State) (t : Txn) : List (Nat × Word × Word) → Except (Status × Nat) (State × Txn)
  | [] => .ok (s, t)
  | (a, m, v) :: rest =>
    match regAt a with
    | none => .error (.addr, 0)
    | some (f, _) =>
      if f.has .rws then
        match s.dev.shadowWrite t a m v with
        | .ok t' => s.writeAll t' rest
        | .error e => .error (e, 0)
      else
        match s.writeOne a m v with
        | .ok s' => s'.writeAll t rest
        | .error e => .error e

/-- A WRITE_REG or WRITE_FIELD (R9, R10, R77, R526). -/
def writeBody (field : Bool) (s : State) (q : QCmd) : State × Answer :=
  let ws := writesOf q field
  let d := s.dev
  if d.isStandby && q.orig != 10 && ws.any fun w => mirroredReg w.1 then (s, .refuse .token)
  else
    let missed := d.fullMissed ws
    let toTiles := d.isSender && d.hasToken && !(relayedPart ws).isEmpty && !d.ownTiles.isEmpty && missed == 0
    if q.txn != 0 then
      let t := (d.txnOf q.orig).getD ⟨q.orig, q.txn, [], false, [], d.now, 0, []⟩
      match d.shadowWrites t ws with
      | .error .txnFull => ({ s with dev := d.onTxn q.orig fun t => { t with poisoned := true } }, .refuse .txnFull)
      | .error e => (s, .refuse e)
      | .ok t' =>
        if toTiles then
          match d.ownRefusal q.orig q.txn ws with
          | some st => (s, .refuse st)
          | none => ({ s with dev := d.relayOwn q q.txn field }, .later)
        else
          let t' := { t' with missed := t'.missed + missed }
          let d := if (d.txnOf q.orig).isSome then d.onTxn q.orig fun _ => t' else { d with txns := d.txns ++ [t'] }
          ({ s with dev := d }, .ok [])
    else
      let t : Txn := ⟨q.orig, 256, [], false, [], d.now, 0, []⟩
      match s.writeAll t ws with
      -- a refused write changes nothing, the registers before the refused one included (R7, R19, R20; DEDUCED for the other statuses)
      | .error e => (s, .now e.1 e.2 [])
      | .ok (s', t') =>
        -- a write that only absent units ignore holds nothing to commit (R7)
        if !t'.shadows.isEmpty then
          if toTiles then
            match d.ownRefusal q.orig 0 ws with
            | some st => (s, .refuse st)
            | none => ({ s' with dev := s'.dev.relayOwn q impliedTxn field }, .later)
          else s'.impliedCommit q { t' with id := 0, missed := missed }
        else (s', .ok [])

def bodyWriteReg : State → QCmd → State × Answer := writeBody false
def bodyWriteField : State → QCmd → State × Answer := writeBody true

/-! ### Memory -/

/-- Why a range of DRAM is refused (R19, R70, R126). -/
def Dev.memRefusal (d : Dev) (a len : Nat) : Option Status :=
  if d.installed < a + len then some .addr
  else if d.patternArea a len then some .perm
  else none

/-- A range overlaps another. -/
def overlaps (a la b lb : Nat) : Bool := decide (a < b + lb) && decide (b < a + la)

/-- A range a write may not touch: displayed or committed frames (R161, R192, R211), an image's source (R464). -/
def Dev.memProtected (d : Dev) (a len : Nat) : Bool :=
  d.displayed a len || d.img.jobs.any fun j => overlaps a len j.src.1 j.src.2

/-- A burst of a range came poisoned to what reads it over a port (R135): its address.
DEDUCED (unsafe): log 41. -/
def Dev.poisonIn (d : Dev) (port a len : Nat) : Option Nat :=
  (d.mc.poisoned.find? fun b => b.1 == port && overlaps a len b.2 64).map (·.2)

/-- Writes DRAM, the twin standby's too (R131, R295). -/
def State.writeDram (s : State) (a : Nat) (bs : List Byte) : State :=
  { s with mem := memPutBytes s.mem a bs, dev := (s.dev.stored a bs.length).mirrorMem a (wordsOfBytes bs) }

/-- A read by a command that met a poisoned burst answers E_INVALID with the address (R135). -/
def State.poisonAnswer (s : State) (port b : Nat) : State × Answer :=
  ({ s with dev := s.dev.clearPoison port }, .now .invalid 0x0200 [Word.of b])

/-- MEM_READ (R69, R70, R126).
DEDUCED (unsafe): log 20. -/
def bodyMemRead (s : State) (q : QCmd) : State × Answer :=
  let a := (nth q.payload 0 0).toNat
  let n := (nth q.payload 1 0).toNat
  if a % 8 ≠ 0 || n < 1 || 1020 < n then (s, .refuse .range)
  else match s.dev.memRefusal a (8 * n) with
    | some st => (s, .refuse st)
    | none =>
      if s.dev.secretRing a (8 * n) then (s, .refuse .perm)
      else match s.dev.poisonIn 18 a (8 * n) with
        | some b => s.poisonAnswer 18 b
        | none => (s, .ok (memWords s.mem a n))

/-- MEM_WRITE (R69, R70, R126, R161).
DEDUCED (unsafe): log 20. -/
def bodyMemWrite (s : State) (q : QCmd) : State × Answer :=
  let a := (nth q.payload 0 0).toNat
  let ws := q.payload.drop 1
  let len := 8 * ws.length
  if a % 8 ≠ 0 then (s, .refuse .range)
  else match s.dev.memRefusal a len with
    | some st => (s, .refuse st)
    | none =>
      if s.dev.isStandby then (s, .refuse .token)
      else if s.dev.memProtected a len then (s, .now .busy 0x0303 [])
      else (s.writeDram a (ws.flatMap Word.bytes), .ok [])

/-- DMA_IN (R70, R126, R161): `data` is what the host's memory holds.
DEDUCED (unsafe): log 21. -/
def bodyDmaIn (data : List Byte) (s : State) (q : QCmd) : State × Answer :=
  let a := (nth q.payload 1 0).toNat
  let n := (nth q.payload 2 0).toNat
  if 4 ≤ q.orig then (s, .refuse .perm)
  else if a % 64 ≠ 0 || n % 64 ≠ 0 || nth q.payload 3 0 != 0 then (s, .refuse .range)
  else match s.dev.memRefusal a n with
    | some st => (s, .refuse st)
    | none =>
      if s.dev.isStandby then (s, .refuse .token)
      else if s.dev.memProtected a n then (s, .now .busy 0x0303 [])
      else (s.writeDram a (data.take n ++ List.replicate (n - data.length) 0), .ok [Word.of n])

/-- DMA_OUT (R70, R126).
DEDUCED (unsafe): log 21. -/
def bodyDmaOut (s : State) (q : QCmd) : State × Answer :=
  let host := (nth q.payload 0 0).toNat
  let a := (nth q.payload 1 0).toNat
  let n := (nth q.payload 2 0).toNat
  if 4 ≤ q.orig then (s, .refuse .perm)
  else match s.dev.memRefusal a n with
    | some st => (s, .refuse st)
    | none =>
      if s.dev.secretRing a n then (s, .refuse .perm)
      else match s.dev.poisonIn 16 a n with
        | some b => s.poisonAnswer 16 b
        | none => ({ s with dev := s.dev.emit (.hostWrite host (memBytes s.mem a n)) }, .ok [Word.of n])

/-- CV_RUN (R91, R93): units 0 and 1 are the firmware's.
DEDUCED (unsafe): log 20. -/
def bodyCvRun (s : State) (q : QCmd) : State × Answer :=
  let w := nth q.payload 0 0
  let n := Word.field w 0 2
  let a := (nth q.payload 1 0).toNat
  let len := (nth q.payload 2 0).toNat
  let width := (nth q.payload 3 0).toNat
  if n < 2 then (s, .refuse .perm)
  else if !([1, 2, 4, 8].contains width) || a % width ≠ 0 || len % width ≠ 0 || len < 1 || 2 ^ 32 < len then (s, .refuse .range)
  else match s.dev.memRefusal a len with
    | some st => (s, .refuse st)
    | none =>
      if s.dev.secretRing a len then (s, .refuse .perm)
      else match s.dev.poisonIn 18 a len with
        | some b => s.poisonAnswer 18 b
        | none =>
          let d := s.dev.cvuDrain n
          let d := if w.getLsbD 8 then d.cvuSetInit n (Word.of (d.get (F.CTRL_CVU_INIT_INIT n))) else d
          let d := d.onCvu n fun u => { u with acc := d.cvuStep n u.acc (memBytes s.mem a len) }
          ({ s with dev := d }, .ok [d.cvuResult n])

/-! ### Transactions -/

/-- TXN_BEGIN (R76). -/
def bodyTxnBegin (s : State) (q : QCmd) : State × Answer :=
  let d := s.dev
  if q.txn = 0 then (s, .refuse .txn)
  else if (d.txnOf q.orig).isSome || (d.commitOf q.orig).isSome then (s, .refuse .busy)
  else ({ s with dev := { d with txns := d.txns ++ [⟨q.orig, q.txn, [], false, [], d.now, 0, []⟩] } }, .ok [])

/-- TXN_COMMIT (R79, R82): accepted, its reply follows when it has applied or failed.
DEDUCED (unsafe): log 23. -/
def bodyTxnCommit (s : State) (q : QCmd) : State × Answer :=
  let d := s.dev
  let mode := Word.field (nth q.payload 0 0) 0 2
  match d.txnOf q.orig with
  | none => (s, .refuse .txn)
  | some t =>
    if (mode == 2) != (q.payload.length == 3) && mode != 3 then
      ({ s with dev := d.raiseFlag F.CTRL_CMD_STAT_FORMAT_ERR }, .now .len 0 (refusalWords .txnCommit))
    else if t.poisoned then ({ s with dev := d.rollback q.orig }, .now .txnFull 0 (refusalWords .txnCommit))
    else match d.acceptCommit q t mode (if mode = 2 then some (nth q.payload 1 0, nth q.payload 2 0) else none) with
      | (d', none) => ({ s with dev := d' }, .later)
      | (d', some f) => ({ s with dev := d' }, .now f.status f.reason (failWords f false t.tiles.length t.missed))

/-- TXN_ROLLBACK (R77, R81, R90). -/
def bodyTxnRollback (s : State) (q : QCmd) : State × Answer :=
  let d := s.dev
  match d.txnOf q.orig with
  | some t =>
    if t.id = q.txn then ({ s with dev := d.rollback q.orig }, .ok [Word.of t.shadows.length])
    else (s, .refuse .busy)
  | none => (s, .refuse .busy)

/-- TXN_STATUS (R69): CTRL_TXN_OPEN and the shadow entries the originator's transaction holds. -/
def bodyTxnStatus (s : State) (q : QCmd) : State × Answer :=
  let n := ((s.dev.txnOf q.orig).map fun t => t.shadows.length).getD 0
  let m := ((s.dev.commits.filter fun c => c.orig == q.orig).map fun c => c.entries.length).foldl (· + ·) 0
  (s, .ok [s.dev.txnOpenWord, Word.of (n + m)])

/-- EVENT_SUBSCRIBE (R74): the mask is the originator's; the previous one is answered.
DEDUCED (unsafe): log 29. -/
def bodyEventSubscribe (s : State) (q : QCmd) : State × Answer :=
  let old := nth s.dev.host.masks q.orig 0
  let new := (nth q.payload 0 0).toNat
  ({ s with dev := s.dev.onHost fun h => { h with masks := modifyNth h.masks q.orig fun _ => new } }, .ok [Word.of old])

/-! ### Resets and boot lock -/

/-- RESET_REGION (R114).
DEDUCED (unsafe): log 30. -/
def bodyResetRegion (s : State) (q : QCmd) : State × Answer :=
  let r := (nth q.payload 0 0).toNat
  if r = 3 || r = 4 || r = 5 then
    -- the region INGEST holds nothing but units a tile has not or does not use (R7, R20)
    if r = 3 && !s.dev.unitPresent .ingestK 0 then (s, .refuse .absent)
    else if r = 3 && !s.dev.unitActive .ingestK 0 then (s, .refuse .role)
    else if s.dev.safe.inReset.contains r then (s, .refuse .busy)
    else ({ s with dev := s.dev.startRegionReset r }, .ok [])
  else (s, .refuse .range)

/-- What waits to be read over SPI, or to travel on the loop, leaves: a reset that a reply must precede begins after it (R69).
DEDUCED (unsafe): log 128. -/
def Dev.sendWaiting (d : Dev) (orig : Nat) : Dev :=
  if orig = 8 then
    (d.host.spi ++ d.host.spiHeld).foldl (fun d p => d.emit (.spiPacket p)) (d.onHost fun h => { h with spi := [], spiHeld := [] })
  else if orig = 9 then
    [0, 1].foldl (fun d n =>
      (nth d.link.tile.replies (d.tileEnd n) []).foldl (fun d ws => d.putParcel n ws) d) d
  else d

/-- RESET_DEVICE (R113): the reply comes before the reset (R69). -/
def bodyResetDevice (s : State) (q : QCmd) : State × Answer :=
  let s := { s with dev := (s.dev.reply q .ok 0 []).sendWaiting q.orig }
  (s.resetByCommand, .nothing)

/-- A load runs of some class (R479). -/
def Dev.loading (d : Dev) : Bool := d.img.jobs.any fun j => !j.recheck

/-- BOOT_LOCK (R470, R479). -/
def bodyBootLock (s : State) (_q : QCmd) : State × Answer :=
  if s.dev.loading then (s, .refuse .busy)
  else ({ s with dev := s.dev.set F.CTRL_BOOT_STAT_LOCKED 1 }, .ok [])

/-! ### The rows -/

/-- A command row: the command runs with its meaning.
DEDUCED (unsafe): log 9. -/
def runRow (h : Hdr) (op : Op) (payload : List Word) (body : State → QCmd → State × Answer) (s : State) :
    Host.Outcome State Fault Refusal := .next (s.command h op payload body)

/-- PING. -/
def execPing (h : Hdr) (s : State) := runRow h .ping [] bodyPing s
/-- GET_CAPS. -/
def execGetCaps (h : Hdr) (s : State) := runRow h .getCaps [] bodyGetCaps s
/-- GET_STATE. -/
def execGetState (h : Hdr) (s : State) := runRow h .getState [] bodyGetState s
/-- READ_REG. -/
def execReadReg (h : Hdr) (addr count : Nat) (s : State) := runRow h .readReg [Word.of addr, Word.of count] bodyReadReg s
/-- WRITE_REG. -/
def execWriteReg (h : Hdr) (addr : Nat) (vals : List Word) (s : State) :=
  runRow h .writeReg (Word.of addr :: vals) bodyWriteReg s
/-- WRITE_FIELD. -/
def execWriteField (h : Hdr) (addr : Nat) (mask value : Word) (s : State) :=
  runRow h .writeField [Word.of addr, mask, value] bodyWriteField s
/-- MEM_READ. -/
def execMemRead (h : Hdr) (addr count : Nat) (s : State) := runRow h .memRead [Word.of addr, Word.of count] bodyMemRead s
/-- MEM_WRITE. -/
def execMemWrite (h : Hdr) (addr : Nat) (vals : List Word) (s : State) :=
  runRow h .memWrite (Word.of addr :: vals) bodyMemWrite s
/-- DMA_IN. -/
def execDmaIn (h : Hdr) (hostAddr devAddr bytes : Nat) (flags : Word) (data : List Byte) (s : State) :=
  runRow h .dmaIn [Word.of hostAddr, Word.of devAddr, Word.of bytes, flags] (bodyDmaIn data) s
/-- DMA_OUT. -/
def execDmaOut (h : Hdr) (hostAddr devAddr bytes : Nat) (flags : Word) (s : State) :=
  runRow h .dmaOut [Word.of hostAddr, Word.of devAddr, Word.of bytes, flags] bodyDmaOut s
/-- TXN_BEGIN. -/
def execTxnBegin (h : Hdr) (s : State) := runRow h .txnBegin [] bodyTxnBegin s
/-- TXN_COMMIT. -/
def execTxnCommit (h : Hdr) (mode : Word) (time : Option (Word × Word)) (s : State) :=
  runRow h .txnCommit (mode :: match time with
    | some (a, b) => [a, b]
    | none => []) bodyTxnCommit s
/-- TXN_ROLLBACK. -/
def execTxnRollback (h : Hdr) (s : State) := runRow h .txnRollback [] bodyTxnRollback s
/-- TXN_STATUS. -/
def execTxnStatus (h : Hdr) (s : State) := runRow h .txnStatus [] bodyTxnStatus s
/-- EVENT_SUBSCRIBE. -/
def execEventSubscribe (h : Hdr) (mask : Word) (s : State) := runRow h .eventSubscribe [mask] bodyEventSubscribe s
/-- CV_RUN. -/
def execCvRun (h : Hdr) (unit : Word) (addr len width : Nat) (s : State) :=
  runRow h .cvRun [unit, Word.of addr, Word.of len, Word.of width] bodyCvRun s
/-- RESET_REGION. -/
def execResetRegion (h : Hdr) (idx : Nat) (s : State) := runRow h .resetRegion [Word.of idx] bodyResetRegion s
/-- RESET_DEVICE. -/
def execResetDevice (h : Hdr) (s : State) := runRow h .resetDevice [] bodyResetDevice s
/-- BOOT_LOCK. -/
def execBootLock (h : Hdr) (s : State) := runRow h .bootLock [] bodyBootLock s
/-- TIME_GET. -/
def execTimeGet (h : Hdr) (s : State) := runRow h .timeGet [] bodyTimeGet s

end Sys2Proof.Machine
end

