-- ==== Sys2Proof/Machine/Crypto.lean ====
section
/-!
DEFINITION. The standard functions the spec names (R283, R284, R298, R457):
SHAKE256 (FIPS 202), AES-256 (FIPS 197), GMAC
(SP 800-38D), AES key wrap (RFC 3394) and X25519 (RFC 7748). The spec gives their names; what they compute is taken from these
standards.
-/
namespace Sys2Proof.Machine

open Sys2Proof

/-- The bytes of words, least significant first (R8), as numbers. -/
def byteNats (ws : List Word) : List Nat := ws.flatMap fun w => (List.range 8).map fun i => w.field (8 * i) 8

/-- A number of so many bytes, the first the most significant. -/
def beNat (bs : List Nat) : Nat := bs.foldl (fun a b => 256 * a + b) 0

/-- The bytes of a number, most significant first. -/
def beBytes (n v : Nat) : List Nat := (List.range n).map fun i => bitsOf v (8 * (n - 1 - i)) 8

/-- A number of so many bytes, the first the least significant. -/
def leNat (bs : List Nat) : Nat := bs.foldr (fun b a => 256 * a + b) 0

/-- Word i of a string of bytes, byte 8i in [7:0]. -/
def leWord (bs : List Nat) (i : Nat) : Word := Word.of (leNat ((bs.drop (8 * i)).take 8))

/-! ### SHAKE256 (FIPS 202) -/

/-- A lane rotated towards its most significant bit. -/
def rotLane (x n : Nat) : Nat := (x <<< n % 2 ^ 64) ||| x >>> (64 - n)

/-- Rotation of the lane in column x of row y, at 5y + x. -/
def laneTurns : List Nat := [0, 1, 62, 28, 27, 36, 44, 6, 55, 20, 3, 10, 43, 25, 39, 41, 45, 15, 21, 8, 18, 2, 61, 56, 14]

/-- The constants of the 24 rounds. -/
def roundConsts : List Nat :=
  [0x0000000000000001, 0x0000000000008082, 0x800000000000808A, 0x8000000080008000, 0x000000000000808B, 0x0000000080000001,
   0x8000000080008081, 0x8000000000008009, 0x000000000000008A, 0x0000000000000088, 0x0000000080008009, 0x000000008000000A,
   0x000000008000808B, 0x800000000000008B, 0x8000000000008089, 0x8000000000008003, 0x8000000000008002, 0x8000000000000080,
   0x000000000000800A, 0x800000008000000A, 0x8000000080008081, 0x8000000000008080, 0x0000000080000001, 0x8000000080008008]

/-- One round of the permutation over 25 lanes. -/
def keccakRound (a : List Nat) (rc : Nat) : List Nat :=
  let col := (List.range 5).map fun x => (List.range 5).foldl (fun v y => v ^^^ nth a (5 * y + x) 0) 0
  let mix := (List.range 5).map fun x => nth col ((x + 4) % 5) 0 ^^^ rotLane (nth col ((x + 1) % 5) 0) 1
  let turned := (List.range 25).map fun i => rotLane (nth a i 0 ^^^ nth mix (i % 5) 0) (nth laneTurns i 0)
  -- column x of row y goes to column y of row 2x + 3y
  let b := (List.range 25).map fun i => nth turned (5 * (i % 5) + (i % 5 + 3 * (i / 5)) % 5) 0
  (List.range 25).map fun i =>
    let y := i / 5
    let v := nth b i 0 ^^^ ((2 ^ 64 - 1 - nth b (5 * y + (i + 1 - 5 * y) % 5) 0) &&& nth b (5 * y + (i + 2 - 5 * y) % 5) 0)
    if i = 0 then v ^^^ rc else v

/-- The permutation. -/
def keccak (a : List Nat) : List Nat := roundConsts.foldl keccakRound a

/-- Takes in blocks of 136 bytes. -/
def absorb : Nat → List Nat → List Nat → List Nat
  | 0, a, _ => a
  | n + 1, a, bs =>
    if bs.isEmpty then a
    else absorb n (keccak ((List.range 25).map fun i => if i < 17 then nth a i 0 ^^^ leNat ((bs.drop (8 * i)).take 8) else nth a i 0)) (bs.drop 136)

/-- The first 256 bits of SHAKE256 of a message of bytes, byte 0 in word 0 [7:0].
PRESUMED (unsafe): log 69. -/
@[irreducible] def shake256 (msg : List Nat) : List Word :=
  let n := 136 - msg.length % 136
  let pad := if n = 1 then [0x9F] else 0x1F :: List.replicate (n - 2) 0 ++ [0x80]
  let bs := msg ++ pad
  let a := absorb (bs.length / 136) (List.replicate 25 0) bs
  (List.range 4).map fun i => Word.of (nth a i 0)

/-! ### AES-256 (FIPS 197) -/

/-- The substitution box, 32 entries to a number, entry 0 lowest. -/
def aesBox : List Nat :=
  [0xc072a49cafa2d4adf04759fa7dc982ca76abd7fe2b670130c56f6bf27b777c63,
   0x75b227ebe28012079a059618c323c7041531d871f1e5a534ccf73f362693fdb7,
   0xcf584c4a39becb6a5bb1fc20ed00d153842fe329b3d63b52a05a6e1b1a2c8309,
   0xd2f3ff1021dab6bcf5389d928f40a351a89f3c507f02f94585334d43fbaaefd0,
   0xdb0b5ede14b8ee4688902a22dc4f816073195d643d7ea7c41744975fec130ccd,
   0x08ae7a65eaf4566ca94ed58d6d37c8e779e4959162acd3c25c2406490a3a32e0,
   0x9e1dc186b95735610ef6034866b53e708a8bbd4b1f74dde8c6b4a61c2e2578ba,
   0x16bb54b00f2d99416842e6bf0d89a18cdf2855cee9871e9b948ed9691198f8e1]

/-- Its inverse. -/
def aesBoxInv : List Nat :=
  [0xcbe9dec444438e3487ff2f9b8239e37cfbd7f3819ea340bf38a53630d56a0952,
   0x25d18b6d49a25b76b224d92866a12e084ec3fa420b954cee3d23c2a632947b54,
   0x849d8da75746155edab9edfd5048706c92b6655dcc5ca4d41698688664f6f872,
   0x6b8a130103bdafc1020f3fca8f1e2cd00645b3b80558e4f70ad3bc8c00abd890,
   0x6edf751ce837f9e28535ade72274ac9673e6b4f0cecff297eadc674f4111913a,
   0xf45acd78fec0db9a2079d2c64b3e56fc1bbe18aa0e62b76f89c5291d711af147,
   0xef9cc9939f7ae52d0d4ab519a97f51605fec8027591012b131c7078833a8dd1f,
   0x7d0c2155631469e126d677ba7e042b17619953833cbbebc8b0f52aae4d3be0a0]

/-- An entry of a box. -/
def boxAt (box : List Nat) (b : Nat) : Nat := bitsOf (nth box (b / 32) 0) (8 * (b % 32)) 8

/-- Byte i of a block, byte 0 the most significant. -/
def blockByte (s i : Nat) : Nat := bitsOf s (8 * (15 - i)) 8

/-- A block of bytes put through a box, byte i of the result from the byte that `f` names. -/
def aesSub (box : List Nat) (f : Nat → Nat) (s : Nat) : Nat :=
  (List.range 16).foldl (fun v i => 256 * v + boxAt box (blockByte s (f i))) 0

/-- Four copies of a 32-bit number. -/
def fourTimes (x : Nat) : Nat := x * 0x00000001000000010000000100000001

/-- Every byte of a block times x in the field of AES. -/
def aesDouble (s : Nat) : Nat :=
  ((s &&& fourTimes 0x7F7F7F7F) * 2) ^^^ (((s >>> 7) &&& fourTimes 0x01010101) * 0x1B)

/-- Every column of a block rotated by n bytes, the first byte last. -/
def aesTurn (n s : Nat) : Nat :=
  let low := 2 ^ (8 * n) - 1
  (((s &&& fourTimes (2 ^ (32 - 8 * n) - 1)) <<< (8 * n))) ||| ((s >>> (32 - 8 * n)) &&& fourTimes low)

/-- The mixing of the four columns. -/
def aesMix (s : Nat) : Nat :=
  let d := aesDouble s
  d ^^^ aesTurn 1 (d ^^^ s) ^^^ aesTurn 2 s ^^^ aesTurn 3 s

/-- Its inverse. -/
def aesMixInv (s : Nat) : Nat :=
  let q := aesDouble (aesDouble s)
  aesMix (s ^^^ q ^^^ aesTurn 2 q)

/-- A word of the key schedule put through the box, byte by byte. -/
def subWord (w : Nat) : Nat := (List.range 4).foldl (fun v i => 256 * v + boxAt aesBox (bitsOf w (8 * (3 - i)) 8)) 0

/-- The words of the key schedule, newest first. -/
def aesExpand : Nat → List Nat → List Nat
  | 0, ws => ws
  | n + 1, ws =>
    let i := ws.length
    let last := nth ws 0 0
    let t := if i % 8 = 0 then subWord (last <<< 8 % 2 ^ 32 ||| last >>> 24) ^^^ (2 ^ (i / 8 - 1) * 2 ^ 24)
      else if i % 8 = 4 then subWord last else last
    aesExpand n ((nth ws 7 0 ^^^ t) :: ws)

/-- The round keys of a key of 256 bits, all 15 as one number, the first the most significant. -/
def aesKeys (key : Nat) : Nat :=
  (aesExpand 52 ((List.range 8).map fun i => bitsOf key (32 * i) 32)).reverse.foldl (fun v w => 2 ^ 32 * v + w) 0

/-- Round key r. -/
def roundKey (ks r : Nat) : Nat := bitsOf ks (128 * (14 - r)) 128

/-- The cipher: a block under the round keys of a key. -/
def aesEnc (ks block : Nat) : Nat :=
  let shift (i : Nat) : Nat := (i + 4 * (i % 4)) % 16
  let mid := (List.range 13).foldl (fun s r => aesMix (aesSub aesBox shift s) ^^^ roundKey ks (r + 1)) (block ^^^ roundKey ks 0)
  aesSub aesBox shift mid ^^^ roundKey ks 14

/-- The inverse cipher. -/
def aesDec (ks block : Nat) : Nat :=
  let shift (i : Nat) : Nat := (i + 12 * (i % 4)) % 16
  let mid := (List.range 13).foldl (fun s r => aesMixInv (aesSub aesBoxInv shift s ^^^ roundKey ks (13 - r))) (block ^^^ roundKey ks 14)
  aesSub aesBoxInv shift mid ^^^ roundKey ks 0

/-- AES-256 of a block of 16 bytes under a key of four words.
PRESUMED (unsafe): log 69. -/
@[irreducible] def aes256 (key : List Word) (block : Nat) : Nat := aesEnc (aesKeys (beNat (byteNats key))) block

/-! ### AES key wrap (RFC 3394) -/

/-- The four blocks of a 256-bit key, as numbers with byte 0 the most significant. -/
def keyBlocks (ws : List Word) : List Nat := ws.map fun w => beNat (byteNats [w])

/-- A block as a word, byte 0 in [7:0]. -/
def blockWord (b : Nat) : Word := leWord (beBytes 8 b) 0

/-- A key of four words wrapped under another: five words.
PRESUMED (unsafe): log 69. -/
@[irreducible] def keyWrap (kp key : List Word) : List Word :=
  let ks := aesKeys (beNat (byteNats kp))
  let x := (List.range 24).foldl (fun (x : Nat × List Nat) t =>
    let b := aesEnc ks (x.1 * 2 ^ 64 + nth x.2 (t % 4) 0)
    (b / 2 ^ 64 ^^^ (t + 1), modifyNth x.2 (t % 4) fun _ => b % 2 ^ 64)) (0xA6A6A6A6A6A6A6A6, keyBlocks key)
  (x.1 :: x.2).map blockWord

/-- Five words unwrapped: the key, where the integrity block is the one of the standard.
PRESUMED (unsafe): log 69. -/
@[irreducible] def keyUnwrap (kp ws : List Word) : Option (List Word) :=
  let ks := aesKeys (beNat (byteNats kp))
  let bs := keyBlocks ws
  let x := (List.range 24).foldl (fun (x : Nat × List Nat) i =>
    let t := 23 - i
    let b := aesDec ks ((x.1 ^^^ (t + 1)) * 2 ^ 64 + nth x.2 (t % 4) 0)
    (b / 2 ^ 64, modifyNth x.2 (t % 4) fun _ => b % 2 ^ 64)) (nth bs 0 0, bs.drop 1)
  if ws.length = 5 ∧ x.1 = 0xA6A6A6A6A6A6A6A6 then some (x.2.map blockWord) else none

/-! ### GMAC (SP 800-38D) -/

/-- The product of two blocks in the field of GCM, as numbers with byte 0 the most significant. -/
def ghashMul (x y : Nat) : Nat :=
  ((List.range 128).foldl (fun (z : Nat × Nat) i =>
    (if x.testBit (127 - i) then z.1 ^^^ z.2 else z.1, z.2 / 2 ^^^ (if z.2 % 2 = 1 then 0xE1 * 2 ^ 120 else 0))) (0, y)).1

/-- The hash of blocks under H. -/
def ghash (h : Nat) (blocks : List Nat) : Nat := blocks.foldl (fun y b => ghashMul (y ^^^ b) h) 0

/-- The 128-bit tag of additional data, in bytes, under a key and an IV of 96 bits.
PRESUMED (unsafe): log 69. -/
@[irreducible] def gmacTag (key : List Word) (iv : Nat) (data : List Nat) : Nat :=
  let h := aes256 key 0
  let blocks := (List.range (ceilDiv data.length 16)).map fun i =>
    let b := (data.drop (16 * i)).take 16
    beNat b * 256 ^ (16 - b.length)
  ghash h (blocks ++ [8 * data.length * 2 ^ 64]) ^^^ aes256 key (iv * 2 ^ 32 + 1)

/-! ### X25519 (RFC 7748) -/

/-- The prime of the curve. -/
def curveP : Nat := 2 ^ 255 - 19

/-- One step of the ladder with one bit of the scalar: (x2, z2, x3, z3). -/
def ladderStep (x1 : Nat) (bit : Bool) (s : Nat × Nat × Nat × Nat) : Nat × Nat × Nat × Nat :=
  let p := curveP
  let (x2, z2, x3, z3) := if bit then (s.2.2.1, s.2.2.2, s.1, s.2.1) else s
  let a := (x2 + z2) % p
  let b := (x2 + p - z2) % p
  let aa := a * a % p
  let bb := b * b % p
  let e := (aa + p - bb) % p
  let da := ((x3 + p - z3) * a) % p
  let cb := ((x3 + z3) * b) % p
  let x5 := (da + cb) * (da + cb) % p
  let df := (da + p - cb) % p
  let z5 := x1 * (df * df % p) % p
  let x4 := aa * bb % p
  let z4 := e * ((aa + 121665 * e) % p) % p
  if bit then (x5, z5, x4, z4) else (x4, z4, x5, z5)

/-- A power modulo the prime, from the bits of the exponent below a width. -/
def powMod (base e : Nat) : Nat → Nat
  | 0 => 1
  | n + 1 =>
    let h := powMod base (e / 2) n
    h * h % curveP * (if e % 2 = 1 then base else 1) % curveP

/-- X25519 of a scalar and a u-coordinate, each as four words, least significant first.
PRESUMED (unsafe): log 69. -/
@[irreducible] def x25519 (scalar u : List Word) : List Word :=
  let k := leNat (byteNats scalar)
  -- the scalar's low three bits and bit 255 are cleared, bit 254 set
  let k := k % 2 ^ 254 / 8 * 8 + 2 ^ 254
  let x1 := leNat (byteNats u) % 2 ^ 255 % curveP
  let s := (List.range 255).foldl (fun s i => ladderStep x1 (k.testBit (254 - i)) s) (1, 0, x1, 1)
  let r := s.1 * powMod s.2.1 (curveP - 2) 255 % curveP
  (List.range 4).map fun i => Word.of (bitsOf r (64 * i) 64)

/-! ### As the device uses them (R283, R284, R298) -/

/-- The key both sides of an exchange derive from the shared secret, the two UIDs and a tag of ASCII bytes (R283, R298).
PRESUMED (unsafe): log 69. -/
def exchangeKey (secret theirs : List Word) (first second : Word × Word) (tag : List Nat) : List Word :=
  shake256 (byteNats (x25519 secret theirs ++ [first.1, first.2, second.1, second.2]) ++ tag)

/-- "OVL", "PAIR", "ENC" and "MAC". -/
def tagOvl : List Nat := [0x4F, 0x56, 0x4C]
/-- Here. -/
def tagPair : List Nat := [0x50, 0x41, 0x49, 0x52]
/-- Here. -/
def tagEnc : List Nat := [0x45, 0x4E, 0x43]
/-- Here. -/
def tagMac : List Nat := [0x4D, 0x41, 0x43]

/-- K_enc or K_mac of a loop key (R284). -/
def loopSubKey (kl : List Word) (tag : List Nat) : List Word := shake256 (byteNats kl ++ tag)

/-- CB_i of a parcel (R284). -/
def counterBlock (frame index loopid i : Nat) : Nat :=
  frame % 2 ^ 64 * 2 ^ 64 + index % 2 ^ 24 * 2 ^ 40 + loopid % 2 ^ 6 * 2 ^ 34 + i % 16

/-- The 30 payload words of a pixel parcel under the key stream of a loop key: encryption and decryption (R284).
PRESUMED (unsafe): log 69. -/
@[irreducible] def cipherPayload (kl : List Word) (frame index loopid : Nat) (pl : List Word) : List Word :=
  let ks := aesKeys (beNat (byteNats (loopSubKey kl tagEnc)))
  (List.range 15).flatMap fun i =>
    let bs := beBytes 16 (aesEnc ks (counterBlock frame index loopid i))
    [nth pl (2 * i) 0 ^^^ leWord bs 0, nth pl (2 * i + 1) 0 ^^^ leWord bs 1]

/-- The tag of a tile's pixel parcels in a frame, low word first (R284): their words 0 to 30 are the additional data.
PRESUMED (unsafe): log 69. -/
@[irreducible] def frameTag (kl : List Word) (frame loopid position : Nat) (words : List Word) : Word × Word :=
  let iv := frame % 2 ^ 64 * 2 ^ 32 + loopid % 2 ^ 6 * 2 ^ 26 + position % 2 ^ 7 * 2 ^ 19
  let bs := beBytes 16 (gmacTag (loopSubKey kl tagMac) iv (byteNats words))
  (leWord bs 0, leWord bs 1)

end Sys2Proof.Machine
end

