-- ==== Sys2Proof/Machine/Attest.lean ====
section
/-!
DEFINITION. Attestation (R474 to R477): the report, the indices of the device's key, the report of a boot that key exchanges use.
The signature of the device's own key is opaque.
-/
namespace Sys2Proof.Machine

open Sys2Proof

/-- Words of an opaque result. -/
def wordsOf (n : Nat) (f : Nat → Word) : List Word := (List.range n).map f

/-- The images a report measures (R475): those in use of CTRL_FW, KLIB and SAFETY, and of the role's own classes. -/
def Dev.measured (d : Dev) : List (Nat × Nat × List Word) :=
  let cs := [icFw, icKlib, icSafety] ++ if d.isTile then [icLprog] else [icConfig, icLayout]
  cs.filterMap fun c => (d.img.running.find? fun r => r.1 == c).map fun r => (c, r.2, ((d.cls c).slot r.2).words)

/-- Word 8 of a report. -/
def reportState (d : Dev) (o : Otp) : Word :=
  let bits (l : List KeySlot) (f : KeySlot → Bool) : Nat :=
    (List.range l.length).foldl (fun m i => if f (nth l i {}) then m + 2 ^ i else m) 0
  Word.pack [(0, 2, d.get F.KEEP_CAP1_ROLE), (2, 8, d.get F.KEEP_CAP0_VARIANT), (10, 2, d.service),
    (12, 1, d.get F.CTRL_BOOT_STAT_LOCKED), (13, 1, o.autolock.toNat), (14, 4, bits o.integrator fun k => !k.key.isEmpty),
    (18, 4, bits o.integrator (·.revoked)), (22, 2, bits o.vendor (·.revoked)), (24, 2, o.certSlot)]

/-- The words of one measured image. -/
def reportImage (x : Nat × Nat × List Word) : List Word :=
  let ws := x.2.2
  [Word.pack [(0, 8, x.1), (8, 1, x.2.1), (9, 1, (imgSigned ws).toNat), (10, 1, imgRoot ws), (11, 2, imgKeySlot ws), (32, 6, imgSvn ws)],
   imgVersion ws] ++ shake256 (byteNats (ws.take 16 ++ imgTable ws))

/-- A list of words cut or filled with zeros to a length. -/
def toLength (n : Nat) (ws : List Word) : List Word := ws.take n ++ List.replicate (n - ws.length) 0

/-- A report before its signature (R475). -/
def reportBody (d : Dev) (o : Otp) (nonce extra : List Word) : List Word :=
  let ms := d.measured
  [Word.pack [(0, 32, 0x41545354), (32, 8, 1), (40, 8, ms.length), (48, 8, extra.length)]] ++ toLength 4 nonce ++
  [o.uidLo, o.uidHi, Word.of d.wallS, reportState d o] ++ ms.flatMap reportImage ++ extra ++ toLength 9 o.devKey ++ toLength 353 o.cert

/-- XMSS_LOW (R477, R478).
DEDUCED (unsafe): log 106. -/
def Dev.xmssLow (d : Dev) (sev : Severity) : Dev := d.eventImage 0x0A icFw ((d.cls icFw).active.getD 0) 0 0 sev

/-- Takes the next index (R477): the first of a new block reserves the block in OTP; none when no index remains.
DEDUCED (unsafe): log 106. -/
def State.takeIndex (s : State) : Option (State × Nat) :=
  let i := s.dev.img.nextIndex
  let c := s.otp.xmssBlocks
  if 2 ^ 20 ≤ i then none
  else
    let s : State := if i = c * 256 then
        let left := 4096 - (c + 1)
        let d := if left = 256 then s.dev.xmssLow .warning else if left = 0 then s.dev.xmssLow .fault else s.dev
        { s with otp := { s.otp with xmssBlocks := c + 1 }, dev := d }
      else s
    let d := s.dev.onImg fun g => { g with nextIndex := i + 1 }
    some ({ s with dev := d.refreshKeys s.otp }, i)

/-- A signed report. -/
def State.report (s : State) (nonce extra : List Word) : Option (State × List Word) :=
  s.takeIndex.map fun r =>
    let body := reportBody r.1.dev r.1.otp nonce extra
    (r.1, body ++ wordsOf 353 (Config.xmssSign r.2 body))

/-- The X25519 public key of this boot (R283): the secret is generated the first time it is needed. -/
def Dev.bootKey (d : Dev) : Dev × List Word :=
  let d := if d.link.tile.secret.isEmpty then (d.onTileLink fun t => { t with secret := wordsOf 4 (Config.x25519Secret d.free) }).draw else d
  (d, x25519 d.link.tile.secret [9, 0, 0, 0])

/-- The report of this boot for key exchanges (R475): signed once, at the first time it is needed. -/
def State.keyReport (s : State) : Option (State × List Word) :=
  if !s.dev.img.keyReport.isEmpty then some (s, s.dev.img.keyReport)
  else
    let k := s.dev.bootKey
    (({ s with dev := k.1 } : State).report [] k.2).map fun r =>
      ({ r.1 with dev := r.1.dev.onImg fun g => { g with keyReport := r.2 } }, r.2)

/-! ### Reports of other devices (R475, R476) -/

/-- Images a report measures, and extra words it carries. -/
def reportImages (ws : List Word) : Nat := Word.field (nth ws 0 0) 40 8
def reportExtra (ws : List Word) : Nat := Word.field (nth ws 0 0) 48 8

/-- The UID of a report's device. -/
def reportUid (ws : List Word) : Word × Word := (nth ws 5 0, nth ws 6 0)

/-- The X25519 key of a key report. -/
def reportKey (ws : List Word) : List Word := (ws.drop (9 + 6 * reportImages ws)).take 4

/-- Header word 1 of the CTRL_FW a report measures. -/
def reportFw (ws : List Word) : Option Word :=
  ((List.range (reportImages ws)).find? fun k => Word.field (nth ws (9 + 6 * k) 0) 0 8 == icFw).map fun k => nth ws (10 + 6 * k) 0

/-- What R476 asks of a key report but for its two signatures: its form, the zero nonce with X = 4, a vendor slot that stands here, the
UID expected where one is known, LOCKED where the device is, a version that fits.
PRESUMED (unsafe): log 69. -/
def Dev.reportFits (d : Dev) (uid : Option (Word × Word)) (version : Word → Bool) (ws : List Word) : Bool :=
  let slot := Word.field (nth ws 8 0) 24 2
  Word.field (nth ws 0 0) 0 32 == 0x41545354 && Word.field (nth ws 0 0) 32 8 == 1 && reportExtra ws == 4 &&
  ws.length == 9 + 6 * reportImages ws + 4 + 9 + 353 + 353 && ((ws.drop 1).take 4).all (· == 0) &&
  (d.get F.KEEP_KEY_INFO_V_PRESENT).testBit slot && !(d.get F.KEEP_KEY_INFO_V_REVOKED).testBit slot &&
  (uid.all fun u => u == reportUid ws) && (!d.bit F.CTRL_BOOT_STAT_LOCKED || (nth ws 8 0).getLsbD 12) && (reportFw ws).any version

/-- A tile's report, at its sender (R471, R476). -/
def Dev.tileReportFits (d : Dev) (k pos : Nat) (ws : List Word) : Bool :=
  match (d.loopSt k).tiles.find? fun t => t.pos == pos with
  | some t => d.reportFits (some (t.uidLo, t.uidHi)) (fun v => compatible (d.reg R.CTRL_FW_VER) (d.reg R.CTRL_FW_WIN_T) v t.fwWin) ws
  | none => false

/-- A sender's report, at a tile: no message gives the tile its sender's UID or TILE window.
DEDUCED (unsafe): log 68. -/
def Dev.senderReportFits (d : Dev) (ws : List Word) : Bool :=
  d.reportFits none (Machine.inWindow (d.reg R.CTRL_FW_WIN_S)) ws

/-- The report of a twin partner. -/
def Dev.pairReportFits (d : Dev) (ws : List Word) : Bool :=
  d.reportFits (if d.twin.partnerLo = 0 ∧ d.twin.partnerHi = 0 then none else some (d.twin.partnerLo, d.twin.partnerHi))
    (Machine.inWindow (d.reg R.CTRL_FW_WIN_P)) ws

end Sys2Proof.Machine
end

