-- ==== Sys2Proof/Machine/ComposeLatch.lean ====
section
/-!
DEFINITION. What a composition latch does on a sender (R190): scaler bindings, source selection, layers that are not ready,
kernel blocks, and the set that composition of the latched frame works with.
-/
namespace Sys2Proof.Machine

open Sys2Proof

/-! ### Times of a frame -/

/-- The start of frame N in ps of wall time, rounded down. -/
def Dev.framePs (d : Dev) (n : Int) : Int := if d.tfDen = 0 then 0 else d.frameScaled n * 1000 / ((d.tfDen * nsU : Nat) : Int)

/-- The composition latch L_N in ps: F_{N-2} less the saddle in force (R185). -/
def Dev.latchPs (d : Dev) (n : Nat) : Int := d.framePs ((n : Int) - 2) - (d.saddleNow * 2500 : Nat)

/-! ### Bindings (R177, R179) -/

/-- COMPOSE_SCLs_INFO follows the bindings.
DEDUCED (unsafe): log 44. -/
def Dev.refreshScalers (d : Dev) : Dev :=
  let bs := d.compose.binds
  (List.range d.variant.scalers).foldl (fun d s =>
    let load := d.loadUsed bs s
    d.setAll [(F.COMPOSE_SCL_INFO_PIPE s, (scalerLoop bs s).getD 15),
      (F.COMPOSE_SCL_INFO_LAYERS s, satTo 15 (bs.filter fun b => b.scaler == some s).length),
      (F.COMPOSE_SCL_INFO_LB_USED s, linesUsed bs s),
      (F.COMPOSE_SCL_INFO_LOAD_PCT s, if load.2 = 0 then 0 else satTo 255 (load.1 * 100 / (load.2 * scalerRate)))]) d

/-- How a binding changed (R200): hidden, below its VTAPS where it was not or with fewer taps, back towards VTAPS; 0 for neither. -/
def bindCause (old : Option Binding) (b : Binding) : Nat :=
  let was := (old.map (·.taps)).getD b.vtaps
  let short := old.any fun x => decide (x.taps < x.vtaps)
  if b.taps = 0 then (if was = 0 then 0 else 0x05)
  else if b.taps < b.vtaps then (if !short || b.taps < was then 0x03 else if was < b.taps then 0x04 else 0)
  else if short then 0x04 else 0

/-- A binding's flags, where it was tapped afresh, and its EV_PICTURE (R178, R179, R200). -/
def Dev.bindChange (d : Dev) (frame : Nat) (afresh : Bool) (old : Option Binding) (b : Binding) : Dev :=
  let old := old.filter fun x => x.crop != 0
  if b.crop = 0 then d
  else
    let d := if !(afresh || b.scaler.isSome || old.isNone) then d
      else if b.taps = 0 then (d.raiseFlag (F.LAYER_STAT_HIDDEN_LB b.layer)).raiseFlag F.COMPOSE_STAT_HIDDEN_LB
      else if b.taps < b.vtaps then (d.raiseFlag (F.LAYER_STAT_TAPS_REDUCED b.layer)).raiseFlag F.COMPOSE_STAT_TAPS_REDUCED else d
    let cause := bindCause old b
    if cause = 0 then d
    else d.eventPicture (R.LAYER_STAT b.layer) cause b.layer (2 ^ b.loop) 0 frame (if cause = 0x04 then .info else .warning)

/-- Bindings at a latch: afresh where a commit applied, else re-tapped. -/
def Dev.bindLatch (d : Dev) (frame : Nat) (applied : Bool) : Dev :=
  let old := d.compose.binds
  let new := if applied then d.bindAll else d.retap old
  let d := d.onCompose fun c => { c with binds := new }
  (new.foldl (fun d b => d.bindChange frame applied (old.find? fun x => x.layer == b.layer && x.loop == b.loop) b) d).refreshScalers

/-! ### Kernel blocks (R209 to R216) -/

/-- The kernel's own rules on a block.
DEDUCED (unsafe): log 56. -/
def kernelRules (id : Nat) (ws : List Word) : Bool :=
  let n := ws.length
  let w (i : Nat) : Word := nth ws i 0
  let params := (ws.drop 1).take (n - 2)
  match id with
  | 0x0101 =>
    let gx := Word.field (w 1) 0 8
    let gy := Word.field (w 1) 8 8
    decide (2 ≤ gx) && decide (gx ≤ 31) && decide (2 ≤ gy) && decide (gy ≤ 31) && decide (Word.field (w 1) 16 2 < 2) &&
      Word.field (w 1) 18 46 == 0 && n == gx * gy + 3 && (params.drop 1).all fun p => Word.field p 32 32 == 0
  | 0x0102 =>
    let lut := Word.bit (w 1) 0
    let okEntry (p : Word) : Bool :=
      [0, 16, 32].all (fun lo => decide (Word.field p lo 16 ≤ full15)) && Word.field p 48 16 == 0
    Word.field (w 1) 1 63 == 0 && n == (if lut then 735 else 6) && (params.drop 4).all okEntry
  | 0x0103 => Word.field (w 1) 1 63 == 0 && n == 3
  | 0x0104 =>
    n == 10 && params.all fun p =>
      let op := Word.field p 0 4
      decide (op ≤ 4) && Word.field p 4 12 == 0 && (op != 3 || decide (Word.field p 16 16 ≤ full15)) &&
        (op != 4 || [16, 32, 48].all fun lo => decide (Word.field p lo 16 ≤ full15))
  | _ => false

/-- The checks the firmware makes while it copies a block (R210). -/
def Dev.blockOk (d : Dev) (j : Nat) (ws : List Word) : Bool :=
  let n := d.get (F.COMPOSE_KSTAGE_PARAM_WORDS j)
  let w0 := nth ws 0 0
  let id := d.get (F.COMPOSE_KSTAGE_CFG_KERNEL_ID j)
  Word.field w0 0 16 == id && Word.field w0 16 8 == 1 && Word.field w0 24 4 == d.get (F.COMPOSE_KSTAGE_CFG_MARGIN j) &&
  Word.field w0 28 4 == 0 && Word.field w0 32 11 == n && Word.field w0 43 21 == 0 && decide (3 ≤ n) &&
  nth ws (n - 1) 0 == Word.of (checkWord 0 (ws.take (n - 1))).toNat && kernelRules id ws

/-- Stage slots whose registers a latch wrote: each enabled one's block is copied and checked. -/
def Dev.blockLatch (d : Dev) (m : List Host.Cell) (frame : Nat) (js : List Nat) : Dev :=
  js.foldl (fun d j =>
    let keep (d : Dev) (l : List (Nat × List Word)) (bad : List Nat) : Dev :=
      d.onCompose fun c => { c with blocks := l ++ c.blocks.filter (fun b => b.1 != j), badBlocks := bad ++ c.badBlocks.filter (· != j) }
    if !d.bit (F.COMPOSE_KSTAGE_CFG_EN j) then (keep d [] []).set (F.COMPOSE_KSTAGE_STAT_ACTIVE j) 0
    else
      let ws := memWords m (d.get (F.COMPOSE_KSTAGE_PARAM_ADDR j)) (d.get (F.COMPOSE_KSTAGE_PARAM_WORDS j))
      if d.blockOk j ws then (keep d [(j, ws)] []).set (F.COMPOSE_KSTAGE_STAT_ACTIVE j) 1
      else
        (((keep d [] [j]).set (F.COMPOSE_KSTAGE_STAT_ACTIVE j) 0).raiseFlag (F.COMPOSE_KSTAGE_STAT_PARAM_BAD j)).eventPicture
          (R.COMPOSE_KSTAGE_STAT j) 0x0A j 0 0 frame .warning) d

/-- The next epoch: 0xFFFF_FFFF is followed by 1 (R15).
DEDUCED (unsafe): log 114. -/
def nextEpoch (e : Nat) : Nat := if 0xFFFFFFFF ≤ e then 1 else e + 1

/-- Stage slots that commits wrote and whose blocks have not been copied are copied now (R201, R210, R230).
DEDUCED (unsafe): log 114. -/
def Dev.copyStale (d : Dev) (m : List Host.Cell) (frame : Nat) : Dev :=
  (d.blockLatch m frame d.compose.stale).onCompose fun c => { c with stale := [] }

/-! ### Layers (R193 to R195) -/

/-- What a source shows for a display frame: its selected frame (R158), or a memory source's current one (R160). -/
def Dev.sourceShown (d : Dev) (n frame : Nat) (blend : Bool) (latch : Int) : Option Shown :=
  let s := d.source n
  let base := d.get (F.INGEST_SRC_BASE_BASE n)
  let store := d.get (F.INGEST_SRC_CFG_STORE n)
  if !isLive n then
    some ⟨n, base + s.clip * d.slotBytes n, store, d.get (F.INGEST_SRC_GEOM_WIDTH n), d.get (F.INGEST_SRC_GEOM_HEIGHT n), 0, false, s.clip,
      none, (1, 1)⟩
  else
    match s.picks.find? fun p => p.1 == frame with
    | none => none
    | some (_, f) =>
      let at_ (slot : Nat) : Nat := base + slot * d.slotBytes n
      let before := if blend then s.frames.find? fun g => decide (g.serial < f.serial) else none
      let weight : Nat × Nat := match before with
        | none => (1, 1)
        | some g =>
          let gap : Int := (f.key : Int) - g.key
          let t : Int := latch - (d.get (F.INGEST_SRC_CFG_DELAY_US n) * usPs : Nat) - gap
          if gap ≤ 0 then (1, 1) else ((clampInt 0 gap (t - g.key)).toNat, gap.toNat)
      some ⟨n, at_ f.slot, store, f.w, f.h, f.tf, false, f.key, before.map fun g => (at_ g.slot, g.w, g.h), weight⟩

/-- A layer's stage is FRC_BLEND. -/
def Dev.layerBlends (d : Dev) (l : Nat) : Bool :=
  d.layerStage l != 0 && d.get (F.COMPOSE_KSTAGE_CFG_KERNEL_ID (d.layerStage l)) == 0x0103

/-- A video port's received mode gives the layer no usable crop (R173, R193). -/
def Dev.modeBad (d : Dev) (l : Nat) : Bool :=
  let n := d.get (F.LAYER_SRC_SOURCE l)
  if 4 ≤ n || d.unsized n then false
  else
    let c := d.effCrop l
    let r := d.layerDst l
    c.1 == 0 || c.2 == 0 || !ratioOk c.1 r.2.2.1 || !ratioOk c.2 r.2.2.2

/-- A layer is ready for frame N (R193, R210).
DEDUCED (unsafe): log 51. -/
def Dev.layerReady (d : Dev) (l frame : Nat) : Bool :=
  let n := d.get (F.LAYER_SRC_SOURCE l)
  let stale := d.get (F.LAYER_SRC_STALE_FRAMES l)
  d.sourceReady n frame && d.bit (F.INGEST_SRC_STAT_HAS_FRAME n) &&
  !(decide (n < 4) && d.vinBad n) && !d.modeBad l &&
  !(isLive n && decide (0 < stale) && decide (stale ≤ (d.source n).stale)) &&
  !d.compose.badBlocks.contains (d.layerStage l)

/-- Display frames since each live source's newest frame changed (R193). -/
def Dev.countStale (d : Dev) : Dev :=
  d.onIngest fun i => { i with sources := i.sources.map fun s =>
    if s.serial = s.staleSerial then { s with stale := s.stale + 1 } else { s with stale := 0, staleSerial := s.serial } }

/-- Source frames of FRC_BLEND layers held beside the selected ones (R215). -/
def Dev.holdBefore (d : Dev) (frame : Nat) : Dev :=
  (d.enabledLayers.filter d.layerBlends).foldl (fun d l =>
    let n := d.get (F.LAYER_SRC_SOURCE l)
    let s := d.source n
    match s.picks.find? fun p => p.1 == frame with
    | none => d
    | some (_, f) => match s.frames.find? fun g => decide (g.serial < f.serial) with
      | some g => d.onSource n fun s => { s with picks := s.picks ++ [(frame, g)] }
      | none => d) d

/-- One layer at the latch: what it shows, its flags and events (R193 to R195). -/
def Dev.latchLayer (d : Dev) (frame l : Nat) (latch : Int) : Dev × Option Shown :=
  let run := nth d.compose.layers l {}
  let setRun (d : Dev) (f : LayerRun → LayerRun) : Dev := d.onCompose fun c => { c with layers := modifyNth c.layers l f }
  if !d.bit (F.LAYER_SRC_EN l) then
    ((setRun d fun _ => {}).setAll [(F.LAYER_STAT_READY l, 0), (F.LAYER_STAT_SCALED l, 0), (F.LAYER_STAT_TAPS_IN_USE l, 0),
      (F.LAYER_STAT_SCALERS l, 0)], none)
  else
    let n := d.get (F.LAYER_SRC_SOURCE l)
    let bs := if d.layerScaled l then d.compose.binds.filter fun b => b.layer == l else []
    let taps := (bs.map (·.taps)).filter (0 < ·)
    let d := d.setAll [(F.LAYER_STAT_SCALED l, (d.layerScaled l).toNat),
      (F.LAYER_STAT_TAPS_IN_USE l, if taps.isEmpty then 0 else taps.foldl min 15),
      (F.LAYER_STAT_SCALERS l, bs.foldl (fun m b => match b.scaler with
        | some s => m ||| 2 ^ s
        | none => m) 0)]
    if d.layerReady l frame then
      let sh := d.sourceShown n frame (d.layerBlends l) latch
      let d := (setRun d fun _ => ⟨sh, false⟩).set (F.LAYER_STAT_READY l) 1
      (if run.notReady then d.eventPicture (R.LAYER_STAT l) 0x02 l 0 0 frame .info else d, sh)
    else
      let sh := match d.get (F.LAYER_SRC_POLICY l) with
        | 0 => if d.bit (F.INGEST_SRC_CFG_EN n) then run.last else none
        | 1 => none
        | _ =>
          let m := d.get (F.LAYER_SRC_SLATE_SRC l)
          if d.bit (F.INGEST_SRC_CFG_EN m) then (d.sourceShown m frame false latch).map fun s => { s with slate := true } else none
      let last := if d.bit (F.INGEST_SRC_CFG_EN n) then run.last else none
      let d := (setRun d fun _ => ⟨last, true⟩).set (F.LAYER_STAT_READY l) 0
      let d := (((d.raiseFlag (F.LAYER_STAT_NOT_READY l)).bump (F.LAYER_STAT_NOTREADY_CNT l)).raiseFlag F.COMPOSE_STAT_NOT_READY)
      (if run.notReady then d else d.eventPicture (R.LAYER_STAT l) 0x01 l 0 0 frame .warning, sh)

/-- Every layer at the latch. -/
def Dev.latchLayers (d : Dev) (frame : Nat) (latch : Int) : Dev × List (Option Shown) :=
  (List.range 32).foldl (fun r l =>
    let x := r.1.latchLayer frame l latch
    (x.1, r.2 ++ [x.2])) (d, [])

/-! ### The latch -/

/-- COMPOSE_SLOT_STAT's figures, against the capacity in service (R249, R251). -/
def Dev.useLatch (d : Dev) : Dev :=
  let use := (List.range d.loops).map fun k => max (match d.budgetRate k with
    | some r => d.share (loopTerm (d.frameParcels k) r)
    | none => 0) (d.share (d.pipeTerm k))
  let d := d.set F.COMPOSE_SLOT_STAT_Q d.slotQ
  if d.isSender then d.set F.COMPOSE_SLOT_STAT_USE_PERMILLE (satTo 1023 (use.foldl max 0)) else d

/-- The terms validation measured, for the configuration now in force (R223, R249). -/
def Dev.loadLatch (d : Dev) : Dev :=
  (d.onCompose fun c =>
    { c with load := if d.isSender then d.senderLoad else c.load, parcels := (List.range 4).map d.frameParcels }).useLatch

/-- The composition latch of frame N on a sender (R190): `applied` says whether a commit applied, `given` are the selections the holder
of a pair sent (R296). -/
def Dev.latchCompose (d : Dev) (m : List Host.Cell) (frame : Nat) (applied : Bool) (given : List (Nat × StoredFrame)) : Dev :=
  let latch := d.latchPs frame
  let d := if applied then d.loadLatch else d
  let d := d.bindLatch frame applied
  let d := (d.copyStale m frame).assignSets frame false !d.compose.stale.isEmpty
  let d := d.countStale
  let d := (d.selectSources frame latch (d.framePs frame) given).holdBefore frame
  let r := d.latchLayers frame latch
  let d := r.1
  let set : ComposeSet := {
    frame := frame, regs := d.regs, layers := r.2, binds := d.compose.binds, blocks := d.compose.blocks
    mask := d.get F.COMPOSE_SLOT_MASK_MASK, plain := d.service == 1 }
  let areas := r.2.filterMap fun x => x.map fun s => (s.base, strideOf s.store s.w * s.h, frame)
  d.onCompose fun c => { c with next := some set, relatch := none, reading := areas ++ c.reading }

end Sys2Proof.Machine
end

