-- ==== Sys2Proof/Machine/Lanes.lean ====
section
/-!
DEFINITION. Lamp lanes (R373 to R389, R396 to R405): upload and swap events, PWM cycles, scan lines, proof visits, the lane program's
instructions, and what a readback of open and short flags brings.
-/
namespace Sys2Proof.Machine

open Sys2Proof

/-! ### Faults of emitters (R397, R398, R404) -/

/-- TILE_OFF and WALL_OFF latch the tile dark (R404, R405). -/
def Dev.policyDark (d : Dev) : Dev :=
  match d.get F.LAMP_FAULT_CFG_POLICY with
  | 2 => d.latchDark false
  | 3 => d.latchDark true
  | _ => d

/-- A declared open (cause 1) or short (cause 2) of an emitter (R397), handled under the policy. -/
def Dev.lampFault (d : Dev) (j e cause : Nat) : Dev :=
  let d := d.raiseFlag (if cause = 1 then F.LAMP_DIAG_STAT_OPEN else F.LAMP_DIAG_STAT_SHORT)
  let d := d.eventLamp R.LAMP_DIAG_STAT cause 0 j (2 ^ e) cause 0 .warning
  if d.get F.LAMP_FAULT_CFG_POLICY = 0 then (d.enterMap j (2 ^ e) cause).1 else d.policyDark

/-- A run stands at this value once its fault has been declared.
DEDUCED (unsafe): log 95. -/
abbrev declaredRun : Nat := 16

/-- A run after one more visit that reports the flag, and whether the fault is declared with it (R397).
DEDUCED (unsafe): log 95. -/
def runAfter (n r : Nat) : Nat × Bool := if declaredRun ≤ r then (r, false) else if n ≤ r + 1 then (declaredRun, true) else (r + 1, false)

/-- Runs of equal flags of an emitter. -/
def Dev.runsOf (d : Dev) (k : Nat) : Nat × Nat := ((d.lamp.counts.find? fun c => c.1 == k).map (·.2)).getD (0, 0)

/-- One counted visit of an emitter (R397, R402): clean visits restart the count. It has been visited and is not due, unless it was
due and its proof reported a flag. -/
def Dev.seeEmitter (d : Dev) (x : Seen) (shortCounts : Bool) : Dev :=
  let k := 4 * x.lamp + x.em
  let r := d.runsOf k
  let n := d.get F.LAMP_FAULT_CFG_CONFIRM
  let o := if x.isOpen then runAfter n r.1 else (0, false)
  let s := if x.short && shortCounts then runAfter n r.2 else (0, false)
  let others := d.lamp.counts.filter fun c => c.1 != k
  let keep := (x.isOpen || x.short) && d.isDue x.lamp x.em
  let d := d.onLamp fun l => { l with counts := if o.1 = 0 && s.1 = 0 then others else (k, o.1, s.1) :: others }
  let d := if keep then d else d.onLamp fun l => { l with
    visits := (k, d.litNow) :: l.visits.filter fun v => v.1 != k
    due := l.due.filter fun v => v.1 != k
    unverified := l.unverified.filter fun v => v.1 != k }
  let d := if o.2 then d.lampFault x.lamp x.em 1 else d
  if s.2 then d.lampFault x.lamp x.em 2 else d

/-- The scan line of a lamp in a group. -/
def Dev.lineOf (d : Dev) (g j : Nat) : Nat :=
  let grp := nth d.prog.groups g {}
  if d.tileW = 0 || d.prog.lines = 0 then 0 else (j / d.tileW - grp.gy) % d.prog.lines

/-- At least half of the eligible emitters of a line of a group report short, of some. -/
def Dev.halfShort (d : Dev) (g s : Nat) (seen : List Seen) : Bool :=
  let on := seen.filter fun x => x.counts && d.lineOf g x.lamp == s
  !on.isEmpty && decide (on.length ≤ 2 * (on.filter (·.short)).length)

/-- A scan short of line s is declared (R398): the line stays off. -/
def Dev.scanShort (d : Dev) (s : Nat) : Dev :=
  let d := d.onLamp fun l => { l with deadLines := s :: l.deadLines }
  let d := d.setAll [(F.LAMP_DIAG_STAT_SCAN_SHORT, 1), (F.LAMP_DIAG_STAT_LINE, s)]
  (d.eventLamp R.LAMP_DIAG_STAT 0x03 s 0 0 0 0 .fault).policyDark

/-- The runs of half-short lines of a group after a readback.
DEDUCED (unsafe): log 95. -/
def Dev.lineRun (d : Dev) (g s : Nat) : Nat := ((d.lamp.lineRuns.find? fun r => r.1 == g && r.2.1 == s).map (·.2.2)).getD 0

/-- A batch of readbacks, one of each group: scan shorts first, then the emitters (R397, R398). -/
def Dev.readBatch (d : Dev) : Dev :=
  let reads := d.lamp.reads
  let lines := List.range d.prog.lines
  let runs := reads.flatMap fun r => lines.filterMap fun s =>
    if r.2.any fun x => x.counts && d.lineOf r.1 x.lamp == s then
      some (r.1, s, if d.halfShort r.1 s r.2 then d.lineRun r.1 s + 1 else 0)
    else none
  let d := d.onLamp fun l => { l with
    reads := [], lineRuns := runs ++ l.lineRuns.filter fun o => !runs.any fun n => n.1 == o.1 && n.2.1 == o.2.1 }
  let n := d.get F.LAMP_FAULT_CFG_CONFIRM
  let bad := lines.filter fun s => decide (2 ≤ (d.lamp.lineRuns.filter fun r => r.2.1 == s && decide (n ≤ r.2.2)).length)
  let d := (bad.filter fun s => !d.lamp.deadLines.contains s).foldl (fun d s => d.scanShort s) d
  let d := reads.foldl (fun d r => r.2.foldl (fun d x =>
    if x.counts then d.seeEmitter x (!d.lamp.deadLines.contains (d.lineOf r.1 x.lamp)) else d) d) d
  d.refreshCover.refreshLit

/-- GS × T_on reaches 2,000 ns (R396). -/
def Dev.eligible (d : Dev) (slot gs : Nat) : Bool :=
  let w := d.onWindow slot
  decide (2000 * 65536 * (w.2 : Int) ≤ (gs : Int) * w.1)

/-- What a group's flags say (R396): pairs of open and short, by lane and walk order. -/
def Dev.groupSeen (d : Dev) (g : Nat) : List Seen :=
  let p := d.prog
  let grp := nth p.groups g {}
  let r := d.group g
  let proof := if r.routine = 3 then some r.line else none
  let per := p.places grp proof
  if !p.rb || per = 0 || d.tileN = 0 then []
  else (List.range (min (r.flags.length / 2) (per * grp.lanes))).filterMap fun i =>
    let (x, y, e) := p.place grp (i / per) proof (i % per)
    let j := y * d.tileW + x
    let seen (c : Bool) : Seen := ⟨j, e, nth r.flags (2 * i) false, nth r.flags (2 * i + 1) false, c⟩
    if r.routine = 3 then some (seen (d.isDue j e))
    else r.diag.map fun u => seen (d.eligible u.slot (d.uploadGs u x y e))

/-- A group hands in its readback; the batch is complete when every group in use has. -/
def Dev.handIn (d : Dev) (g : Nat) : Dev :=
  let seen := d.groupSeen g
  if seen.isEmpty then d
  else
    let d := if d.lamp.reads.any fun r => r.1 == g then d.readBatch else d
    let d := d.onLamp fun l => { l with reads := l.reads ++ [(g, seen)] }
    -- a line whose proof reported a flag is proven again at the next visit (R402)
    let d := if (d.group g).routine = lrProof && seen.any (fun x => x.counts && (x.isOpen || x.short)) then
        d.onLamp fun l => { l with proofLine := (d.group g).line + d.prog.lines - 1 } else d
    if d.groupsUsed.all fun h => d.lamp.reads.any fun r => r.1 == h then d.readBatch else d

/-! ### Slots (R382, R386 to R388) -/

/-- SLOT_UPLOAD: the UPLOAD event of a slot of frame n, at the start of its window or the lamp-drive latch. -/
def execSlotUpload (n slot : Nat) (s : State) : Host.Outcome State Fault Refusal :=
  s.onDev fun d =>
    if !d.lampsRun || !d.slotLit n slot then d
    else
      let first := d.composedSlots.head? == some slot
      let b := d.lampEdge n (d.slotStart slot) 1 - (d.uploadWindow slot * 2500 : Nat)
      let l := d.lampEdge n 0 1 - (d.saddleNow * 2500 : Nat)
      let t := if first && decide (b < l) then l else b
      let d := d.laneEvent leUpload t
      d.groupsUsed.foldl (fun d g =>
        match (d.group g).routine with
        | 0 => d.startUpload g n slot t
        | 2 => d.onGroup g fun x => { x with owed := some (n, slot, t) }
        | _ => d) d

/-- A group at the start of a slot (R387): its upload reached END, or the group is blank for the slot. An upload of a later slot that
began at this very instant waits for SWAP's END (R379).
DEDUCED (unsafe): log 93. -/
def Dev.swapGroup (d : Dev) (n slot g : Nat) (t : Int) : Dev :=
  let x := d.group g
  let ok := x.done.any fun u => u.frame == n && u.slot == slot
  let mask := d.get F.LAMP_DRV_STAT_LATE_GRP
  let d := if ok then
      (d.set F.LAMP_DRV_STAT_LATE_GRP (Sys2Proof.setBit mask g false)).onGroup g fun x => { x with late := false, diag := x.on, on := x.done }
    else
      ((d.setAll [(F.LAMP_DRV_STAT_LATE_GRP, Sys2Proof.setBit mask g true), (F.LAMP_DRV_STAT_UPLOAD_LATE, 1)]).onGroup g fun x =>
        { x with late := true, owed := none }).eventLamp R.LAMP_DRV_STAT 0x08 g 0 0 0 0 .warning
  let later : Option (Nat × Nat × Int) := match x.routine, x.up with
    | 1, some u => if u.frame = n && u.slot = slot then none else some (u.frame, u.slot, x.base)
    | _, _ => none
  let d := if later.isSome then d.onGroup g fun y => { y with owed := later } else d
  if (d.group g).routine ≤ lrUpload then d.startRoutine g lrSwap d.prog.eSwap t else d

/-- SLOT_SWAP: the SWAP event of a slot of frame n, at its start B_k. -/
def execSlotSwap (n slot : Nat) (s : State) : Host.Outcome State Fault Refusal :=
  s.onDev fun d =>
    if !d.lampsRun || !d.slotLit n slot then d
    else
      let t := d.lampEdge n (d.slotStart slot) 1
      let d := d.laneEvent leSwap t
      let d := d.onLamp fun l => { l with slot := some slot, line := none, seqBlank := true }
      d.groupsUsed.foldl (fun d g => d.swapGroup n slot g t) d

/-- The reference of a rail at a PWM cycle's start, from the RAILn_HR samples of the cycle in mV (R392). -/
def Dev.headroom (d : Dev) (n : Nat) (samples : List Nat) : Dev :=
  if samples.isEmpty || !d.bit (F.LAMP_RAIL_CFG_HR_EN n) || d.railMode n != 1 || d.railState n != rsGood then d
  else
    let hr := d.get (F.LAMP_RAIL_CFG_HR_MV n)
    let ref := d.get (F.LAMP_RAIL_STAT_REF n)
    let top := d.get (F.LAMP_RAIL_LIM_VMAX_MV n)
    let calm := if samples.any fun x => decide (x < hr + 100) then 0 else (d.rail n).calm + 1
    if samples.any fun x => decide (x < hr) then
      if ref < top then (d.set (F.LAMP_RAIL_STAT_REF n) (ref + 1)).onRail n fun r => { r with calm := 0, pinned := 0 }
      else
        let k := (d.rail n).pinned + 1
        let d := d.onRail n fun r => { r with calm := 0, pinned := k }
        if k = 64 then (d.raiseFlag (F.LAMP_RAIL_STAT_HR_LIMIT n)).eventLamp (R.LAMP_RAIL_STAT n) 0x0C n 0 0 0 0 .warning else d
    else
      let d := d.onRail n fun r => { r with calm := calm, pinned := 0 }
      if 64 ≤ calm && decide (d.get (F.LAMP_RAIL_LIM_VMIN_MV n) < ref) then d.set (F.LAMP_RAIL_STAT_REF n) (ref - 1) else d

/-- PWM_CYCLE_START: cycle i of a slot of frame n starts (R247), with the headroom samples of the cycle before by rail. -/
def execPwmCycleStart (n slot cycle : Nat) (samples : List (List Nat)) (s : State) : Host.Outcome State Fault Refusal :=
  s.onDev fun d =>
    if !d.lampsRun || !d.slotLit n slot || d.pwmN slot ≤ cycle then d
    else
      let m := d.pwmN slot
      let d := (d.onLamp fun l => { l with skip := [] }).laneEvent leCycle (d.lampEdge n (d.slotStart slot * m + cycle * d.slotLen slot) m)
      (List.range 12).foldl (fun d r => d.headroom r (nth samples r [])) d

/-- The edges of a line boundary (R383): steps 1 to 5, each launched from its nearest TCLK edge and leaving 1.25 ns after nominal
(R235, R330). -/
def Dev.lineEdges (d : Dev) (b : Int) (on : Bool) : List (Nat × Int × Int × Int) :=
  let p := d.prog
  let edge (step ns : Nat) : Nat × Int × Int × Int :=
    let t := b + (1000 * ns : Nat)
    (step, t + 1250, d.launchEdge t, d.vernier t)
  [edge 1 0] ++ (if p.disch = 0 then [] else [edge 2 p.dead, edge 3 (p.dead + p.disch)]) ++
    (if on then [edge 4 (2 * p.dead + p.disch), edge 5 p.lineBlank] else [])

/-- Levels of SCAN31 to SCAN0 with a line on or with none (R384): one output a line, or the line number with SCAN6 as the decoder's enable;
active low under SCAN_POL. With no line on, the address of decoder mode is free.
DEDUCED (unsafe): log 93. -/
def LaneProg.scanLevels (p : LaneProg) (draw : Nat) (line : Option Nat) : Nat :=
  let on := match line with
    | none => if p.decoder then Config.idleAddress draw % 64 else 0
    | some i => if p.decoder then 64 + i % 64 else if i < p.lines then 2 ^ i else 0
  on ^^^ (if p.scanPol then 2 ^ 32 - 1 else 0)

/-- LINE_BOUNDARY: line i of a cycle of a slot begins (R382, R383); at i = S the slot's last visit ends and everything is off. -/
def execLineBoundary (n slot cycle line : Nat) (s : State) : Host.Outcome State Fault Refusal :=
  s.onDev fun d =>
    let p := d.prog
    if !d.lampsRun || !d.slotLit n slot || d.pwmN slot ≤ cycle || p.lines < line then d
    else
      let m := d.pwmN slot * p.lines
      let b := d.lampEdge n (d.slotStart slot * m + (cycle * p.lines + line) * d.slotLen slot) m
      if line = p.lines then
        (d.onLamp fun l => { l with line := none, slot := none, seqBlank := true }).emit
          (.scan line (p.scanLevels d.free none) (d.lineEdges b false))
      else
        let on := !d.lamp.deadLines.contains line && !d.lamp.skip.contains line
        let shown := if on then some line else none
        ((d.laneEvent leLine b).onLamp fun l => { l with slot := some slot, line := shown, seqBlank := !on }).emit
          (.scan line (p.scanLevels d.free shown) (d.lineEdges b on))

/-! ### Proof (R400 to R403) -/

/-- The line to prove next: lines with due emitters, ascending from the line after the last one proven (R401). -/
def Dev.nextProof (d : Dev) : Option Nat :=
  let s := d.prog.lines
  let has (line : Nat) : Bool := d.prog.used.any fun x =>
    d.lamp.due.any fun v =>
      let j := v.1 / 4
      d.tileW != 0 && decide (x.2.gx ≤ j % d.tileW) && decide (j % d.tileW < x.2.gx + x.2.gw) && decide (x.2.gy ≤ j / d.tileW) &&
        decide (j / d.tileW < x.2.gy + x.2.gh) && d.lineOf x.1 j == line
  if s = 0 then none else ((List.range s).map fun i => (d.lamp.proofLine + 1 + i) % s).find? has

/-- The lowest slot with CLOSED = 1 (R243). -/
def Dev.closedSlot (d : Dev) : Option Nat := (List.range d.slotCount).find? fun k => d.bit (F.COMPOSE_SLOT_CFG_CLOSED k)

/-- The frame a nominal edge at a wall time in ps, to the nearest 10 ps, belongs to. -/
def Dev.frameOfEdge (d : Dev) (t : Int) : Int := d.frameAt ((t + 5) * (nsU : Int) / 1000).toNat

/-- A place for a proof visit at a nominal wall time in ps (R243, R401): visits follow one another inside the lowest CLOSED slot, GUARD_NS
from both of its edges; with none, one to a frame, at a cycle start of the first COMPOSED slot once no SWAP routine runs.
DEDUCED (unsafe): log 95. -/
def Dev.proofPlace (d : Dev) (t : Int) : Bool :=
  let n := d.frameOfEdge t
  match d.closedSlot with
  | some k =>
    let guard : Int := (1000 * d.get F.COMPOSE_SLOTS_GUARD_NS : Nat)
    let len : Int := (1000 * d.prog.proofNs : Nat)
    let from_ := d.lampEdge n (d.slotStart k) 1 + guard
    decide (from_ ≤ t) && (t - from_) % len == 0 && decide (t + len ≤ d.lampEdge n (d.slotEnd k) 1 - guard)
  | none => match d.composedSlots.head? with
    | some k =>
      let m := d.pwmN k
      d.lamp.proofFrame != some n && !(d.groupsUsed.any fun g => (d.group g).routine == lrSwap) &&
        (List.range m).any fun i => t == d.lampEdge n (d.slotStart k * m + i * d.slotLen k) m
    | none => false

/-- PROOF_VISIT: a place for a proof visit comes at a nominal wall time, in ps.
DEDUCED (unsafe): log 95. -/
def execProofVisit (t : Int) (s : State) : Host.Outcome State Fault Refusal :=
  s.onDev fun d =>
    let p := d.prog
    if !d.lampsRun || p.proofNs = 0 || !p.rb || !d.bit F.LAMP_FAULT_CFG_PROOF_EN || !d.proofPlace t then d
    else match d.nextProof with
      | none => d
      | some line =>
        let d := d.onLamp fun l => { l with proofFrame := some (d.frameOfEdge t) }
        if d.groupsUsed.any fun g => (d.group g).routine == lrUpload || (d.group g).routine == lrSwap then
          d.bump F.LAMP_DIAG_CNT_PROOF_MISSED
        else
          let len := match d.lamp.slot with
            | some k => (d.slotLen k * 5, 2 * d.pwmN k * p.lines)
            | none => (1, 0)
          let k := if len.2 = 0 then 0 else ceilDiv (p.proofNs * len.2) len.1
          let d := d.onLamp fun l => { l with
            proofLine := line, line := some line, skip := (List.range k).map fun i => (line + i) % p.lines }
          let d := d.laneEvent leProof t
          d.groupsUsed.foldl (fun d g =>
            if (d.group g).routine = lrIdle then (d.onGroup g fun x => { x with line := line }).startRoutine g lrProof p.eProof t else d) d

/-- PROOF_DUE: an emitter has had no eligible or proof visit for DIAG_S (R400); due again without a visit, it is unverified (R403). -/
def execProofDue (lamp em : Nat) (s : State) : Host.Outcome State Fault Refusal :=
  s.onDev fun d =>
    let k := 4 * lamp + em
    if !d.lampsLit || d.tileN ≤ lamp || !d.prog.emitters.contains em || inMap d.flash.map lamp em then d
    else
      let again := d.isDue lamp em
      let never := !d.bit F.LAMP_FAULT_CFG_PROOF_EN || d.prog.proofNs == 0 || !d.prog.rb
      let d := if again then d else d.onLamp fun l => { l with due := (k, d.litNow) :: l.due }
      let d := if (again || never) && !d.lamp.unverified.any (fun v => v.1 == k) then
          d.onLamp fun l => { l with unverified := (k, d.litNow) :: l.unverified }
        else d
      d.refreshCover

/-- COVERAGE_LOW: an emitter has been unverified for longer than DT_S (R403). -/
def execCoverageLow (lamp em : Nat) (s : State) : Host.Outcome State Fault Refusal :=
  s.onDev fun d =>
    if d.lamp.unverified.any (fun v => v.1 == 4 * lamp + em) && !d.bit F.LAMP_DIAG_STAT_COVERAGE_LOW then
      (d.raiseFlag F.LAMP_DIAG_STAT_COVERAGE_LOW).eventLamp R.LAMP_DIAG_STAT 0x05 0 lamp (2 ^ em) 0 (d.get F.LAMP_DIAG_CNT_UNVERIFIED) .warning
    else d

/-! ### Instructions (R377, R378) -/

/-- The instruction a group executes next: it runs, and does not wait. -/
def Dev.laneAt (d : Dev) (g : Nat) : Option LaneOp :=
  let x := d.group g
  if !d.isTile || !d.groupUsed g || x.routine = lrIdle || x.waiting.isSome then none
  else (d.prog.code[x.pc]?).bind LaneOp.decode

/-- The group goes to an address after an instruction. -/
def Dev.laneNext (d : Dev) (g : Nat) (op : LaneOp) (pc : Nat) : Dev :=
  d.onGroup g fun x => { x with pc := pc, cycles := x.cycles + op.cycles }

/-- A group executes an instruction its program holds there; otherwise nothing happens. -/
def State.lane (s : State) (g : Nat) (op : LaneOp) (f : Dev → Dev) : Host.Outcome State Fault Refusal :=
  s.onDev fun d => if d.laneAt g = some op then f d else d

/-- The next address. -/
def Dev.lanePc (d : Dev) (g : Nat) : Nat := (d.group g).pc + 1

/-- NOP. -/
def execLaneNop (g : Nat) (s : State) : Host.Outcome State Fault Refusal :=
  s.lane g .nop fun d => d.laneNext g .nop (d.lanePc g)

/-- SHIFT: each lane in use outputs its next N walk-stream bits. -/
def execLaneShift (g n : Nat) (s : State) : Host.Outcome State Fault Refusal :=
  s.lane g (.shift n) fun d =>
    let from_ := (d.group g).stream
    let bits := (List.range (nth d.prog.groups g {}).lanes).map fun l => (List.range n).map fun i => d.walkBit g l (from_ + i)
    let d := (d.onGroup g fun x => { x with stream := x.stream + n }).emit (.shift g bits)
    d.draw.laneNext g (.shift n) (d.lanePc g)

/-- SHIFTK: every lane outputs K[N - 1] down to K[0]. -/
def execLaneShiftK (g k n : Nat) (s : State) : Host.Outcome State Fault Refusal :=
  s.lane g (.shiftk k n) fun d =>
    let bits := (List.range n).map fun i => k.testBit (n - 1 - i)
    (d.emit (.shift g (List.replicate (nth d.prog.groups g {}).lanes bits))).laneNext g (.shiftk k n) (d.lanePc g)

/-- PINS: the masked pins, held for H cycles. -/
def execLanePins (g : Nat) (lat blk : Bool) (mask : Nat) (clken : Bool) (h : Nat) (s : State) : Host.Outcome State Fault Refusal :=
  s.lane g (.pins lat blk mask clken h) fun d =>
    let d := d.onGroup g fun x => { x with lat := if mask.testBit 0 then lat else x.lat, blk := if mask.testBit 1 then blk else x.blk }
    (d.emit (.pins g (d.group g).lat (d.group g).blk h clken)).laneNext g (.pins lat blk mask clken h) (d.lanePc g)

/-- WAIT: the group waits for the next event of a kind. -/
def execLaneWait (g event : Nat) (s : State) : Host.Outcome State Fault Refusal :=
  s.lane g (.wait event) fun d => d.onGroup g fun x => { x with waiting := some event, woken := none }

/-- WAIT_EVENT_RETURN: the WAIT of a group returns at the event's nominal time (R379). -/
def execWaitEventReturn (g : Nat) (s : State) : Host.Outcome State Fault Refusal :=
  s.onDev fun d =>
    match (d.group g).waiting, (d.group g).woken with
    | some _, some t => d.onGroup g fun x => { x with waiting := none, woken := none, base := t, pc := x.pc + 1 }
    | _, _ => d

/-- TPULSE: a pulse at the nominal time of the last event plus the offset; one that is past is not driven. -/
def execLaneTPulse (g pin : Nat) (level : Bool) (offset width : Nat) (s : State) : Host.Outcome State Fault Refusal :=
  s.lane g (.tpulse pin level offset width) fun d =>
    let t := (d.group g).base + (2500 * offset : Nat)
    let d := if t < (d.wallPs : Int) then d.raiseFlag F.LAMP_DRV_STAT_TPULSE_LATE
      else d.emit (.pulse g pin level (t + 1250) (2500 * width : Nat))
    d.laneNext g (.tpulse pin level offset width) (d.lanePc g)

/-- SETC. -/
def execLaneSetC (g c value : Nat) (s : State) : Host.Outcome State Fault Refusal :=
  s.lane g (.setc c value) fun d =>
    (d.onGroup g fun x => { x with counters := modifyNth x.counters c fun _ => value }).laneNext g (.setc c value) (d.lanePc g)

/-- LOOP: decrements a counter and branches while it is not 0.
DESIGN CHOICE (safe): log 92. -/
def execLaneLoop (g c target : Nat) (s : State) : Host.Outcome State Fault Refusal :=
  s.lane g (.loop c target) fun d =>
    let v := nth (d.group g).counters c 0
    let new := if v = 0 then Config.counterBelow d.free % 2 ^ 20 else v - 1
    let d := if v = 0 then d.draw else d
    (d.onGroup g fun x => { x with counters := modifyNth x.counters c fun _ => new }).laneNext g (.loop c target)
      (if new = 0 then d.lanePc g else target)

/-- JUMP. -/
def execLaneJump (g target : Nat) (s : State) : Host.Outcome State Fault Refusal :=
  s.lane g (.jump target) fun d => d.laneNext g (.jump target) target

/-- GCLK: a free lane clock at f_g / (2 D), stopped by 0. -/
def execLaneGclk (g div : Nat) (s : State) : Host.Outcome State Fault Refusal :=
  s.lane g (.gclk div) fun d =>
    ((d.onGroup g fun x => { x with gclk := div }).emit (.gclk g div)).laneNext g (.gclk div) (d.lanePc g)

/-- RDIAG: reads LGg_RET once per cycle; the flags it reads come with the row.
DEDUCED (unsafe): log 93. -/
def execLaneRdiag (g : Nat) (flags : List Bool) (s : State) : Host.Outcome State Fault Refusal :=
  s.lane g (.rdiag flags.length) fun d =>
    (d.onGroup g fun x => { x with read := x.read + flags.length, flags := x.flags ++ flags }).laneNext g (.rdiag flags.length) (d.lanePc g)

/-- END: the routine ends; an UPLOAD that waited for SWAP starts (R379). -/
def execLaneEnd (g : Nat) (s : State) : Host.Outcome State Fault Refusal :=
  s.lane g .stop fun d =>
    let was := (d.group g).routine
    let d := (d.handIn g).onGroup g fun x => { x with
      routine := lrIdle, done := if was = lrUpload then x.up else x.done, cycles := x.cycles + 1, flags := [] }
    match (d.group g).owed with
    | some (n, slot, t) => if was = lrSwap then d.startUpload g n slot t else d
    | none => d

/-- LGg_BLK's level (R378): the program's, the sequencer's, that of faults and policies, the safe state's; high on an unused group. -/
def Dev.blkHigh (d : Dev) (g : Nat) : Bool :=
  let x := d.group g
  !d.groupUsed g || x.blk || d.lamp.seqBlank || x.late || !d.lampsLit

end Sys2Proof.Machine
end

