-- ==== Sys2Proof/Machine/Lamps.lean ====
section
/-!
DEFINITION. Rails (R390 to R394), the wall-wide cap and blank (R405 to R409), LOCATE (R410), and the lamp registers that act when
they are written.
-/
namespace Sys2Proof.Machine

open Sys2Proof

/-! ### Register writes -/

/-- RAIL_CFG_WRITE (R390, R394). -/
def execRailCfgWrite (n : Fin 12) (value : Word) (s : State) : Host.Outcome State Fault Refusal :=
  .next (s.writeRow (R.LAMP_RAIL_CFG n) value)

/-- LAMP_MAP_CLEAR (R361). -/
def execLampMapClear (s : State) : Host.Outcome State Fault Refusal := .next (s.writeRow R.LAMP_MAP_CTRL 1)

/-- FAULT_RESUME (R405): the dark latch clears at the next lamp-drive latch. -/
def execFaultResume (s : State) : Host.Outcome State Fault Refusal := .next (s.writeRow R.LAMP_FAULT_CTRL 1)

/-- FB_CLEAR (R426).
DEDUCED (unsafe): log 101. -/
def execFbClear (s : State) : Host.Outcome State Fault Refusal := .next (s.writeRow R.LAMP_PHOTO_CTRL 1)

/-! ### Rails -/

/-- Rails may be on: a tile awake, outside the safe state and any stop (R391). -/
def Dev.railsMayRun (d : Dev) : Bool :=
  d.isTile && d.boot == .up && d.awake && !d.safeNow && d.safe.stopCause.isNone

/-- Rails of a sequence number. -/
def Dev.railsOfSeq (d : Dev) (q : Nat) : List Nat := d.usedRails.filter fun n => d.get (F.LAMP_RAIL_CFG_SEQ n) == q

/-- The lowest SEQ with a rail that is off starts. -/
def Dev.railsNext (d : Dev) : Dev :=
  match (List.range 16).find? fun q => (d.railsOfSeq q).any fun n => d.railState n == rsOff with
  | some q => ((d.railsOfSeq q).filter fun n => d.railState n == rsOff).foldl (fun d n => d.railStart n) d
  | none => d

/-- RAIL_START (R391): the rails start in ascending SEQ; leaving the safe state or SLEEP lifts the hardware blank. -/
def execRailStart (s : State) : Host.Outcome State Fault Refusal :=
  s.onDev fun d =>
    if !d.railsMayRun || !d.clocked guRails then d
    else
      let d := d.onSafe fun x => { x with blank := false }
      let d := if d.usedRails.all fun n => d.railState n == rsOff then d.railsNext else d
      (if d.usedRails.isEmpty then d.raiseInit else d).refreshLit

/-- RAIL_GOOD (R391): a rail has been good for 200 µs. -/
def execRailGood (n : Fin 12) (s : State) : Host.Outcome State Fault Refusal :=
  s.onDev fun d =>
    if !d.railsMayRun || d.railState n != rsStarting then d
    else
      let d := d.set (F.LAMP_RAIL_STAT_STATE n) rsGood
      let seq := d.get (F.LAMP_RAIL_CFG_SEQ n)
      let d := if (d.railsOfSeq seq).all fun m => d.railState m == rsGood then d.railsNext else d
      if d.railsGood then d.raiseInit.refreshLit else d

/-- A rail is cut (R393): off for 100 ms, or latched off at the (RETRY_MAX + 1)th cut within 10 s, which is a LAMP fault. -/
def State.railCut (s : State) (n : Nat) : State :=
  let d := s.dev
  let cuts := d.now :: (d.rail n).cuts.filter fun t => decide (d.now < t + 10 * sPs)
  let latched := decide (d.get (F.LAMP_RAIL_LIM_RETRY_MAX n) + 1 ≤ cuts.length)
  let d := (d.railOff n (if latched then rsLatched else rsWait)).onRail n fun r => { r with cuts := cuts }
  let d := ((d.raiseFlag (F.LAMP_RAIL_STAT_CUT n)).bump (F.LAMP_RAIL_STAT_CUTS n)).eventLamp (R.LAMP_RAIL_STAT n) 0x06 n 0 0 0 0 .warning
  if latched then
    ({ s with dev := d.eventLamp (R.LAMP_RAIL_STAT n) 0x07 n 0 0 0 0 .safety } : State).passUp 6 scRail
  else { s with dev := d }

/-- RAIL_SEQ_TIMEOUT (R391): a rail is not good within SOFT + 5 ms. -/
def execRailSeqTimeout (n : Fin 12) (s : State) : Host.Outcome State Fault Refusal :=
  if s.dev.isTile && s.dev.railState n == rsStarting then
    .next (({ s with dev := s.dev.raiseFlag (F.LAMP_RAIL_STAT_SEQ_TIMEOUT n) } : State).railCut n)
  else .next s

/-- RAIL_COMPARATOR_TRIP (R393): overcurrent or overvoltage. -/
def execRailComparatorTrip (n : Fin 12) (s : State) : Host.Outcome State Fault Refusal :=
  if s.dev.isTile && (s.dev.railState n == rsStarting || s.dev.railState n == rsGood) then .next (s.railCut n) else .next s

/-- RAIL_RESTART (R393): 100 ms after a cut the rail restarts alone. -/
def execRailRestart (n : Fin 12) (s : State) : Host.Outcome State Fault Refusal :=
  s.onDev fun d => if d.railsMayRun && d.railState n == rsWait then d.railStart n else d

/-- RAIL_UNDERVOLTAGE (R393): the flag and the event; the rail stays. -/
def execRailUndervoltage (n : Fin 12) (s : State) : Host.Outcome State Fault Refusal :=
  s.onDev fun d =>
    if d.isTile && d.railState n == rsGood then
      (d.raiseFlag (F.LAMP_RAIL_STAT_UV n)).eventLamp (R.LAMP_RAIL_STAT n) 0x06 n 0 0 0 0 .warning
    else d

/-- RAIL_STOP (R391): with every LGg_BLK high, the rails of the highest SEQ still on go off; the row comes again 60 µs later. -/
def execRailStop (s : State) : Host.Outcome State Fault Refusal :=
  s.onDev fun d =>
    if !d.isTile || !(d.safe.blank || !d.awake) then d
    else
      let on (n : Nat) : Bool := d.railState n != rsOff && d.railState n != rsLatched
      match (List.range 16).reverse.find? fun q => (d.railsOfSeq q).any on with
      | some q => ((d.railsOfSeq q).filter on).foldl (fun d n => d.railOff n rsOff) d
      | none => d

/-! ### The wall-wide cap (R406 to R409) -/

/-- The first frame a change decided now governs (R407). -/
def Dev.driveFrom (d : Dev) : Nat := d.frameFrom (d.time.wall + 2000000 * nsU + d.saddleNow * 10737418240) + 1

/-- The body of a DRIVE item. -/
def driveBody (cap : Nat) (blank : Bool) (from_ : Nat) : List Word := [Word.pack [(0, 16, cap), (16, 1, blank.toNat)], Word.of from_]

/-- A sender decides a cap and blank: it sends DRIVE on every running loop. -/
def Dev.sendDrive (d : Dev) (cap : Nat) (blank : Bool) : Dev :=
  let n := d.driveFrom
  let d := (d.set F.CTRL_CAP_STAT_CAP cap).setBit F.CTRL_CAP_STAT_WALL_BLANK blank
  let d : Dev := { d with cap := { d.cap with sent := some (cap, blank, n) } }
  ((List.range d.loops).filter d.loopRuns).foldl (fun d k => d.loopItem k 0x0A (driveBody cap blank n)) d

/-- The sender blanks its tiles, or resumes (R406).
DEDUCED (unsafe): log 96. -/
def Dev.wallBlank (d : Dev) (b : Bool) : Dev := d.sendDrive (d.get F.CTRL_CAP_STAT_CAP) b

/-- Tiles in throttle (R435), and whether any reports warning or above. -/
def Dev.tilesAt (d : Dev) (level : Nat) : Nat :=
  ((List.range d.loops).map fun k => ((d.loopSt k).tiles.filter fun t => decide (level ≤ t.thermal)).length).foldl (· + ·) 0

/-- One evaluation of the cap (R409).
DEDUCED (unsafe): log 96. -/
def Dev.capEvaluate (d : Dev) : Dev :=
  if !d.isSender || d.boot != .up || !d.hasToken then d
  else
    let step := d.get F.CTRL_CAP_CFG_CAP_STEP
    let cool := d.tilesAt 1 == 0 && match d.cap.warmAt with
      | some t => decide (t + d.get F.CTRL_CAP_CFG_CAP_RECOVER_S * sPs ≤ d.now)
      | none => true
    let own := d.cap.own
    let own := if 0 < d.tilesAt 2 then max (d.get F.CTRL_CAP_CFG_CAP_MIN) (own - step)
      else if cool then min 0x8000 (own + step) else own
    let d : Dev := { d with cap := { d.cap with own := own } }
    let cap := min own (d.get F.CTRL_CAP_EXT_CAP_EXT)
    let old := d.get F.CTRL_CAP_STAT_CAP
    if cap = old then d
    else
      let d := d.sendDrive cap (d.bit F.CTRL_CAP_STAT_WALL_BLANK)
      let d := if cap < old then d.raiseFlag F.CTRL_CAP_STAT_LOWERED else d
      d.eventLamp R.CTRL_CAP_STAT 0x0B 0 0 0 0 cap (if cap < old then .warning else .info)

/-- CAP_EVALUATE.
DEDUCED (unsafe): log 96. -/
def execCapEvaluate (s : State) : Host.Outcome State Fault Refusal := s.onDev fun d => d.capEvaluate

/-- WALL_OFF_EVENT_RX (R406): a tile latched dark under WALL_OFF. -/
def execWallOffEventRx (s : State) : Host.Outcome State Fault Refusal :=
  s.onDev fun d =>
    if d.isSender && d.boot == .up && d.hasToken then (d.set F.CTRL_CAP_CTRL_BLANK 1).wallBlank true else d

/-- TILE_THERMAL_REPORT_RX (R409, R435): a tile's state as its EV_THERMAL reports it. -/
def execTileThermalReportRx (loop pos thermal : Nat) (s : State) : Host.Outcome State Fault Refusal :=
  s.onDev fun d =>
    if !d.isSender || d.boot != .up || !(d.positions loop).contains pos then d
    else
      let was := (((d.loopSt loop).tiles.find? fun t => t.pos == pos).map (·.thermal)).getD 0
      let d := d.onLoop loop fun l => { l with tiles := l.tiles.map fun t => if t.pos == pos then { t with thermal := thermal } else t }
      let d : Dev := if 1 ≤ was || 1 ≤ thermal then { d with cap := { d.cap with warmAt := some d.now } } else d
      let d := d.set F.CTRL_CAP_STAT_THROTTLING (satTo 1023 (d.tilesAt 2))
      if was < 2 && 2 ≤ thermal then d.capEvaluate else d

/-- A frame's lamp-drive latch is past (R88). -/
def Dev.latchPast (d : Dev) (n : Nat) : Bool := decide (d.frameScaled n < ((d.time.wall + d.saddleNow * 10737418240) * d.tfDen : Nat))

/-- DRIVE_ITEM_RX (R407, R408): a tile keeps the item; one that is late applies at the next latch. -/
def execDriveItemRx (end_ : Fin 2) (cap : Nat) (blank : Bool) (from_ : Nat) (s : State) : Host.Outcome State Fault Refusal :=
  s.onDev fun d => d.fromEnd end_ fun d =>
    let known := d.lamp.drives.any fun x => x == (from_, cap, blank)
    let d := if !known && d.latchPast from_ then d.raiseFlag F.LAMP_CAP_STAT_CAP_LATE else d
    d.onLamp fun l => { l with drives := (from_, cap, blank) :: l.drives.filter fun x => x.1 != from_ }

/-! ### LOCATE (R410) -/

/-- LOCATE: it takes effect at the next lamp-drive latch. -/
def bodyLocate (s : State) (q : QCmd) : State × Answer :=
  let d := s.dev
  let w := nth q.payload 0 0
  let pattern := Word.field w 4 4
  if d.isSender then (s, .refuse .role)
  else if d.power != .run || d.safeNow || !d.railsGood then (s, .refuse .state)
  else if 5 ≤ pattern then (s, .refuse .range)
  else ({ s with dev := d.onLamp fun l => { l with locateNext := some (if w.getLsbD 0 then some pattern else none) } }, .ok [])

/-- LOCATE. -/
def execLocate (h : Hdr) (w : Word) (s : State) : Host.Outcome State Fault Refusal := runRow h .locate [w] bodyLocate s

end Sys2Proof.Machine
end

