-- ==== Sys2Proof/Machine/Photo.lean ====
section
/-!
DEFINITION. Photometry (ch. 14): what the tile predicts and measures, the fit of a window, calibration runs, colour feedback.
-/
namespace Sys2Proof.Machine

open Sys2Proof

/-! ### The PHOTO class (R419) -/

def maskOf (l : List Nat) : Nat := l.foldl (fun m i => m ||| 2 ^ i) 0

/-- No reading, run or feedback takes place while KEEP_GATE_RUN.PHOTO is 0 (R413). -/
def Dev.photoRuns (d : Dev) : Bool := d.isTile && d.boot == .up && d.awake && d.clocked guPhoto

/-- A quotient; one over 0 is a free value.
DEDUCED (unsafe): log 101. -/
def ratDiv (a b : Rat) : Rat := if b = 0 then Config.ratOverZero a else a / b

/-- p_e of an input for the frame on display (R418), by emitter: none where nothing is lit. -/
def Dev.predict (d : Dev) (i : Nat) : Option (List Rat) :=
  match d.lamp.shown with
  | none => none
  | some f =>
    let lamps := d.footLamps i
    let weight : Nat := (lamps.map (·.2)).foldl (· + ·) 0
    let slots := (f.slots.map (·.1)).filter fun k => f.mask.testBit k
    let gates := slots.map fun k => (k, (d.onWindow k).1)
    let total : Int := (gates.map (·.2)).foldl (· + ·) 0
    if total ≤ 0 || weight = 0 then none
    else some (d.prog.emitters.map fun e =>
      (gates.map fun g =>
        let sum : Nat := (lamps.map fun x => x.2 * scaledGs d.lampScale (driveGs (f.word g.1 x.1 e))).foldl (· + ·) 0
        (sum : Rat) * g.2 / ((65535 * weight : Nat) * total)).foldl (· + ·) 0)

/-! ### Zones (R348, R421) -/

/-- The reading of a zone, and whether its sensor is good. -/
def Dev.zoneTemp (d : Dev) (z : Nat) : Int := d.getInt (F.KEEP_TSENS_READING (8 + z))
def Dev.zoneGood (d : Dev) (z : Nat) : Bool := d.get (F.KEEP_TSENS_BAD (8 + z)) == 0

/-- The zone of an input. -/
def Dev.photoZone (d : Dev) (i : Nat) : Nat := d.photoField (520 * i + 2) 8 2

/-- LAMP_CAL_TZ of a zone. -/
def Dev.calTz (d : Dev) (z : Nat) : Int := signed 16 (Word.field (d.reg R.LAMP_CAL_TZ) (16 * z) 16)

/-! ### The fit of a window (R420) -/

/-- Mean of some numbers. -/
def ratMean (l : List Rat) : Rat := if l.isEmpty then 0 else l.foldl (· + ·) 0 / (l.length : Rat)

/-- Covariance of two series of the same length.
DEDUCED (unsafe): log 99. -/
def ratCov (a b : List Rat) : Rat :=
  let ma := ratMean a
  let mb := ratMean b
  ratMean ((a.zip b).map fun x => (x.1 - ma) * (x.2 - mb))

/-- One column of Gaussian elimination over rows: the pivot row and the others reduced. -/
def pivotStep (c : Nat) (rows : List (List Rat)) : Option (List Rat × List (List Rat)) :=
  match rows.find? fun r => nth r c 0 != 0 with
  | none => none
  | some p =>
    let p := p.map fun x => x / nth p c 0
    let at_ := (rows.findIdx? fun r => nth r c 0 != 0).getD 0
    some (p, (rows.eraseIdx at_).map fun r => (r.zip p).map fun x => x.1 - nth r c 0 * x.2)

/-- Solves a square system given as rows with the right side last, columns from c on: none where it has no one solution. -/
def solveFrom : Nat → Nat → List (List Rat) → Option (List Rat)
  | 0, _, _ => some []
  | n + 1, c, rows =>
    match pivotStep c rows with
    | none => none
    | some (p, rest) => match solveFrom n (c + 1) rest with
      | none => none
      | some xs =>
        let known := (List.range xs.length).map fun i => nth p (c + 1 + i) 0 * nth xs i 0
        some ((p.getLast?.getD 0 - known.foldl (· + ·) 0) :: xs)

/-- The fit of m = Σ k_e p_e + c over samples, and the judgement of R420: none for a window that is discarded.
DEDUCED (unsafe): log 99. -/
def fitWindow (window minSd emitters : Nat) (samples : List (Rat × List Rat)) : Option (List Rat) :=
  let ms := samples.map (·.1)
  let ps := (List.range emitters).map fun e => samples.map fun x => nth x.2 e 0
  let var (e : Nat) : Rat := ratCov (nth ps e []) (nth ps e [])
  let sd : Rat := (minSd : Rat) / 1000
  let es := List.range emitters
  if 2 * samples.length < window || samples.isEmpty then none
  else if es.any fun e => decide (var e < sd * sd) then none
  else if es.any fun a => es.any fun b =>
      let c := ratCov (nth ps a []) (nth ps b [])
      decide (a < b) && decide (0 < c) && decide (361 * (var a * var b) < 400 * (c * c)) then none
  else match solveFrom emitters 0 (es.map fun a => (es.map fun b => ratCov (nth ps a []) (nth ps b [])) ++ [ratCov (nth ps a []) ms]) with
    | none => none
    | some ks =>
      let c := ratMean ms - ((es.map fun e => nth ks e 0 * ratMean (nth ps e [])).foldl (· + ·) 0)
      let res := samples.map fun x =>
        let r := x.1 - c - ((es.map fun e => nth ks e 0 * nth x.2 e 0).foldl (· + ·) 0)
        r * r
      if 100 * ratMean res ≤ ratCov ms ms && ks.all fun k => decide (0 ≤ k) && decide (k ≤ 159998 / 10000) then some ks else none

/-! ### Frames and windows (R415, R418, R420, R422) -/

def Dev.onInput (d : Dev) (i : Nat) (f : PhotoIn → PhotoIn) : Dev := d.onPhoto fun p => { p with inputs := modifyNth p.inputs i f }
def Dev.input (d : Dev) (i : Nat) : PhotoIn := nth d.photo.inputs i {}

/-- LAMP_PHOTO_CFG and LAMP_PHOTO_LIM in force: those of the run's start while one lasts. -/
def Dev.photoCfg (d : Dev) : Word := match d.photo.run with
  | some r => r.cfg
  | none => d.reg R.LAMP_PHOTO_CFG
def Dev.photoLim (d : Dev) : Word := match d.photo.run with
  | some r => r.lim
  | none => d.reg R.LAMP_PHOTO_LIM

def Dev.photoSet (d : Dev) (f : Fld) : Nat := Word.field (if f.addr = R.LAMP_PHOTO_CFG then d.photoCfg else d.photoLim) f.lo f.width

/-- PHOTO_FRAME_RESULT: an input's mean LIT and DARK of the frame on display, whether it had LIT bits, whether the modulator
overloaded, and the shunt voltages sampled in line blanks by rail (R414 to R418). -/
def execPhotoFrameResult (i : Fin 8) (lit dark : Nat) (hasLit sat : Bool) (shunts : List Int) (s : State) :
    Host.Outcome State Fault Refusal :=
  s.onDev fun d =>
    let k := i.val
    if !d.photoRuns || !d.lampsLit || !d.photoInputs.contains k then d
    else
      let d := if sat then d.raiseFlag F.LAMP_CAL_STAT_SAT else d
      let p := if hasLit && !sat && d.lamp.locate.isNone && !d.photo.failed.testBit k then d.predict k else none
      let z := d.photoZone k
      let temp := d.zoneTemp z
      let delta : Int := (d.photoSet F.LAMP_PHOTO_CFG_CAL_DELTA * 16 : Nat)
      let d := d.onInput k fun x =>
        let x := if x.frames = 0 && x.winA.isNone then { x with tz := temp, moved := false } else x
        { x with
          frames := x.frames + 1
          samples := match p with
            | some es => (((lit : Rat) - dark) / 65535, es) :: x.samples
            | none => x.samples
          shunts := shunts :: x.shunts
          moved := x.moved || (x.winB.isNone && decide (delta < 2 * (temp - x.tz).natAbs))
          noTemp := x.noTemp || !d.zoneGood z }
      if d.photo.run.isSome || p.isNone then d
      else d.setAll [(F.LAMP_PHOTO_VAL_LIT k, lit), (F.LAMP_PHOTO_VAL_DARK k, dark), (F.LAMP_PHOTO_VAL_FRAMES k, (d.input k).samples.length)]

/-- The input whose windows average the shunt offsets (R422).
DEDUCED (unsafe): log 100. -/
def Dev.shuntInput (d : Dev) : Option Nat := d.photoInputs.head?

/-- Mean of a rail's samples. -/
def railMean (l : List (List Int)) (n : Nat) : Rat := ratMean (l.map fun x => ((nth x n 0 : Int) : Rat))

/-- PHOTO_WINDOW_END: WINDOW frames of an input have passed (R420, R422). The first good window of a run is A, the next B. -/
def execPhotoWindowEnd (i : Fin 8) (s : State) : Host.Outcome State Fault Refusal :=
  s.onDev fun d =>
    let k := i.val
    let x := d.input k
    let window := d.photoSet F.LAMP_PHOTO_CFG_WINDOW
    if !d.photoRuns || x.frames < window || !d.photoInputs.contains k then d
    else
      let fit := fitWindow window (d.photoSet F.LAMP_PHOTO_LIM_MIN_SD_PERMILLE) d.prog.emitters.length x.samples
      let clear (x : PhotoIn) : PhotoIn := { x with samples := [], shunts := [], frames := 0 }
      match d.photo.run with
      | none => (d.onInput k clear).set (F.LAMP_PHOTO_VAL_FRAMES k) 0
      | some r =>
        if !r.mask.testBit k || x.winB.isSome || d.photoSet F.LAMP_PHOTO_CFG_RUN_MAX ≤ x.windows then d.onInput k clear
        else
          let d := d.onInput k fun x => { clear x with
            windows := x.windows + 1
            winA := if x.winA.isNone then fit else x.winA
            winB := if x.winA.isNone then none else fit }
          let r := if fit.isSome && d.shuntInput == some k then
              (if x.winA.isNone then { r with shuntA := x.shunts } else { r with shuntB := x.shunts }) else r
          let d := d.onPhoto fun p => { p with run := some r }
          let allA := (List.range 8).all fun j => !r.mask.testBit j || (d.input j).winA.isSome
          d.set F.LAMP_CAL_STAT_STATE (if allA then 2 else 1)

/-! ### Runs (R421, R422, R427) -/

/-- The tile may run a calibration (R421, R427). -/
def Dev.calReady (d : Dev) : Bool := d.photoRuns && d.service == 2 && d.lampsLit && !d.flash.dark

/-- A run starts on a mask of inputs (R422).
DEDUCED (unsafe): log 100. -/
def Dev.calStart (d : Dev) (mask : Nat) : Dev :=
  let d := d.onPhoto fun p => { p with
    run := some { mask := mask, cfg := d.reg R.LAMP_PHOTO_CFG, lim := d.reg R.LAMP_PHOTO_LIM }, inputs := List.replicate 8 {} }
  let d := d.set F.LAMP_CAL_STAT_STATE 1
  let d := (List.range 8).foldl (fun d i => d.set (F.LAMP_PHOTO_VAL_STALE i) 1) d
  d.eventCal 0x05 mask (d.get F.LAMP_CAL_STAT_LAST_RESULT) 0 .info

/-- A condition of R421 holds: a zone has moved, the period is over, or nothing is accepted yet. -/
def Dev.calDue (d : Dev) : Bool :=
  let delta : Int := (d.get F.LAMP_PHOTO_CFG_CAL_DELTA * 16 : Nat)
  let period := d.get F.LAMP_PHOTO_CFG_PERIOD_H
  (d.photoInputs.any fun i =>
    let z := d.photoZone i
    d.zoneGood z && decide (delta < (d.zoneTemp z - d.calTz z).natAbs)) ||
  (period != 0 && decide ((d.reg R.LAMP_CAL_TIME).toNat + period * 3600 ≤ d.wallS)) || d.flash.calOk == 0

/-- CAL_RUN_START (R421): a condition holds at a display frame. -/
def execCalRunStart (s : State) : Host.Outcome State Fault Refusal :=
  s.onDev fun d =>
    let waits := d.photo.endedAt.any fun t => decide (d.now < t + d.get F.LAMP_PHOTO_CFG_RETRY_MIN * 60 * sPs)
    if d.calReady && d.photo.run.isNone && !d.photoInputs.isEmpty && d.calDue && !waits then d.calStart (maskOf d.photoInputs) else d

/-- CAL_RUN (R427).
DEDUCED (unsafe): log 100. -/
def bodyCalRun (s : State) (q : QCmd) : State × Answer :=
  let d := s.dev
  let mask := Word.field (nth q.payload 0 0) 0 8
  if d.isSender then (s, .refuse .role)
  else if mask = 0 then (s, .refuse .range)
  else if !holdsClass d.lamp.held tcPhoto || (List.range 8).any fun i => mask.testBit i && !d.photoInputs.contains i then
    (s, .now .invalid 0x0455 [])
  else if d.photo.run.isSome then (s, .refuse .busy)
  else if !d.calReady then (s, .refuse .state)
  else
    let frames := d.get F.LAMP_PHOTO_CFG_RUN_MAX * d.get F.LAMP_PHOTO_CFG_WINDOW
    let by_ := if d.tfDen = 0 then 0 else ceilDiv (d.time.wall * d.tfDen + frames * d.tfScaled) (secU * d.tfDen)
    ({ s with dev := d.calStart mask }, .ok [Word.of mask, Word.of by_])

/-- CAL_RUN. -/
def execCalRun (h : Hdr) (mask : Word) (s : State) : Host.Outcome State Fault Refusal := runRow h .calRun [mask] bodyCalRun s

/-! ### Colour feedback (R424, R425) -/

/-- A number rounded half up. -/
def ratRound (r : Rat) : Int := (r + 1 / 2).floor

/-- FB trims of an emitter: converters whose term colour feedback may move. -/
def Dev.fbTrims (d : Dev) (e : Nat) : List Nat :=
  (List.range 16).filter fun t => d.photoField (4160 + t) 0 2 == e && d.photoField (4160 + t) 2 1 == 1

/-- A_e: the mean trim factor of an emitter over its FB trims, with given ADJ_col values. -/
def Dev.trimFactor (d : Dev) (e : Nat) (adj : List Int) : Rat :=
  ratMean ((d.fbTrims e).map fun t =>
    let base : Rat := (d.get (F.LAMP_TRIM_CFG_BASE t) : Rat)
    ratDiv (base + (nth adj t 0 : Int)) base)

/-- Inputs named by the FB trims of an emitter.
DEDUCED (unsafe): log 101. -/
def Dev.fbInputs (d : Dev) (e : Nat) : Nat := (d.fbTrims e).foldl (fun m t => m ||| d.photoField (4160 + t) 3 8) 0

/-- ADJ_col in force or decided, by converter; g_col in force or decided, by emitter. -/
def Dev.adjCol (d : Dev) : List Int := match d.photo.wait with
  | some w => w.2.2
  | none => d.lamp.trims.map (·.fb)
def Dev.gCol (d : Dev) : List Nat := match d.photo.wait with
  | some w => w.2.1
  | none => (List.range 4).map fun e => Word.field (d.reg R.LAMP_COR_GAIN) (16 * e) 16

/-- What factors C_e make of ADJ_col and g_col, for the emitters given (steps 5 and 6), and whether a clamp acted.
DEDUCED (unsafe): log 101. -/
def Dev.factorsOut (d : Dev) (cs : List Rat) (es : List Nat) : List Nat × List Int × Bool :=
  let lim : Int := d.photoSet F.LAMP_PHOTO_LIM_FB_TRIM_MAX
  let raw (t : Nat) : Option Int :=
    (es.find? fun e => (d.fbTrims e).contains t).map fun e => ratRound ((d.get (F.LAMP_TRIM_CFG_BASE t) : Rat) * (nth cs e 1 - 1))
  let adj := (List.range 16).map fun t => match raw t with
    | some v => clampInt (-lim) lim v
    | none => nth d.adjCol t 0
  let rawG (e : Nat) : Int := ratRound (ratDiv (16384 * nth cs e 1) (d.trimFactor e adj))
  let lo : Int := d.photoSet F.LAMP_PHOTO_LIM_GCOL_MIN
  let hi : Int := d.photoSet F.LAMP_PHOTO_LIM_GCOL_MAX
  let g := (List.range 4).map fun e => if es.contains e then (clampInt lo hi (rawG e)).toNat else nth d.gCol e 0x4000
  let clamped := (List.range 16).any (fun t => (raw t).any fun v => decide (v < -lim ∨ lim < v)) ||
    es.any fun e => decide (rawG e < lo ∨ hi < rawG e)
  (g, adj, clamped)

/-- The first frame whose correction latch lies at least 1 ms ahead (R425). -/
def Dev.factorFrame (d : Dev) : Nat := d.frameFrom (d.time.wall + 1000000 * nsU + d.saddleNow * 10737418240) + 1

/-- One step of colour feedback over the accepted inputs (R424).
DEDUCED (unsafe): log 101. -/
def Dev.feedback (d : Dev) (accepted : List Nat) : Dev :=
  if d.photoSet F.LAMP_PHOTO_CFG_FB_MODE = 0 then d
  else
    let es := d.prog.emitters.filter fun e => accepted.any fun i => (d.fbInputs e).testBit i
    let eta (e i : Nat) : Rat :=
      let b := 520 * i
      let s : Rat := 1 + (signed 8 (d.photoField (b + 2) 0 8) : Rat) / 10000 *
        ((d.zoneTemp (d.photoZone i) : Rat) - signed 16 (d.photoField (b + 2) 16 16)) / 16
      let k : Rat := (Word.field (nth d.flash.photoK i 0) (16 * e) 16 : Rat)
      ratDiv k ((d.photoField (b + 1) (16 * e) 16 : Rat) * s * d.trimFactor e d.adjCol)
    let c0 (e : Nat) : Rat := ratMean ((accepted.filter fun i => (d.fbInputs e).testBit i).map fun i => ratDiv 1 (eta e i))
    let mean := ratMean (es.map c0)
    let step : Rat := (d.photoSet F.LAMP_PHOTO_CFG_FB_STEP_PERMILLE : Rat) / 1000
    let new (e : Nat) : Rat :=
      let old := nth d.flash.factors e 1
      if es.contains e then
        let c := if d.photoSet F.LAMP_PHOTO_CFG_FB_MODE = 1 then ratDiv (c0 e) mean else c0 e
        let m := c - old
        old + (if m < -step then -step else if step < m then step else m)
      else old
    let cs := (List.range 4).map new
    let out := d.factorsOut cs es
    let d := d.onFlash fun f => { f with factors := cs }
    let d := d.setAll [(F.LAMP_PHOTO_FB_C_R, rat14 (new 0)), (F.LAMP_PHOTO_FB_C_G, rat14 (new 1)), (F.LAMP_PHOTO_FB_C_B, rat14 (new 2)),
      (F.LAMP_PHOTO_FB_C_W, rat14 (new 3))]
    let d := d.onPhoto fun p => { p with wait := some (d.factorFrame, out.1, out.2.1), waitIn := false }
    if out.2.2 then
      (d.raiseFlag F.LAMP_CAL_STAT_FB_LIMIT).eventCal 0x04 (maskOf accepted) (d.get F.LAMP_CAL_STAT_LAST_RESULT) 0 .warning
    else d

/-- The factors kept in flash are in force again once the tables are loaded (R426). -/
def Dev.factorsBoot (d : Dev) : Dev :=
  if d.flash.factors.all (· == 1) then d
  else
    let out := d.factorsOut d.flash.factors (d.prog.emitters.filter fun e => !(d.fbTrims e).isEmpty)
    d.onPhoto fun p => { p with wait := some (0, out.1, out.2.1), waitIn := false }

/-! ### The end of a run (R417, R423) -/

/-- Largest disagreement of an input's two windows, as a fraction of their mean. -/
def disagreement (a b : List Rat) : Rat :=
  ((a.zip b).map fun x =>
    let m := x.1 + x.2
    let df := if x.1 ≤ x.2 then x.2 - x.1 else x.1 - x.2
    if m = 0 then (0 : Rat) else 2 * df / m).foldl max 0

/-- LAST_RESULT's code for an input.
DEDUCED (unsafe): log 99. -/
def PhotoIn.judge (x : PhotoIn) (agree : Nat) : Nat :=
  if x.noTemp then 6
  else match x.winA, x.winB with
    | some a, some b => if x.moved then 4 else if disagreement a b ≤ (agree : Rat) / 1000 then 1 else 2
    | _, _ => 3

/-- K_e of an accepted input, 4.12, by emitter number. -/
def acceptedK (emitters : List Nat) (a b : List Rat) : Word :=
  Word.pack ((List.range emitters.length).map fun n =>
    (16 * nth emitters n 0, 16, min 65535 (ratRound ((nth a n 0 + nth b n 0) / 2 * 4096)).toNat))

/-- Shunt offsets of rails in VOLTAGE mode: adopted where A and B agree within 8 codes (R423). -/
def Dev.adoptOffsets (d : Dev) (r : PhotoRun) : Dev :=
  if r.shuntA.isEmpty || r.shuntB.isEmpty then d
  else (List.range 12).foldl (fun d n =>
    let a := railMean r.shuntA n
    let b := railMean r.shuntB n
    if d.railMode n = 1 && decide (a - b ≤ 8) && decide (b - a ≤ 8) then
      let v := ratRound ((a + b) / 2)
      (d.onFlash fun f => { f with offsets := modifyNth f.offsets n fun _ => v }).setInt (F.LAMP_HKA_RAIL_OFS n) v
    else d) d

/-- CAL_RUN_END (R423): every input of the run has both windows, or RUN_MAX windows have passed. -/
def execCalRunEnd (s : State) : Host.Outcome State Fault Refusal :=
  s.onDev fun d =>
    match d.photo.run with
    | none => d
    | some r =>
      let mine := (List.range 8).filter fun i => r.mask.testBit i
      let max_ := d.photoSet F.LAMP_PHOTO_CFG_RUN_MAX
      if mine.any fun i => (d.input i).winB.isNone && decide ((d.input i).windows < max_) then d
      else
        let agree := d.photoSet F.LAMP_PHOTO_CFG_AGREE_PERMILLE
        let code (i : Nat) : Nat := (d.input i).judge agree
        let acc := mine.filter fun i => code i == 1
        let rej := mine.filter fun i => code i == 2 || code i == 4 || code i == 6
        let noc := mine.filter fun i => code i == 3
        let last := ((mine.find? fun i => code i != 1).map code).getD 1
        let worst := ((mine.map fun i => match (d.input i).winA, (d.input i).winB with
          | some a, some b => (disagreement a b * 1000).floor.toNat
          | _, _ => 0).foldl max 0)
        let es := d.prog.emitters
        let d := acc.foldl (fun d i => match (d.input i).winA, (d.input i).winB with
          | some a, some b =>
            let k := acceptedK es a b
            ((d.setReg (R.LAMP_PHOTO_K i) k).set (F.LAMP_PHOTO_VAL_CAL_OK i) 1).onFlash fun f => { f with
              photoK := modifyNth f.photoK i fun _ => k, calOk := f.calOk ||| 2 ^ i }
          | _, _ => d) d
        let d := d.adoptOffsets r
        let d := d.onFlash fun f => { f with rejects := satTo 65535 (f.rejects + rej.length + noc.length) }
        let d := if acc.isEmpty then d
          else
            let tz := Word.pack ((List.range 4).map fun z => (16 * z, 16, toSigned 16 (d.zoneTemp z)))
            let d := d.onFlash fun f => { f with runs := satTo 65535 (f.runs + 1), calTz := tz, calTime := Word.of d.wallS }
            (d.setReg R.LAMP_CAL_TZ tz).setReg R.LAMP_CAL_TIME (Word.of d.wallS)
        let d := d.setAll [(F.LAMP_CAL_INFO_RUNS, d.flash.runs), (F.LAMP_CAL_INFO_REJECTS, d.flash.rejects),
          (F.LAMP_CAL_STAT_ACCEPTED_MASK, maskOf acc)]
        let d := d.calEnd last
        let d := (List.range 8).foldl (fun d i => d.set (F.LAMP_PHOTO_VAL_STALE i) 0) d
        let ev (d : Dev) (l : List Nat) (flag : Fld) (cause : Nat) (sev : Severity) : Dev :=
          if l.isEmpty then d else (d.raiseFlag flag).eventCal cause (maskOf l) last worst sev
        let d := ev d acc F.LAMP_CAL_STAT_ACCEPTED 0x01 .info
        let d := ev d rej F.LAMP_CAL_STAT_REJECTED 0x02 .warning
        let d := ev d noc F.LAMP_CAL_STAT_NO_CONTENT 0x03 .warning
        let d := if acc.isEmpty then d else d.feedback acc
        d.onPhoto fun p => { p with
          run := none, inputs := List.replicate 8 {}, endedAt := if acc.isEmpty then some d.now else none }

/-- A push that includes the PHOTO class (R426): no input holds a calibration, the factors are 1 from the frame that adopts it. -/
def Dev.photoPushed (d : Dev) : Dev :=
  let d := d.onFlash fun f => { f with photoK := List.replicate 8 0, calOk := 0, factors := [1, 1, 1, 1] }
  let d := (List.range 8).foldl (fun d i => (d.setReg (R.LAMP_PHOTO_K i) 0).set (F.LAMP_PHOTO_VAL_CAL_OK i) 0) d
  let d := d.setAll [(F.LAMP_PHOTO_FB_C_R, 0x4000), (F.LAMP_PHOTO_FB_C_G, 0x4000), (F.LAMP_PHOTO_FB_C_B, 0x4000), (F.LAMP_PHOTO_FB_C_W, 0x4000)]
  d.onPhoto fun p => { p with onAdopt := true }

end Sys2Proof.Machine
end

