-- ==== Sys2Proof/Machine/Tables.lean ====
section
/-!
DEFINITION. A tile's tables and ledger (R344, R357 to R360, R365 to R368): the items of a table push, the rebuild of the working
table, saves and marks.
-/
namespace Sys2Proof.Machine

open Sys2Proof

/-! ### A table push (R366 to R368) -/

/-- An item addressed to a position reaches this tile. -/
def Dev.atPosition (d : Dev) (pos : Nat) : Bool := d.bit F.LINK_TILE_STAT_IDENT && d.get F.LINK_TILE_STAT_POSITION == pos

/-- TABLE_DATA (R367): words of a class go into the staging area. -/
def execTableData (end_ : Fin 2) (pos cls off : Nat) (words : List Word) (s : State) : Host.Outcome State Fault Refusal :=
  s.onDev fun d => d.fromEnd end_ fun d =>
    if !d.atPosition pos then d
    else
      let new := (List.range words.length).map fun i => (cls, off + i, nth words i 0)
      d.onLamp fun l => { l with staging := new ++ l.staging.filter fun x => !(x.1 == cls && decide (off ≤ x.2.1) && decide (x.2.1 < off + words.length)) }

/-- The words staged for a class, in order; none while one of `len` is missing or one lies beyond. -/
def stagedWords (staging : List (Nat × Nat × Word)) (cls len : Nat) : Option (List Word) :=
  let mine := staging.filter fun x => x.1 == cls
  if mine.length ≠ len then none
  else (List.range len).mapM fun i => (mine.find? fun x => x.2.1 == i).map (·.2.2)

/-- Why a staged class is rejected at END (R366, R367): its DETAIL, or its words. -/
def Dev.judgeClass (d : Dev) (cls crc len : Nat) : Except Nat (List Word) :=
  match stagedWords d.lamp.staging cls len with
  | none => .error 0
  | some ws =>
    if (checkWord 0 ws).toNat ≠ crc then .error 0
    else
      let hdr := if holdsClass d.lamp.accepted tcHeader then d.lamp.accepted else d.lamp.held
      match classRules cls ws hdr d.tileRect d.prog.emitters with
      | some detail => .error detail
      | none => .ok ws

/-- TABLE_END (R367): a staged class is checked. -/
def execTableEnd (end_ : Fin 2) (pos cls crc len : Nat) (s : State) : Host.Outcome State Fault Refusal :=
  s.onDev fun d => d.fromEnd end_ fun d =>
    if !d.atPosition pos then d
    else
      let verdict := d.judgeClass cls crc len
      let d := d.onLamp fun l => { l with staging := l.staging.filter fun x => x.1 != cls }
      match verdict with
      | .ok ws => d.onLamp fun l => { l with accepted := (cls, ws) :: l.accepted.filter fun x => x.1 != cls }
      | .error detail =>
        let d := d.onLamp fun l => { l with accepted := l.accepted.filter (fun x => x.1 != cls), pushBad := some (l.pushBad.getD (cls, detail)) }
        (d.raiseFlag F.LAMP_COR_STAT_TABLE_REJECT).eventTile R.LAMP_COR_STAT 0x09 detail 0 .fault

/-- A tile's answer to a push: a REPLY_PKT that carries TABLE_PUSH's opcode.
DEDUCED (unsafe): log 80. -/
def Dev.pushReply (d : Dev) (st : Status) (detail : Nat) (payload : List Word) : Dev :=
  d.sendTo 9 (replyPacket Op.tablePush.code 0 0 st.code detail 0 d.responder false payload)

/-- The pushed classes are in place, in the order of their numbers; classes not pushed stay. -/
def mergeClasses (held new : List (Nat × List Word)) : List (Nat × List Word) :=
  (List.range 6).filterMap fun i =>
    match (new.find? fun t => t.1 == i + 1) with
    | some t => some t
    | none => held.find? fun t => t.1 == i + 1

/-- The tile's tables go to its flash as its table data image (R368, R463).
DEDUCED (unsafe): log 80. -/
def Dev.writeTables (d : Dev) (epoch : Nat) : Dev :=
  let k := d.cls icTables
  let other := match k.active with
    | some a => 1 - a
    | none => 0
  let ws := makeDataImage icTables epoch 0 (tablesBody d.lamp.held)
  let d := d.onClass icTables fun k => { k with
    slots := modifyNth k.slots other fun x => { x with state := isLoaded, words := ws, done := imgBlocks ws, reason := 0, failBlock := 0 }
    active := some other, pending := none }
  d.set F.LAMP_TBL_EPOCH_FLASH_EPOCH epoch

/-- The tile adopts a push (R368).
DEDUCED (unsafe): log 80. -/
def Dev.adoptPush (d : Dev) (epoch mask : Nat) : Dev :=
  let new := d.lamp.accepted.filter fun t => mask.testBit t.1
  let held := mergeClasses d.lamp.held new
  let n := (classWords held tcCoef).length
  let d := d.onLamp fun l => { l with held := held, ledger := (l.ledger ++ List.replicate (n - l.ledger.length) 0).take n }
  let d := (d.refreshTableInfo.askRebuild).refreshWhyTables
  let d := if holdsClass held tcCoef then d else d.onLamp fun l => { l with built := some (held, []) }
  let d := (d.set F.LAMP_TBL_EPOCH_EPOCH epoch).writeTables epoch
  let d := if mask.testBit tcPhoto then d.photoPushed else d
  (d.calAbandon).pushReply .ok 0 [Word.of epoch]

/-- TABLE_COMMIT (R367, R368): the push is adopted, or fails as a whole.
DEDUCED (unsafe): log 80. -/
def execTableCommit (end_ : Fin 2) (pos epoch mask : Nat) (s : State) : Host.Outcome State Fault Refusal :=
  s.onDev fun d => d.fromEnd end_ fun d =>
    if !d.atPosition pos then d
    else
      let whole := (List.range 6).all fun i => !mask.testBit (i + 1) || holdsClass d.lamp.accepted (i + 1)
      let d := match d.lamp.pushBad with
        | some b => d.pushReply .invalid b.2 []
        | none => if whole then d.adoptPush epoch mask else d.pushReply .invalid 0 []
      d.onLamp fun l => { l with staging := [], accepted := [], pushBad := none }

/-- TABLE_REBUILD_DONE (R344): the working table waits for its correction latch, unless another rebuild was asked for.
DEDUCED (unsafe): log 89. -/
def execTableRebuildDone (s : State) : Host.Outcome State Fault Refusal :=
  s.onDev fun d =>
    if !d.isTile || d.lamp.rebuild = 0 then d
    else
      let w := buildWorking d.lamp.held d.lamp.ledger d.flash.map (d.get F.LAMP_COR_CFG_AGE_CAP)
      let d := if w.2 then d.raiseFlag F.LAMP_COR_STAT_AGE_CAPPED else d
      if d.lamp.rebuild = 2 then d.onLamp fun l => { l with rebuild := 1 }
      else d.onLamp fun l => { l with rebuild := 0, built := some (l.held, w.1) }

/-! ### The ledger (R357 to R360) -/

/-- A save starts: it reads the working ledger.
DEDUCED (unsafe): log 86. -/
def Dev.startSave (d : Dev) : Dev :=
  (d.onLamp fun l => { l with saving := some ⟨d.wallS, l.ledger⟩, saveRetry := false }).set F.LAMP_LEDGER_STAT_SAVING 1

/-- LEDGER_SAVE: its refusals, and a save at once; the reply comes with its completion (R360). -/
def bodyLedgerSave (s : State) (q : QCmd) : State × Answer :=
  let d := s.dev
  if d.isSender then (s, .refuse .role)
  else if d.lamp.saving.isSome then (s, .refuse .busy)
  else ({ s with dev := (d.onLamp fun l => { l with saveCmds := l.saveCmds ++ [q] }).startSave }, .later)

/-- LEDGER_SAVE as a command. -/
def execLedgerSave (h : Hdr) (s : State) := runRow h .ledgerSave [] bodyLedgerSave s

/-- The tile is in service and awake, with no save running. -/
def Dev.maySave (d : Dev) : Bool := d.isTile && d.boot == .up && d.awake && d.lamp.saving.isNone

/-- LEDGER_SAVE_TIMER (R359): ten minutes of lit operation have passed. -/
def execLedgerSaveTimer (s : State) : Host.Outcome State Fault Refusal :=
  s.onDev fun d => if d.maySave && d.lampsLit then d.startSave else d

/-- LEDGER_SAVE_RETRY (R359): 60 s after a save failed. -/
def execLedgerSaveRetry (s : State) : Host.Outcome State Fault Refusal :=
  s.onDev fun d => if d.maySave && d.lamp.saveRetry then d.startSave else d

/-- LEDGER_SAVE_DONE (R359): the save is read back; `good` is the outcome of that.
DESIGN CHOICE (safe): log 87. -/
def execLedgerSaveDone (good : Bool) (s : State) : Host.Outcome State Fault Refusal :=
  s.onDev fun d =>
    match d.lamp.saving with
    | none => d
    | some r =>
      let area := 1 - d.flash.lastArea
      let d := (d.onLamp fun l => { l with saving := none }).set F.LAMP_LEDGER_STAT_SAVING 0
      if good then
        let epoch := (d.get F.LAMP_LEDGER_STAT_EPOCH + 1) % 2 ^ 32
        let (secs, d) := match d.lamp.lastStart with
          | some t => (r.start - t, d)
          | none => (Config.noSaveBefore d.free % 2 ^ 32, d.draw)
        let ws := saveWords epoch r.start secs r.ledger d.lamp.lastSaved
        let d := d.onFlash fun f => { f with ledgers := modifyNth f.ledgers area fun _ => ws, lastArea := area }
        let d := d.setAll [(F.LAMP_LEDGER_STAT_EPOCH, epoch), (F.LAMP_LEDGER_TIME_SAVED_S, r.start)]
        let cmds := d.lamp.saveCmds
        let d := d.onLamp fun l => { l with lastSaved := r.ledger, lastStart := some r.start, saveCmds := [] }
        cmds.foldl (fun d q => d.reply q .ok 0 [Word.of epoch]) d.askRebuild
      else
        let d := (d.onFlash fun f => { f with ledgers := modifyNth f.ledgers area fun _ => [] }).onLamp fun l => { l with saveRetry := true }
        (d.raiseFlag F.LAMP_LEDGER_STAT_SAVE_FAIL).eventTile R.LAMP_LEDGER_STAT 0x0A 0 0 .warning

/-- LEDGER_MARK (R358): every 60 s while the lamps are lit. -/
def execLedgerMark (s : State) : Host.Outcome State Fault Refusal := s.onDev fun d => if d.lampsLit then d.ledgerMark else d

end Sys2Proof.Machine
end

