-- ==== Sys2Proof/Machine/Frames.lean ====
section
/-!
DEFINITION. Frames at a tile (R217, R264, R274, R284, R345 to R355, R362 to R364, R445): its share of a frame, the correction start
that closes reception, the drive words of a frame, and display with its repeats.
-/
namespace Sys2Proof.Machine

open Sys2Proof

/-! ### The tile's share of a frame (R264, R274) -/

/-- The tiles of the loop the tile is on, in position order. -/
def Dev.myLoop (d : Dev) : List LayoutTile := (List.range 128).filterMap fun p => d.link.layout.find? fun t => t.pos == p

/-- The index ranges of the tile's share: each COMPOSED slot, its first index and its parcels. -/
def Dev.shareRanges (d : Dev) (o : FrameOpen) : List (Nat × Nat × Nat) :=
  let bits := codeBits o.code
  let ts := d.myLoop
  let pos := d.get F.LINK_TILE_STAT_POSITION
  let before := slotParcels (ts.takeWhile fun t => decide (t.pos < pos)) bits
  let mine := ((ts.find? fun t => t.pos == pos).map fun t => tileParcels t.lamps bits).getD 0
  let slots := (List.range 8).filter o.composed.testBit
  (List.range slots.length).map fun q => (nth slots q 0, q * slotParcels ts bits + before, mine)

/-- The ranges whose parcels travel: slots the mask leaves lit. -/
def Dev.litRanges (d : Dev) (o : FrameOpen) : List (Nat × Nat × Nat) := (d.shareRanges o).filter fun r => o.mask.testBit r.1

/-- An index belongs to the tile's share. -/
def Dev.inShare (d : Dev) (o : FrameOpen) (index : Nat) : Bool :=
  (d.litRanges o).any fun r => decide (r.2.1 ≤ index) && decide (index < r.2.1 + r.2.2)

/-- Every parcel of the share is kept, and the tag verified where the frame is encrypted (R274). -/
def Dev.rxComplete (d : Dev) (x : RxFrame) : Bool :=
  match x.opened with
  | none => false
  | some o =>
    ((d.litRanges o).all fun r => (List.range r.2.2).all fun i => x.kept.any fun k => k.1 == r.2.1 + i) &&
      (!o.enc || x.tagOk == some true)

/-- The kept parcels of the share in index order. -/
def Dev.shareParcels (d : Dev) (o : FrameOpen) (kept : List (Nat × List Word)) : List (Nat × List Word) :=
  (d.litRanges o).flatMap fun r => (List.range r.2.2).filterMap fun i => kept.find? fun k => k.1 == r.2.1 + i

/-- The tag over the share as kept (R284). -/
def Dev.shareTag (d : Dev) (n : Nat) (o : FrameOpen) (kept : List (Nat × List Word)) : Word × Word :=
  frameTag (nth d.link.tile.keys o.key []) n (loopId (d.get F.LINK_TILE_STAT_LOOP) (d.get F.LINK_TILE_STAT_SENDER))
    (d.get F.LINK_TILE_STAT_POSITION) ((d.shareParcels o kept).flatMap (·.2))

/-- A tag that has arrived is verified once the share is whole; a mismatch sets TAG_FAIL (R284, R288). -/
def Dev.verifyTag (d : Dev) (x : RxFrame) : Dev × RxFrame :=
  match x.opened, x.tag with
  | some o, some t =>
    if !o.enc || x.tagOk.isSome || !d.rxComplete { x with tagOk := some true } then (d, x)
    else
      let good := d.shareTag x.n o x.kept == t
      let d := if good then d
        else
          let d := d.raiseFlag F.LINK_TILE_STAT_TAG_FAIL
          let d := if d.link.tile.reported then d else d.eventLink R.LINK_TILE_STAT 0x07 0 0 .fault
          d.onTileLink fun t => { t with reported := true }
      (d, { x with tagOk := some good })
  | _, _ => (d, x)

/-- Ends a tile receives from. -/
def Dev.rxEnds (d : Dev) : List Nat := [0, 1].filter d.receivesFrom

/-- An ABORT has come from every direction the tile receives from (R274). -/
def Dev.rxAborted (d : Dev) (x : RxFrame) : Bool := !x.aborted.isEmpty && d.rxEnds.all fun e => x.aborted.contains e

/-! ### Lamp codes -/

/-- The payload of a kept parcel, as one number. -/
def payloadBits (ws : List Word) : Nat := (List.range 30).foldl (fun v i => v + (nth ws (i + 1) 0).toNat * 2 ^ (64 * i)) 0

/-- The kept parcels with their payloads in clear (R284). -/
def Dev.clearParcels (d : Dev) (n : Nat) (o : FrameOpen) (kept : List (Nat × List Word)) : List (Nat × List Word) :=
  if !o.enc then kept
  else kept.map fun k => (k.1, nth k.2 0 0 :: cipherPayload (nth d.link.tile.keys o.key []) n k.1
    (loopId (d.get F.LINK_TILE_STAT_LOOP) (d.get F.LINK_TILE_STAT_SENDER)) (k.2.drop 1))

/-- The bit stream of one slot. -/
def streamOf (kept : List (Nat × List Word)) (start count : Nat) : Nat :=
  (List.range count).foldl (fun v i =>
    v + (((kept.find? fun k => k.1 == start + i).map fun k => payloadBits k.2).getD 0) * 2 ^ (1920 * i)) 0

/-- The codes of lamp j in a slot's stream. -/
def streamCodes (code stream j : Nat) : Px := unpackCodes code (bitsOf stream (codeBits code * j) (codeBits code))

/-! ### Supervised rectangles at a tile (R198, R199, R444) -/

/-- V of a rectangle over the codes received of its lamps. -/
def Dev.chainCheck (d : Dev) (t : LayoutTile) (r n code stream : Nat) : Nat :=
  let b := d.srecRect r
  let bytes := (List.range b.2.2.2).flatMap fun y => (List.range b.2.2.1).flatMap fun x =>
    codeFeed (streamCodes code stream ((b.2.1 - t.y + y) * t.w + (b.1 - t.x + x)))
  rectFrameCheck (rectFeed (rectInit b.1 b.2.1) bytes) n

/-- A CHAIN failure: its flag, its event, and what its ACTION brings.
DEDUCED (unsafe): log 107.
DEDUCED (unsafe): log 130. -/
def Dev.chainFail (d : Dev) (r n : Nat) : Dev :=
  let action := d.get (F.COMPOSE_SREC_CFG_ACTION r)
  let d := ((d.raiseFlag (F.COMPOSE_SREC_STAT_CHAIN_FAIL r)).bump (F.COMPOSE_SREC_STAT_FAIL_CNT r)).raiseFlag F.COMPOSE_STAT_CHECK_FAIL
  let d := d.eventPicture (R.COMPOSE_SREC_STAT r) 0x09 r (2 ^ d.get F.LINK_TILE_STAT_LOOP) 0 n (if action = 2 then .safety else .fault)
  let d := if action = 0 then d else d.frameCause n 7
  if action = 2 then d.enterSafe scPicture 4 else d

/-- The CHAIN checks of a complete frame. -/
def Dev.chainChecks (d : Dev) (n : Nat) (o : FrameOpen) (kept : List (Nat × List Word)) : Dev :=
  match (d.shareRanges o).head?, d.myLoop.find? fun t => t.pos == d.get F.LINK_TILE_STAT_POSITION with
  | some (slot, start, count), some t =>
    if !o.mask.testBit slot then d
    else
      let stream := streamOf kept start count
      (List.range 16).foldl (fun d r =>
        if !(d.bit (F.COMPOSE_SREC_CFG_EN r) && d.bit (F.COMPOSE_SREC_CFG_CHAIN_EN r) && Rect.within (d.srecRect r) t.rect) then d
        else
          let v := d.chainCheck t r n o.code stream
          if d.link.tile.chain.contains (r, n, v) then d else d.chainFail r n) d
  | _, _ => d

/-! ### The correction start (R217, R274) -/

/-- Runs of at most 128 lamps of one row in a rectangle of lamps: first column and row, columns, rows. -/
def lampRuns (x y w h : Nat) : List (Nat × Nat × Nat × Nat) :=
  let per := ceilDiv w 128
  (List.range (h * per)).map fun i => (x + i % per * 128, y + i / per, min 128 (w - i % per * 128), 1)

/-- Work items of a frame (R217, R218): of each lit slot, the chain on runs of at most 128 lamps of a row, each kernel's item after the
one before it on the run; and PHOTO_PREDICT on runs of the footprint of each enabled input, which `tile` names.
DEDUCED (unsafe): log 115. -/
def Dev.tileItems (d : Dev) (n : Nat) (o : FrameOpen) (plain : Bool) : List WorkItem :=
  let deadline := d.framePs n - (d.saddleNow * 2500 : Nat)
  let kernels := if plain then [kTilePlain, kLedgerAcc] else [kTileCorrect, kTileDither, kLedgerAcc]
  let runs := lampRuns 0 0 d.tileW d.tileH
  let item (k slot i : Nat) (a : Nat × Nat × Nat × Nat) : WorkItem :=
    { kernel := k, units := a.2.2.1, deadline := deadline, frame := n, slot := slot, tile := i, area := a }
  let photo (slot : Nat) : List WorkItem := if plain then [] else d.photoInputs.flatMap fun i =>
    let b := 520 * i
    (lampRuns (d.photoField b 0 12) (d.photoField b 12 12) (d.photoField b 24 12) (d.photoField b 36 12)).map fun a => item kPhotoPredict slot i a
  let slotItems (slot first : Nat) : List WorkItem :=
    ((List.range kernels.length).flatMap fun q => (List.range runs.length).map fun i =>
      { item (nth kernels q 0) slot i (nth runs i (0, 0, 0, 0)) with after := if q = 0 then none else some (first + (q - 1) * runs.length + i) }) ++
    photo slot
  (d.litRanges o).foldl (fun l r => l ++ slotItems r.1 l.length) []

/-- A complete frame goes to correction: its items are released, where a correction latch has fixed its set. -/
def Dev.startCorrection (d : Dev) (n : Nat) (o : FrameOpen) (kept : List (Nat × List Word)) : Dev :=
  match d.lamp.next with
  | none => d.frameCause n 4
  | some set =>
    if set.frame ≠ n then d.frameCause n 4
    else
      let d := d.onLamp fun l => { l with cor := some ⟨n, o, kept, set⟩, next := none }
      d.releaseItems (d.tileItems n o set.plain)

/-- A frame not complete at its correction start (R274, R288). -/
def Dev.incomplete (d : Dev) (n : Nat) : Dev :=
  let d := ((d.raiseFlag F.LINK_TILE_STAT_INCOMPLETE).bump F.LINK_TILE_CNT_INCOMPLETE).frameCause n 1
  let d := if d.link.tile.reported then d else d.eventLink R.LINK_TILE_STAT 0x08 0 0 .warning
  d.onTileLink fun t => { t with reported := true }

/-- A frame aborted from every direction, or whose tag failed, is abandoned at once (R274, R284): its flag, its count, its cause. -/
def Dev.abandonRx (d : Dev) (x : RxFrame) : Dev × RxFrame :=
  if x.ended then (d, x)
  else if d.rxAborted x then
    (((d.raiseFlag F.LINK_TILE_STAT_ABORT_RX).bump F.LINK_TILE_CNT_ABORTED).frameCause x.n 2, { x with ended := true })
  else if x.tagOk == some false then
    (((d.raiseFlag F.LINK_TILE_STAT_INCOMPLETE).bump F.LINK_TILE_CNT_INCOMPLETE).frameCause x.n 3, { x with ended := true })
  else (d, x)

/-- The frame in reception after something of it has arrived. -/
def Dev.putRx (d : Dev) (x : RxFrame) : Dev :=
  let r := d.verifyTag x
  let r := r.1.abandonRx r.2
  r.1.onTileLink fun t => { t with rx := r.2 :: t.rx.filter fun y => y.n != x.n }

/-- Reception of frame n ends (R274). -/
def Dev.closeReception (d : Dev) (n : Nat) : Dev :=
  let x := (d.link.tile.rx.find? fun x => x.n == n).getD { n := n }
  let d := d.onTileLink fun t => { t with closed := some n, rx := t.rx.filter fun x => decide (n < x.n) }
  let r := d.abandonRx x
  let d := r.1
  let x := r.2
  if x.ended then d
  else
    match x.opened with
    | some o =>
      if d.rxComplete x then
        let kept := d.clearParcels n o x.kept
        let d := (d.bump F.LINK_TILE_CNT_COMPLETE).onTileLink fun t => { t with reported := false }
        (d.chainChecks n o kept).startCorrection n o kept
      else d.incomplete n
    | none => d.incomplete n

/-- TILE_CORRECTION_START: t0 + (n - 1) Tf at an enumerated tile awake and out of the safe state; elsewhere the frame's span of
reception passes and nothing else happens. -/
def execTileCorrectionStart (n : Nat) (s : State) : Host.Outcome State Fault Refusal :=
  s.onDev fun d =>
    if !d.isTile || d.boot != .up then d
    else if d.awake && !d.safeNow && d.bit F.LINK_TILE_STAT_IDENT then d.closeReception n
    else d.onTileLink fun t => { t with closed := some n, rx := t.rx.filter fun x => decide (n < x.n) }

/-! ### The drive words of a frame -/

/-- Zone temperatures, g_col, and T_CAL of a set. -/
def CorSet.reg (c : CorSet) (a : Nat) : Word := (lookupWord a c.regs).getD (regReset a)
def CorSet.get (c : CorSet) (f : Fld) : Nat := Word.field (c.reg f.addr) f.lo f.width
def CorSet.temp (c : CorSet) (z : Nat) : Int := signed 16 (Word.field (c.reg R.LAMP_COR_TEMP) (16 * z) 16)

/-- What the correction kernels work from for one slot (R354). -/
def CorFrame.input (c : CorFrame) (emitters : List Nat) (q stream : Nat) : CorIn :=
  let ts := c.set.tables
  { w := hdrWidth ts, h := hdrHeight ts, code := c.opened.code, decode := c.opened.decode
    px := streamCodes c.opened.code stream, working := c.set.working, curves := classWords ts tcCurves, seam := classWords ts tcSeam
    wEn := hdrWEn ts, zones := hdrZones ts, temp := c.set.temp, tCal := hdrTCal ts
    gcol := fun e => Word.field (c.set.reg R.LAMP_COR_GAIN) (16 * e) 16, fill := c.set.get F.LAMP_COR_CFG_FILL
    dither := c.set.get F.LAMP_COR_CFG_DITHER_EN == 1, emitters := emitters
    s := c.n * popCount 8 c.opened.composed + q }

/-- The drive words of every lit slot of a frame in correction (R345 to R353). -/
def Dev.driveWords (d : Dev) (c : CorFrame) : DriveFrame :=
  let ranges := d.shareRanges c.opened
  let slots := ((List.range ranges.length).filter fun q => c.opened.mask.testBit (nth ranges q (0, 0, 0)).1).map fun q =>
    let r := nth ranges q (0, 0, 0)
    let stream := streamOf c.kept r.2.1 r.2.2
    let lamps := if c.set.plain then
        (List.range (hdrWidth c.set.tables * hdrHeight c.set.tables)).map fun j =>
          plainLamp c.opened.code c.opened.decode (c.set.get F.LAMP_COR_CFG_PLAIN_LEVEL)
            (fun e => if c.set.working.isEmpty then inMap d.flash.map j e else peFail (peWord c.set.working j e))
            (streamCodes c.opened.code stream j)
      else (c.input d.prog.emitters q stream).drive
    (r.1, lamps)
  ⟨c.n, c.opened.mask, c.opened.composed, slots, c.set⟩

/-- Some target of the frame was clamped from above (R349). -/
def DriveFrame.clips (f : DriveFrame) : Bool := f.slots.any fun s => s.2.any fun j => j.any fun w => bitsOf w.1 22 1 == 1

/-- CLIP: its flag, its count, and EV_PICTURE at most once a second (R349, R370). -/
def Dev.noteClip (d : Dev) (n : Nat) : Dev :=
  let d := (d.raiseFlag F.LAMP_COR_STAT_CLIP).bump F.LAMP_COR_CNT_CLIP_FRAMES
  let due := match d.lamp.clipAt with
    | some t => decide (t + sPs ≤ d.now)
    | none => true
  if due then (d.onLamp fun l => { l with clipAt := some d.now }).eventPicture R.LAMP_COR_STAT 0x0E 0 0 0 n .info else d

/-- At frame m's lamp-drive latch the tile judges whether it is ready (R217, R363): a cause recorded, items left or failed. -/
def Dev.judgeReady (d : Dev) (m : Nat) : Dev :=
  match d.lamp.cor with
  | none => d
  | some c =>
    if c.n ≠ m then d
    else
      let holds (i : WorkItem) : Bool := !i.background && i.frame == m && i.kernel != kLedgerAcc && i.kernel != kPhotoPredict
      let left := d.itemsLeft.filter fun i => !i.background && i.frame == m
      let failed := d.compose.failed.filter fun i => i.frame == m
      let d := if left.any holds then d.frameCause m 4 else d
      let d := if failed.any holds then d.frameCause m 5 else d
      let missed := (left ++ failed).filter fun i => i.kernel == kPhotoPredict
      let d := (d.onPhoto fun p => { p with failed := missed.foldl (fun k i => k ||| 2 ^ i.tile) 0 })
      let d := if missed.isEmpty then d else d.raiseFlag F.LAMP_CAL_STAT_PREDICT_FAIL
      let d := d.onLamp fun l => { l with cor := none }
      -- items of the frame that missed their deadline are given up, but for the ledger's of a frame that is ready
      let lost := d.lamp.causes.any fun x => x.1 == m
      let late (i : WorkItem) : Bool := !i.background && i.frame == m && (lost || i.kernel != kLedgerAcc)
      let d := d.onCompose fun z => { z with
        waiting := z.waiting.filter fun i => !late i
        basins := z.basins.map fun b => { b with queue := b.queue.filter fun i => !late i } }
      if lost then d
      else
        let f := d.driveWords c
        let d := if !c.set.plain && f.clips then d.noteClip m else d
        d.onLamp fun l => { l with ready := some f }

/-! ### Display (R363, R364, R445) -/

/-- Stress of one slot-frame on display (R355): the stripe of the slot-frame count, less the runs whose LEDGER_ACC item failed.
DESIGN CHOICE (safe): log 85. -/
def Dev.accumulateSlot (d : Dev) (n q : Nat) (f : DriveFrame) (slot : Nat) : Dev :=
  let w := hdrWidth f.set.tables
  let h := hdrHeight f.set.tables
  let s := n * popCount 8 f.composed + q
  let per := ceilDiv w 128
  let skipped := (d.compose.failed.filter fun i => i.kernel == kLedgerAcc && i.frame == n && i.slot == slot).map (·.tile)
  let td := d.get F.LAMP_LEDGER_CFG_TD
  let len := d.slotLen slot
  let add (k : Nat) : Nat :=
    let j := k / 4
    let x := j % w
    let run := j / w * per + x / 128
    if j % 64 != s % 64 || skipped.contains run then 0
    else stressAdd (f.drive slot j (k % 4)) len (f.set.temp (zoneOf (hdrZones f.set.tables) w h x (j / w))) td
  let d := if skipped.isEmpty then d else d.raiseFlag F.LAMP_LEDGER_STAT_SKIPPED
  if w = 0 then d
  else d.onLamp fun l => { l with ledger := (List.range l.ledger.length).map fun k => min stressMax (nth l.ledger k 0 + add k) }

/-- The ledger takes the frame on display (R355), nothing while the lamps are dark or EN is 0.
DESIGN CHOICE (safe): log 85. -/
def Dev.accumulate (d : Dev) (n : Nat) : Dev :=
  match d.lamp.shown with
  | none => d
  | some f =>
    if !d.lampsLit || d.lamp.locate.isSome || !d.bit F.LAMP_LEDGER_CFG_EN then d
    else
      let slots := (List.range 8).filter f.composed.testBit
      (List.range slots.length).foldl (fun d q =>
        let slot := nth slots q 0
        if f.mask.testBit slot then d.accumulateSlot n q f slot else d) d

/-- A ready frame goes on display. -/
def Dev.showFrame (d : Dev) (f : DriveFrame) : Dev :=
  let d := d.onLamp fun l => { l with ready := none, shown := some f, old := l.shown, repeating := false, frozen := false }
  let d := d.onSafe fun x => { x with repeats := 0 }
  d.setAll [(F.LAMP_COR_STAT_ALT, 1 - d.get F.LAMP_COR_STAT_ALT), (F.LAMP_COR_SHOW_FRAME, f.n), (F.COMPOSE_SLOT_STAT_MASK, f.mask)]

/-- Frame n is not ready: the frame on display is shown again with its own mask (R246, R364, R445).
DEDUCED (unsafe): log 90. -/
def Dev.repeatFrame (d : Dev) (n : Nat) (f : DriveFrame) : Dev :=
  let causes := (d.lamp.causes.filter fun x => x.1 == n).map (·.2)
  let cause := causes.foldl min (if causes.isEmpty then 4 else 15)
  let first := !d.lamp.repeating
  let limit := d.get F.KEEP_SAFE_CFG_FREEZE_LIMIT
  let was := d.safe.repeats
  let d := d.setAll [(F.LAMP_COR_STAT_REPEATED, 1), (F.LAMP_COR_STAT_LAST_CAUSE, cause), (F.COMPOSE_SLOT_STAT_REPEAT_MASK, 1),
    (F.COMPOSE_SLOT_STAT_MASK, f.mask)]
  let d := (d.bump F.LAMP_COR_CNT_REPEATS).onLamp fun l => { l with repeating := true, ready := none, frozen := l.frozen || (decide (0 < limit) && decide (limit ≤ was)) }
  let d := if first then d.eventPicture R.LAMP_COR_STAT 0x0D 0 0 cause n .warning else d
  let d := d.onSafe fun x => { x with repeats := was + 1 }
  if 0 < limit && was + 1 = limit then (d.raiseFlag F.KEEP_SAFE_STAT_FROZEN_DARK).eventFault 0x06 6 .fault R.KEEP_SAFE_STAT else d

/-- FRAME_START: F_n at a tile awake and out of the safe state. A tile that has shown nothing stays dark. -/
def execFrameStart (n : Nat) (s : State) : Host.Outcome State Fault Refusal :=
  s.onDev fun d =>
    if !d.isTile || d.boot != .up || d.safeNow then d
    else if !d.awake then d.lampsAsleep
    else
      let d : Dev := match d.lamp.ready, d.lamp.shown with
        | some f, some g => if f.n = n then d.showFrame f else d.repeatFrame n g
        | some f, none => if f.n = n then d.showFrame f else d
        | none, some g => d.repeatFrame n g
        | none, none => d
      let d := (d.laneEvent leFrame (d.lampEdge n 0 1)).refreshLit
      d.accumulate n

end Sys2Proof.Machine
end

