-- ==== Sys2Proof/Machine/LinkRx.lean ====
section
/-!
DEFINITION. Parcels at a port (R260 to R274, R279 to R284): reception, forwarding and keeping, what a tile takes of a frame, the
parcel a position carries; lanes, locks and training (R257, R275, R278 to R280).
-/
namespace Sys2Proof.Machine

open Sys2Proof

/-! ### Sending one parcel -/

/-- LINK works: the device is out of reset, its RPLL runs, no region reset and no deep sleep holds it. -/
def Dev.linkRuns (d : Dev) : Bool :=
  (d.boot == .up || d.boot == .recovery || d.boot == .noDram) && !d.clk.onHko && !d.safe.inReset.contains 5 &&
  d.power != .deep && d.power != .wakeWait


/-- Everything queued for service slots of a port leaves it: what is sent before a retraining. -/
def Dev.flushCtrl (d : Dev) (n : Nat) : Dev :=
  let q := (d.port n).ctrl
  (q.foldl (fun d ws => d.putParcel n ws) d).onPort n fun p => { p with ctrl := [] }

/-! ### Forwarding at a tile (R272, R263, R276) -/

/-- ENUM leaves a tile with HOPS one higher. -/
def bumpHops (ws : List Word) : List Word :=
  if Word.field (nth ws 1 0) 0 9 == 0x105 then
    modifyNth ws 2 fun w => Word.setField w 0 8 (Word.field w 0 8 + 1)
  else ws

/-- A tile sends on what it receives, but LINK and TIME; an OPEN that is no rate-match OPEN makes room for a REPLY. -/
def Dev.forward (d : Dev) (n : Nat) (h : ParcelHead) (ws : List Word) (bad overflow : Bool) : Dev :=
  let m := 1 - n
  let toward := 1 - d.tileEnd n
  if !d.isTile || 2 ≤ n || d.portState m < lsCol || h.ty == ptLink || h.ty == ptTime then d
  else if overflow then d.raiseFlag (F.LINK_OVL_STAT_RM_OVF m)
  else if h.ty == ptOpen && h.index == 0 && !bad then
    match nth d.link.tile.replies toward [] with
    | r :: rest => (d.onTileLink fun t => { t with replies := modifyNth t.replies toward fun _ => rest }).putParcel m r
    | [] => d.putParcel m ws
  else d.putParcel m (if h.ty == ptCtrl then bumpHops ws else ws) bad

/-! ### What a tile takes of a frame (R37, R274) -/

/-- The frame in reception: the one after the last closed; before any, the one composed in the frame in progress (R185). -/
def Dev.rxFrame (d : Dev) : Nat := match d.link.tile.closed with
  | some c => c + 1
  | none => d.frameNow + 2

/-- What has come of the frame in reception. -/
def Dev.rxState (d : Dev) : RxFrame := (d.link.tile.rx.find? fun x => x.n == d.rxFrame).getD { n := d.rxFrame }

/-- Something of a frame, named modulo 2^24, reaches an enumerated tile: taken inside the frame's span, else STALE_SEQ. -/
def Dev.ofFrame (d : Dev) (frame : Nat) (f : RxFrame → RxFrame) : Dev :=
  if !d.isTile || !d.bit F.LINK_TILE_STAT_IDENT then d
  else if frame % 2 ^ 24 != d.rxFrame % 2 ^ 24 then d.raiseFlag F.LINK_TILE_STAT_STALE_SEQ
  else if d.rxState.ended then d
  else d.putRx (f d.rxState)

/-- A pixel parcel of the tile's share is kept once; before FRAME_OPEN every index may be of it. -/
def Dev.keepPixel (d : Dev) (h : ParcelHead) (ws : List Word) : Dev :=
  d.ofFrame h.frame fun x =>
    let mine := match x.opened with
      | some o => d.inShare o h.index
      | none => true
    if !mine || x.kept.any fun k => k.1 == h.index then x else { x with kept := (h.index, ws) :: x.kept }

/-! ### Items (R266) -/

/-- Fragments in order, as one body. -/
def fragmentBody (frags : List (Nat × List Word)) (last : Nat) : List Word :=
  (List.range (last + 1)).flatMap fun i => ((frags.find? fun f => f.1 == i).map (·.2)).getD []

/-- A CTRL or REPLY parcel's payload joins its item; the answer is the item once whole. -/
def Dev.addFragment (d : Dev) (n : Nat) (reply : Option Nat) (pl : List Word) : Dev × Option Item :=
  let w := nth pl 0 0
  let code := Word.field w 0 8
  let frag := Word.field w 16 16
  let msg := Word.field w 32 32
  let body := pl.drop 1
  if w.getLsbD 8 && w.getLsbD 9 then (d, some ⟨code, body⟩)
  else
    let same (x : Partial) : Bool := x.port == n && x.reply == reply && x.code == code && x.msg == msg
    let p := (d.link.partials.find? same).getD ⟨n, reply, code, msg, [], none, d.now⟩
    let p := { p with
      frags := if p.frags.any fun f => f.1 == frag then p.frags else (frag, body) :: p.frags
      last := if w.getLsbD 9 then some frag else p.last }
    let others := d.link.partials.filter fun x => !same x
    match p.last with
    | some l =>
      if (List.range (l + 1)).all fun i => p.frags.any fun f => f.1 == i then
        (d.onLink fun k => { k with partials := others }, some ⟨code, fragmentBody p.frags l⟩)
      else (d.onLink fun k => { k with partials := p :: others }, none)
    | none => (d.onLink fun k => { k with partials := p :: others }, none)

/-- ITEM_REASSEMBLY_TIMEOUT (R266): an item not complete in time is discarded. -/
def execItemReassemblyTimeout (port : Fin 8) (msg : Nat) (s : State) : Host.Outcome State Fault Refusal :=
  s.onDev fun d => d.onLink fun l => { l with partials := l.partials.filter fun p => !(p.port == port.val && p.msg == msg) }

/-- The sender's mark on a tile whose tables do not match (R16, R120, R277): set, it ends full service; cleared, the tile reports
RELOADED. The item that carries it is the model's own.
DEDUCED (unsafe): log 60. -/
def Dev.takeMark (d : Dev) (stale : Bool) : Dev :=
  let was := d.bit F.KEEP_SVC_STAT_WHY_STALE
  let d := d.setBit F.KEEP_SVC_STAT_WHY_STALE stale
  if stale && d.service == 2 then
    (d.setService 1).eventTile R.LINK_TILE_STAT 0x07 0 0 .warning
  else if was && !stale then d.eventTile R.LINK_TILE_STAT 0x06 0 0 .info
  else d

/-- Code of the item that carries the mark.
DEDUCED (unsafe): log 60. -/
abbrev itMark : Nat := 0x0D

/-- CTRL at a tile: its item joins up; the mark is taken here, every other item by its own row.
DEDUCED (unsafe): log 62. -/
def Dev.takeCtrl (d : Dev) (n : Nat) (ws : List Word) : Dev :=
  let r := d.addFragment n none (ws.drop 1)
  match r.2 with
  | some i =>
    let w := nth i.body 0 0
    if i.code == itMark && r.1.isTile && r.1.bit F.LINK_TILE_STAT_IDENT && Word.field w 0 7 == r.1.get F.LINK_TILE_STAT_POSITION then
      r.1.takeMark (w.getLsbD 8)
    else r.1
  | none => r.1

/-! ### Reception (R262, R263, R273) -/

/-- A parcel that a sender sent has come back to an end: the loop is closed (R273, R278). -/
def Dev.returned (d : Dev) (k : Nat) : Dev :=
  let d := d.onLoop k fun l => { l with lastReturn := some d.now }
  if d.loopState k = lsDown then d else d.setAll [(F.LINK_LOOP_STAT_CLOSED k, 1), (F.LINK_LOOP_STAT_CUT_AFTER k, 0x7F)]

/-- A good parcel. -/
def Dev.goodParcel (d : Dev) (n : Nat) (h : ParcelHead) (ws : List Word) : Dev :=
  let d := d.onPort n fun p => { p with lastRx := some d.now }
  if d.isTile then
    let d := d.refreshDirs
    if h.ty = ptPixel then d.keepPixel h ws else if h.ty = ptCtrl then d.takeCtrl n ws else d
  else
    match d.portLoop n with
    | some (k, _) => if h.ty == ptPixel || h.ty == ptCtrl || h.ty == ptAbort || h.ty == ptTag then d.returned k else d
    | none => if h.ty = ptCtrl then (d.addFragment n none (ws.drop 1)).1 else d

/-- A port receives 32 words.
DEDUCED (unsafe): log 62. -/
def Dev.parcelRx (d : Dev) (n : Nat) (words : List Word) (overflow : Bool) : Dev :=
  let ws := words.take 31
  let h := ParcelHead.ofWord (nth ws 0 0)
  let want := parcelCheck ((d.portLoopId n).getD (loopId h.loop h.sender)) h ws
  let got := nth words 31 0
  if got != want then
    let d := if got == ~~~want then d.bump (F.LINK_OVL_CNT_STOMPS n)
      else (d.bump (F.LINK_OVL_CNT_CHECK_ERRS n)).raiseFlag (F.LINK_OVL_STAT_CHECK_ERR n)
    d.forward n h ws true overflow
  else if 8 ≤ h.ty || h.resv != 0 then d.bump (F.LINK_OVL_CNT_CHECK_ERRS n)
  else (d.goodParcel n h ws).forward n h ws false overflow

/-- PARCEL_RX: the words of a parcel, and whether a forwarder's buffer is full (R272).
DESIGN CHOICE (safe): log 7. -/
def execParcelRx (port : Fin 8) (words : List Word) (overflow : Bool) (s : State) : Host.Outcome State Fault Refusal :=
  if words.length ≠ 32 then .fault .illFormed
  else s.onDev fun d =>
    if d.linkRuns && d.portActive port.val && decide (lsCol ≤ d.portState port.val) then d.parcelRx port.val words overflow else d

/-- FRAME_OPEN_RX (R267, R274). -/
def execFrameOpenRx (_port : Fin 8) (n : Nat) (o : FrameOpen) (s : State) : Host.Outcome State Fault Refusal :=
  s.onDev fun d =>
    if !d.linkRuns then d
    else d.ofFrame n fun x =>
      if x.opened.isSome then x else { x with opened := some o, kept := x.kept.filter fun k => d.inShare o k.1 }

/-- ABORT_RX (R269, R274): one direction's copy ends. -/
def execAbortRx (port : Fin 8) (n index reason : Nat) (s : State) : Host.Outcome State Fault Refusal :=
  let _ := (index, reason)
  s.onDev fun d =>
    if !d.linkRuns then d
    else d.ofFrame n fun x =>
      let e := d.tileEnd port.val
      if x.aborted.contains e then x else { x with aborted := e :: x.aborted }

/-- TAG_RX (R284): the tags of consecutive positions, from the first named. -/
def execTagRx (_port : Fin 8) (n first : Nat) (tags : List (Word × Word)) (s : State) : Host.Outcome State Fault Refusal :=
  s.onDev fun d =>
    if !d.linkRuns then d
    else d.ofFrame n fun x =>
      let pos := d.get F.LINK_TILE_STAT_POSITION
      if x.tag.isSome || pos < first then x else { x with tag := tags[pos - first]? }

/-! ### What a position carries (R270, R271, R322) -/

/-- The LINK parcel of a port (R270).
DEDUCED (unsafe): log 64. -/
def Dev.linkWords (d : Dev) (n : Nat) : List Word :=
  let p := d.port n
  let lanes := d.get (F.LINK_OVL_STAT_RX_LANES n)
  let lock := if d.portState n = lsFull then 15 - p.rxRetired else 1
  let lid := d.portLoopId n
  let mode := if d.isTile then max (d.portState 0) (d.portState 1) else match d.portLoop n with
    | some (k, _) => (d.loopSt k).mode
    | none => lsFull
  let h : ParcelHead := ⟨ptLink, false, 0, 0, d.parcelFrame, lid.getD 0 % 16, lid.getD 0 / 16, 0⟩
  parcelWords h [d.reg R.KEEP_UID_LO, d.reg R.KEEP_UID_HI,
    Word.pack [(0, 4, lock), (4, 3, lanes), (7, 1, d.isTile.toNat), (8, 1, n), (9, 6, lid.getD 0), (15, 1, lid.isSome.toNat),
      (16, 2, mode - 2)], Word.of p.rxRetired]

/-- HOPS a port transmits (R324, R327): 0 at a holder's or a single sender's end. -/
def Dev.txHops (d : Dev) : Nat := if d.isTile || d.isStandby then d.get F.TIME_STAT_HOPS else 0

/-- A TIME parcel leaves a port; its launch is remembered (R322).
DEDUCED (unsafe): log 72. -/
def Dev.sendTime (d : Dev) (n : Nat) : Dev :=
  let t := nth d.time.sides n {}
  let stamp := d.time.wall + Config.launchLatency n
  let lid := (d.portLoopId n).getD 0
  let echo := t.echo.getD (0, 0)
  let p := d.ptp ((d.pathInUse).getD 0)
  let h : ParcelHead := ⟨ptTime, false, 0, d.txHops + (d.timeState == tsLocked).toNat * 128 + t.nextSeq % 65536 * 256, d.parcelFrame,
    lid % 16, lid / 16, 0⟩
  let ws := parcelWords h [Word.of (stamp / secU), Word.pack [(0, 30, stamp % secU / nsU), (32, 32, stamp % nsU)],
    Word.of (echo.2 / secU), Word.pack [(0, 30, echo.2 % secU / nsU), (32, 32, echo.2 % nsU)],
    Word.pack [(0, 16, echo.1), (16, 1, t.echo.isSome.toNat)],
    if d.isTile || d.isStandby then d.time.info
    else Word.pack [(0, 16, p.utc), (16, 1, p.utcValid.toNat), (17, 1, p.leap61.toNat), (18, 1, p.leap59.toNat)]]
  let d := d.onTime fun x => { x with sides := modifyNth x.sides n fun t =>
    { t with launches := (t.nextSeq % 65536, stamp) :: t.launches.take 31, nextSeq := (t.nextSeq + 1) % 65536 } }
  (d.onPort n fun p => { p with timeAt := some d.now }).putParcel n ws

/-- Something sent at intervals is due again. -/
def Dev.dueAt (d : Dev) (last : Option Nat) (period : Nat) : Bool := match last with
  | some t => decide (t + period ≤ d.now)
  | none => true

/-- A TIME parcel is due on a port: every 10 µs, or 1 ms at col rate (R322). -/
def Dev.timeDue (d : Dev) (n : Nat) : Bool :=
  d.time.running && d.dueAt (d.port n).timeAt (if d.portState n = lsCol then msPs else 10 * usPs)

/-- An OPEN, or the LINK parcel in its place: every 100 µs, or 1 ms at col rate (R270). A tile's own REPLY parcels fill the OPENs
it sources (R272).
DEDUCED (unsafe): log 112. -/
def Dev.sendOpen (d : Dev) (n : Nat) : Dev :=
  let toward := d.tileEnd n
  if d.dueAt (d.port n).linkAt (if d.portState n = lsCol then msPs else 100 * usPs) then
    (d.onPort n fun p => { p with linkAt := some d.now }).putParcel n (d.linkWords n)
  else match (if d.isTile then nth d.link.tile.replies toward [] else []) with
    | r :: rest => (d.onTileLink fun t => { t with replies := modifyNth t.replies toward fun _ => rest }).putParcel n r
    | [] =>
      let lid := (d.portLoopId n).getD 0
      d.putParcel n (parcelWords ⟨ptOpen, false, 0, 0, d.parcelFrame, lid % 16, lid / 16, 0⟩ [])

/-- A sender in the safe state sends no CTRL (R438).
DEDUCED (unsafe): log 65. -/
def Dev.ctrlAllowed (d : Dev) : Bool := d.isTile || !d.safeNow

/-- The next parcel of the stream of a frame leaves a port.
DEDUCED (unsafe): log 65. -/
def Dev.sendStream (d : Dev) (n : Nat) (ws : List Word) (rest : List (List Word)) : Dev :=
  let px := Word.field (nth ws 0 0) 0 4 == ptPixel
  (d.onPort n fun p => { p with stream := rest, pixSent := if px then p.pixSent + 1 else p.pixSent }).putParcel n ws

/-- The port sends at all: an end's own, or a tile's whose other receiver is down, which sources the stream (R272). -/
def Dev.sources (d : Dev) (n : Nat) : Bool :=
  decide (lsCol ≤ d.portState n) && (!d.isTile || (decide (n < 2) && decide (d.portState (1 - n) < lsCol)))

/-- A wall-time commit that is decided and that tiles of a port's loop have yet to acknowledge (R89). -/
def Dev.applyOwed (d : Dev) (n : Nat) : Option Commit :=
  if !d.hasToken then none
  else match d.portLoop n with
    | some (k, _) => d.commits.find? fun c => c.stage == .decided && c.await.any fun t => t.1 == k
    | none => none

/-- A service slot with no CTRL parcel waiting carries the APPLY again that a tile has yet to acknowledge (R89).
DEDUCED (unsafe): log 128. -/
def Dev.repeatApply (d : Dev) (n : Nat) : Dev :=
  if (d.port n).ctrl.isEmpty then
    match d.applyOwed n with
    | some c => d.txnItem c 1
    | none => d
  else d

/-- PARCEL_POSITION_TX (R271): position j of a port. -/
def Dev.position (d : Dev) (n : Nat) : Dev :=
  let p := d.port n
  let j := p.sent
  let d := d.onPort n fun p => { p with sent := p.sent + 1 }
  let lid := (d.portLoopId n).getD 0
  if j % 1024 = 1023 then d.putParcel n (parcelWords ⟨ptOpen, false, 0, 0xFFFFFF, d.parcelFrame, lid % 16, lid / 16, 0⟩ [])
  else if j % 32 = 31 then
    match (if p.pixSent = p.pixAll then p.tags else []) with
    | t :: ts => (d.onPort n fun p => { p with tags := ts }).putParcel n t
    | [] =>
      let d := d.repeatApply n
      if d.timeDue n then d.sendTime n
      else match (if d.ctrlAllowed then (d.port n).ctrl else []) with
        | c :: cs => (d.onPort n fun p => { p with ctrl := cs }).putParcel n c
        | [] => d.sendOpen n
  else match (if d.ctrlAllowed && lsOne ≤ d.portState n then p.stream else []) with
    | w :: ws => d.sendStream n w ws
    | [] => d.sendOpen n

/-- PARCEL_POSITION_TX. -/
def execParcelPositionTx (port : Fin 8) (s : State) : Host.Outcome State Fault Refusal :=
  s.onDev fun d => if d.linkRuns && d.portActive port.val && d.sources port.val then d.position port.val else d

/-! ### Training and locks (R275, R278 to R280) -/

/-- A port trains to a mode.
DEDUCED (unsafe): log 66. -/
def Dev.train (d : Dev) (n mode : Nat) : Dev :=
  ((d.onPort n fun p => { p with target := mode, rxRetired := 0, txRetired := 0, relocks := [0, 0, 0, 0], slow := false }).setPortState n 1).emit (.train n mode)

/-- The loop is found open (R279): CUT once for each opening; CUT_AFTER is the last position reached from end A.
DEDUCED (unsafe): log 107. -/
def Dev.loopCut (d : Dev) (k after : Nat) : Dev :=
  let old := d.get (F.LINK_LOOP_STAT_CUT_AFTER k)
  let pos := if (d.loopSt k).cut && old != 0x7F && old < after then old else after
  let was := (d.loopSt k).cut
  let d := (d.onLoop k fun l => { l with cut := true }).setAll
    [(F.LINK_LOOP_STAT_CLOSED k, 0), (F.LINK_LOOP_STAT_CUT k, 1), (F.LINK_LOOP_STAT_CUT_AFTER k, pos % 128)]
  if was then d else d.eventLink (R.LINK_LOOP_STAT k) 0x04 k 0 .warning

/-- A sender's own end has gone down: the loop runs open, or is DOWN once neither end reaches a tile (R275, R279). -/
def Dev.endLost (d : Dev) (k e : Nat) : Dev :=
  if d.loopState k < lsCol then
    (if (d.loopEnds k).all fun x => decide (d.portState x.2 < lsTrain) then (d.setLoopState k lsDown).onLoop k fun l => { l with enum := none } else d)
  else
    let m := d.get (F.LINK_LOOP_STAT_TILES k)
    let d := d.loopCut k (if e = 0 then 0x7F else m + 127)
    if (d.loopEnds k).all fun x => decide (d.portState x.2 < lsTrain) then d.setLoopState k lsDown else d

/-- The pair link is lost (R310). -/
def Dev.pairLost (d : Dev) : Dev :=
  if !d.bit F.CTRL_PAIR_STAT_PAIR_UP then d
  else
    let d := d.setAll [(F.CTRL_PAIR_STAT_PAIR_UP, 0), (F.CTRL_PAIR_STAT_PAIR_DOWN, 1)]
    d.eventToken (d.reg R.KEEP_UID_LO, d.reg R.KEEP_UID_HI) 0x04 .warning

/-- A port goes down (R279, R280): what waits for it is lost, the units that used it follow. -/
def Dev.linkDown (d : Dev) (n : Nat) : Dev :=
  if d.portState n = lsDown then d
  else
    let d := d.onPort n fun p =>
      { p with stream := [], tags := [], ctrl := [], frame := none, pixAll := p.pixSent, lastRx := none, rxRetired := 0, txRetired := 0
               relocks := [0, 0, 0, 0] }
    let d := d.onLink fun l => { l with partials := l.partials.filter fun p => p.port != n }
    let d := ((d.setPortState n lsDown).raiseFlag (F.LINK_OVL_STAT_LOCK_LOST n)).eventLink (R.LINK_OVL_STAT n) 0x01 n 0 .warning
    if d.isTile then (((d.sideDown (d.tileEnd n)).refreshDirs).refreshWhyLink).cutLoads
    else match d.portLoop n with
      | some (k, e) =>
        -- a loop without a port in service has its frame composed no further (R186)
        let d := d.endLost k e
        if (d.loopEnds k).any fun x => decide (lsOne ≤ d.portState x.2) then d else d.stopPipe k none
      | none => if d.isTwin && n == d.pairPort then (if d.isStandby then d.pairLost.sideDown 0 else d.pairLost) else d

/-- LINK_LOCK_LOST (R279). -/
def execLinkLockLost (port : Fin 8) (s : State) : Host.Outcome State Fault Refusal :=
  s.onDev fun d => if d.linkRuns then d.linkDown port.val else d

/-- LINK_SIGNAL_DETECT (R279): a port that is down sees signal and trains in COL. -/
def execLinkSignalDetect (port : Fin 8) (s : State) : Host.Outcome State Fault Refusal :=
  s.onDev fun d =>
    if d.linkRuns && d.portActive port.val && d.clocked (guOvl + port.val) && d.portState port.val == lsDown then d.train port.val lsCol else d

/-- The receiver retires a lane (R280); a second one in the direction, or lane 0 of a mode that has no other, takes the link down.
DEDUCED (unsafe): log 66. -/
def Dev.retireLane (d : Dev) (n lane : Nat) : Dev :=
  let p := d.port n
  if p.rxRetired.testBit lane || 4 ≤ lane then d
  else if d.portState n != lsFull then (if lane = 0 && lsCol ≤ d.portState n then d.linkDown n else d)
  else if p.rxRetired != 0 then d.linkDown n
  else
    let d := d.onPort n fun p => { p with rxRetired := Sys2Proof.setBit p.rxRetired lane true }
    let d := (d.set (F.LINK_OVL_STAT_RX_LANES n) 3).raiseFlag (F.LINK_OVL_STAT_LANE_RETIRED n)
    let d := ((d.refreshLanes n true).eventCapacity 3 (4 * n + lane) .warning).judgeBudget false
    d.eventLink (R.LINK_OVL_STAT n) 0x03 n lane .warning

/-- LANE_BLOCK_LOCK_LOST (R280): the receiver asks for training again three times; the fourth failure retires the lane.
DEDUCED (unsafe): log 66. -/
def execLaneBlockLockLost (port : Fin 8) (lane : Fin 4) (s : State) : Host.Outcome State Fault Refusal :=
  s.onDev fun d =>
    let n := port.val
    if !d.linkRuns || d.portState n < lsCol || (d.port n).rxRetired.testBit lane.val then d
    else
      -- each attempt ends within 1 ms: a loss that comes later begins a new run of attempts
      let run := if d.now ≤ nth (d.port n).relockAt lane.val 0 + msPs then nth (d.port n).relocks lane.val 0 else 0
      if run < 3 then
        (d.onPort n fun p => { p with
          relocks := modifyNth p.relocks lane.val fun _ => run + 1, relockAt := modifyNth p.relockAt lane.val fun _ => d.now }).bump
            (F.LINK_OVL_CNT_RELOCKS n)
      else d.retireLane n lane.val

/-- LANE_ERROR_WINDOW (R280): BIP-8 errors of the four lanes in one second. -/
def execLaneErrorWindow (port : Fin 8) (errs : List Nat) (s : State) : Host.Outcome State Fault Refusal :=
  s.onDev fun d =>
    if !d.linkRuns || d.portState port.val < lsCol then d
    else (List.range 4).foldl (fun d l =>
      if d.get F.LINK_CFG_LANE_ERR_MAX < nth errs l 0 then d.retireLane port.val l else d) d

/-- The partner asks to retire lanes of the reverse direction (R280). -/
def Dev.partnerRetires (d : Dev) (n mask : Nat) : Dev :=
  let p := d.port n
  if mask % 16 == p.txRetired || d.portState n != lsFull then d
  else if 1 < popCount 4 mask then d.linkDown n
  else
    let d := (d.onPort n fun p => { p with txRetired := mask % 16, words := 0 }).set (F.LINK_OVL_STAT_TX_LANES n) (4 - popCount 4 mask)
    if mask % 16 = 0 then d.refreshLanes n false
    else
      let lane := (List.range 4).find? mask.testBit
      let was := d.reg R.KEEP_INSVC
      let d := (d.raiseFlag (F.LINK_OVL_STAT_LANE_RETIRED n)).refreshLanes n true
      if d.reg R.KEEP_INSVC == was then d else d.eventCapacity 3 (4 * n + lane.getD 0) .warning

/-- The partner is none that belongs here (R291, R292, MISWIRED): another LOOPID, a sender where a tile is expected, on the pair link
a tile or a port that is no pair-link port
of the same variant; the LINK parcel names a port by one bit.
DEDUCED (unsafe): log 64. -/
def Dev.miswired (d : Dev) (n pport : Nat) (tile : Bool) (lid : Option Nat) : Bool :=
  if d.isTile then
    match d.portLoopId n, lid with
    | some a, some b => a != b
    | _, _ => false
  else if d.isTwin && n == d.pairPort then tile || pport % 2 != d.pairPort % 2 || (decide (2 ≤ pport) && pport != d.pairPort) || lid.any fun l => l % 16 != d.senderNo
  else !tile || match d.portLoopId n, lid with
    | some a, some b => a != b
    | _, _ => false

/-- A mode as the ports number it, from a LINK or RATE item's. -/
def modeOf (m : Nat) : Nat := 2 + min m 2

/-- The mode this side offers its partner on a port. -/
def Dev.offers (d : Dev) (n : Nat) : Nat :=
  if d.isTile then d.portState (1 - n)
  else match d.portLoop n with
    | some (k, _) => (d.loopSt k).mode
    | none => if d.isTwin && n == d.pairPort then lsFull else lsCol

/-- The partner's receiver has lock (R275), by the lanes it reports: lane 0, and in FULL three lanes.
DEDUCED (unsafe): log 64. -/
def Dev.partnerLocks (d : Dev) (n lock : Nat) : Bool :=
  if d.portState n = lsFull then decide (3 ≤ popCount 4 lock) else lock.testBit 0

/-- LINK_PARCEL_RX (R270): the partner's UID, its lock, what it is, the LOOPID it knows, the mode it offers, the lanes it asks to
retire. A port whose partner has no lock is down (R275); a port in COL trains on to the loop's mode (R279).
DEDUCED (unsafe): log 64. -/
def execLinkParcelRx (port : Fin 8) (uidLo uidHi : Word) (lock lanes : Nat) (tile : Bool) (pport : Nat) (lid : Option Nat)
    (mode retire : Nat) (s : State) : Host.Outcome State Fault Refusal :=
  let _ := lanes
  s.onDev fun d =>
    let n := port.val
    if !d.linkRuns || !d.portActive n || d.portState n < lsCol then d
    else
      let d := (d.onPort n fun p => { p with
        lastRx := some d.now, peerHi := uidHi, peerTile := tile, peerPort := pport, peerLock := lock, peerLoop := lid, peerMode := modeOf mode }).set
        (F.LINK_OVL_PEER_PEER_UID n) uidLo.toNat
      let bad := d.miswired n pport tile lid
      let d := if bad then
          let d' := if d.bit (F.LINK_OVL_STAT_MISWIRED n) then d else d.eventLink (R.LINK_OVL_STAT n) 0x0A n 0 .fault
          d'.raiseFlag (F.LINK_OVL_STAT_MISWIRED n)
        else d
      if (bad && d.isTwin && n == d.pairPort) || !d.partnerLocks n lock then d.linkDown n
      else
        let d := d.partnerRetires n retire
        let goal := max (modeOf mode) (d.offers n)
        let d := if d.isTile then d.refreshDirs else d
        if d.portState n = lsCol && lsCol < goal && d.awake then d.train n goal else d

end Sys2Proof.Machine
end

