-- ==== Sys2Proof/Machine/Loop.lean ====
section
/-!
DEFINITION. The loop as a sender runs it and a tile lives in it (R276 to R290): bring-up, enumeration, judgement of the tiles,
changes of mode, table pushes, loop keys, TILE_STATUS.
-/
namespace Sys2Proof.Machine

open Sys2Proof

/-! ### Modes (R278, R282) -/

/-- Sends RATE on a loop and trains its ports to the mode (R282). A standby sends the holder's RATE as a copy and trains with it. -/
def Dev.retrainLoop (d : Dev) (k mode : Nat) : Dev :=
  let d := if d.hasToken then d.loopItem k 0x06 [Word.of (mode - 2)] else d
  let d := d.onLoop k fun l => { l with mode := mode }
  (d.loopEnds k).foldl (fun d e => if d.portState e.2 < lsCol then d else (d.flushCtrl e.2).train e.2 mode) d

/-- RATE_ITEM_RX at a tile: both its links train to the mode. -/
def execRateItemRx (end_ : Fin 2) (mode : Nat) (s : State) : Host.Outcome State Fault Refusal :=
  s.onDev fun d => d.fromEnd end_ fun d =>
    [0, 1].foldl (fun d n => if d.portState n < lsCol then d else d.train n (modeOf mode)) d

/-! ### The mark of a tile that is not to run (R16, R277) -/

/-- Changes what a sender knows of a tile. -/
def Dev.onTileRec (d : Dev) (k pos : Nat) (f : TileRec → TileRec) : Dev :=
  d.onLoop k fun l => { l with tiles := l.tiles.map fun t => if t.pos == pos then f t else t }

def Dev.tileRec (d : Dev) (k pos : Nat) : Option TileRec := (d.loopSt k).tiles.find? fun t => t.pos == pos

/-- Sets or clears the mark of a tile, at the tile too.
DEDUCED (unsafe): log 60. -/
def Dev.mark (d : Dev) (k pos : Nat) (stale : Bool) : Dev :=
  let d := d.onTileRec k pos fun t => { t with stale := stale, full := t.full && !stale }
  if d.hasToken then d.loopItem k itMark [Word.pack [(0, 7, pos), (8, 1, stale.toNat)]] else d

/-- The sender's record of a position.
DEDUCED (unsafe): log 67. -/
def Dev.dbPos (d : Dev) (k pos : Nat) : Option DbPos := d.link.db.find? fun p => p.loop == k && p.pos == pos

/-- Changes the record of a position, in flash too.
DEDUCED (unsafe): log 67. -/
def Dev.setRecord (d : Dev) (k pos : Nat) (uidLo uidHi : Word) (epoch : Nat) : Dev :=
  let old := (d.dbPos k pos).getD ⟨k, pos, 0, 0, 0, []⟩
  let new : DbPos := { old with uidLo := uidLo, uidHi := uidHi, epoch := epoch }
  let d := d.onLink fun l => { l with db := new :: l.db.filter fun p => !(p.loop == k && p.pos == pos) }
  { d with flash := { d.flash with
      records := (k, pos, uidLo, uidHi, epoch) :: d.flash.records.filter fun r => !(r.1 == k && r.2.1 == pos) } }

/-! ### Table pushes (R277, R367 to R369, R521) -/

/-- Classes of a mask, as numbers. -/
def maskClasses (mask : Nat) : List Nat := (List.range 7).filter fun c => decide (1 ≤ c) && mask.testBit c

/-- The classes of a mask that a position's record holds.
DEDUCED (unsafe): log 67. -/
def Dev.recordHolds (d : Dev) (k pos mask : Nat) : Bool :=
  match d.dbPos k pos with
  | some p => (maskClasses mask).all fun c => p.classes.any fun x => x.1 == c
  | none => false

/-- The next epoch of a position's push (R369, R15).
DEDUCED (unsafe): log 67. -/
def Dev.pushEpoch (d : Dev) (k pos : Nat) : Nat := nextEpoch (((d.dbPos k pos).map (·.epoch)).getD 0)

/-- Word 0 of a TABLE item. -/
def tableHead (cls pos off count op : Nat) : Word := Word.pack [(0, 8, cls), (8, 7, pos), (16, 32, off), (48, 8, count), (56, 8, op)]

/-- The TABLE items of one class: DATA of up to 28 words, and END. -/
def Dev.pushClass (d : Dev) (k pos cls : Nat) (ws : List Word) : Dev :=
  let parts := chunksOf 28 (ws.length / 28 + 1) ws
  let d := (List.range parts.length).foldl (fun d i =>
    let p := nth parts i []
    d.loopItem k 0x09 (tableHead cls pos (28 * i) p.length 0 :: p)) d
  d.loopItem k 0x09 [tableHead cls pos 0 0 1, Word.pack [(0, 32, (checkWord 0 ws).toNat), (32, 32, ws.length)]]

/-- All items of a push to one position, COMMIT last. -/
def Dev.pushItems (d : Dev) (k pos mask : Nat) : Dev :=
  let cs := ((d.dbPos k pos).map (·.classes)).getD []
  let d := (maskClasses mask).foldl (fun d c => d.pushClass k pos c (classWords cs c)) d
  d.loopItem k 0x09 [tableHead 0 pos 0 0 2, Word.pack [(0, 32, d.pushEpoch k pos), (32, 7, mask)]]

/-- A push is under way to a position. -/
def Dev.pushing (d : Dev) (k pos : Nat) : Bool :=
  d.host.relays.any fun r => r.opcode == Op.tablePush.code && r.waiting.contains (k, pos)

/-- The sender's own pushes have no originator to answer. -/
abbrev noOrig : Nat := 16

/-- The push of R277 to one position: every class its record holds. -/
def Dev.pushOwn (d : Dev) (k pos : Nat) : Dev :=
  let mask := (((d.dbPos k pos).map (·.classes)).getD []).foldl (fun m c => m ||| 2 ^ c.1) 0
  if !d.hasToken || mask = 0 || d.pushing k pos then d
  else
    let r : Relay := { orig := noOrig, opcode := Op.tablePush.code, seq := 0, txn := 0, cookie := 0, check := 0, quiet := true, loop := k
                       bcast := false, ident := d.host.relayIds, waiting := [(k, pos)], addressed := 1, okCnt := 0, badCnt := 0, own := false
                       payload := [Word.of mask] }
    (d.pushItems k pos mask).onHost fun h => { h with relayIds := h.relayIds + 1, relays := h.relays ++ [r] }

/-- FULL is committed on a tile by its sender in full service (R119, R518). -/
def Dev.commitFull (d : Dev) (k pos : Nat) : Dev :=
  (d.sendTileCommand (k, pos) .writeReg 0 0 [Word.of R.KEEP_SVC_CTRL, 1]).onTileRec k pos fun t => { t with full := true }

/-- Why a TABLE_PUSH is refused. A class whose record came poisoned is not to be had (R135). -/
def Dev.pushRefusal (d : Dev) (t : Target) (mask : Word) : Option (Status × Nat) :=
  if d.isTile then some (.role, 0)
  else if t.scope = 0 then some (.target, 0)
  else if mask = 0 || mask &&& ~~~(0x7E : Word) != 0 then some (.range, 0)
  else if !d.hasToken then some (.token, 0)
  else if (d.targetLoops t).any fun k => !d.loopRuns k then some (.link, 0)
  else if !d.img.caldbLoaded then some (.state, 0)
  else if (d.targetTiles t).any (fun x => !d.recordHolds x.1 x.2 mask.toNat) || d.poisonOf 17 then some (.invalid, 0x0453)
  else if (d.targetTiles t).any fun x => d.pushing x.1 x.2 then some (.busy, 0)
  else none

/-- TABLE_PUSH (R369): the transfers of a loop follow one another in position order; the replies are those of a relay. -/
def bodyTablePush (s : State) (q : QCmd) : State × Answer :=
  let d := s.dev
  let t := Target.ofNat q.target
  let mask := nth q.payload 0 0
  match d.pushRefusal t mask with
  | some e => (if e = (.invalid, 0x0453) then { s with dev := d.clearPoison 17 } else s, .now e.1 e.2 [])
  | none =>
    let tiles := d.targetTiles t
    let ident := d.host.relayIds
    let rec_ (k : Nat) : Relay :=
      { orig := q.orig, opcode := q.opcode, seq := q.seq, txn := q.txn, cookie := q.cookie, check := q.check, quiet := q.quiet
        loop := k, bcast := t.scope != 1, ident := ident, waiting := tiles.filter fun x => x.1 == k
        addressed := (tiles.filter fun x => x.1 == k).length, okCnt := 0, badCnt := 0, own := false, payload := q.payload }
    let d := tiles.foldl (fun d x => d.pushItems x.1 x.2 mask.toNat) d
    let d := d.onHost fun h => { h with relayIds := ident + 1, relays := h.relays ++ (d.targetLoops t).map rec_ }
    -- a push to no tile at all is summed up at once
    if tiles.isEmpty then
      ({ s with dev := d.dropRelay ident }, .ok [0])
    else ({ s with dev := d }, .later)

/-- TABLE_PUSH as a command. -/
def execTablePush (h : Hdr) (mask : Word) (s : State) := runRow h .tablePush [mask] bodyTablePush s

/-! ### Loop keys (R283, R285, R298) -/

/-- A KEY item: position, phase and selector, then the words of the phase. Its layout is the model's.
DEDUCED (unsafe): log 68. -/
def keyHead (pos phase sel : Nat) : Word := Word.pack [(0, 7, pos), (8, 2, phase), (16, 2, sel)]

/-- The exchange goes on with the next tile not keyed, in position order.
DEDUCED (unsafe): log 68. -/
def Dev.keyNext (d : Dev) (k : Nat) : Dev :=
  let after := match (d.loopSt k).keying with
    | some p => p + 1
    | none => 0
  let poss := ((List.range 128).filter fun p => decide (after ≤ p)).filter fun p =>
    match d.tileRec k p with
    | some t => !t.keyed && !t.left
    | none => false
  match poss with
  | p :: _ => (d.onLoop k fun l => { l with keying := some p }).loopItem k 0x07 [keyHead p 0 0]
  | [] => d.onLoop k fun l => { l with keying := none }

/-- The key of a loop goes to the standby, wrapped under Kpair (R298). -/
def Dev.sendPairKey (d : Dev) (k sel : Nat) (key : List Word) : Dev :=
  if d.pairUp && !d.twin.kpair.isEmpty && !key.isEmpty then
    d.pairItem 0x27 (Word.pack [(0, 2, sel), (8, 2, k)] :: keyWrap d.twin.kpair key)
  else d

/-- A new key in the free selector, for every tile of the loop (R285); the standby gets it first (R298). -/
def Dev.newLoopKey (d : Dev) (k : Nat) : Dev :=
  let l := d.loopSt k
  let sel := (l.selector + 1) % 4
  let key := (List.range 4).map (Config.newKey d.free)
  let d := d.draw
  (d.onLoop k fun l => { l with nextKey := some (sel, key), keying := none, tiles := l.tiles.map fun t => { t with keyed := false } }).sendPairKey
    k sel key

/-- Keys are exchanged on a loop with KEYS = 1: with a new key, or the one in force to tiles that joined. -/
def Dev.startKeys (d : Dev) (k : Nat) (fresh : Bool) : Dev :=
  if !d.hasToken || !d.bit (F.LINK_LOOP_CFG_KEYS k) || d.safeNow then d
  else
    let d := if fresh || (d.loopSt k).key.isEmpty then d.newLoopKey k else d
    (d.onLoop k fun l => { l with keying := none }).keyNext k

/-- The key and selector a tile is given. -/
def LoopState.giving (l : LoopState) : Nat × List Word := l.nextKey.getD (l.selector, l.key)

/-- The standby has answered the exchange of the pair (R298): the holder sends its own report, then every loop's keys. -/
def State.pairKeyed (s : State) (ok : Bool) (peer : List Word) : State :=
  if !ok || !s.dev.pairUp || s.dev.pairState != psHolder || !s.dev.pairReportFits peer then s
  else match s.keyReport with
    | none => s
    | some (s, rep) =>
      let kp := exchangeKey s.dev.link.tile.secret (reportKey peer) s.dev.uid (reportUid peer) tagPair
      let d := (s.dev.onTwin fun t => { t with kpair := kp, partnerFw := (reportFw peer).getD 0 }).pairItem 0x07 (keyHead 0x7F 1 0 :: rep)
      { s with dev := (List.range d.loops).foldl (fun d k =>
          let l := d.loopSt k
          let d := d.sendPairKey k l.selector l.key
          match l.nextKey with
          | some (sel, key) => d.sendPairKey k sel key
          | none => d) d }

/-- A standby's part of the exchange of the pair (R298): phase 0 asks for its report, phase 1 brings the holder's. -/
def State.pairKeyItem (s : State) (phase : Nat) (ok : Bool) (peer : List Word) : State :=
  if phase = 0 then
    match s.keyReport with
    | some (s, rep) => { s with dev := s.dev.pairItem 0x12 (keyHead 0x7F 0 0 :: rep) }
    | none => s
  else if phase = 1 && ok && s.dev.pairReportFits peer then
    let kp := exchangeKey s.dev.link.tile.secret (reportKey peer) (reportUid peer) s.dev.uid tagPair
    { s with dev := s.dev.onTwin fun t => { t with kpair := kp, partnerFw := (reportFw peer).getD 0 } }
  else s

/-- KEY_RESP_RX (R283): `peer` is the tile's report, `ok` the outcome of its signature and certificate checks.
DEDUCED (unsafe): log 68. -/
def execKeyRespRx (loop pos : Nat) (ok : Bool) (peer : List Word) (s : State) : Host.Outcome State Fault Refusal :=
  let d := s.dev
  if pos = 0x7F then .next (s.pairKeyed ok peer)
  else if !d.isSender || !d.hasToken || (d.loopSt loop).keying != some pos then .next s
  else
    let fail (s : State) : State := { s with dev := (s.dev.eventTileAt loop pos 0x08 .fault).keyNext loop }
    if !ok || !d.tileReportFits loop pos peer then .next (fail s)
    else match s.keyReport with
      | none => .next (fail s)
      | some (s, rep) =>
        let kp := exchangeKey s.dev.link.tile.secret (reportKey peer) s.dev.uid (reportUid peer) tagOvl
        let g := (s.dev.loopSt loop).giving
        let d := s.dev.loopItem loop 0x07 (keyHead pos 1 g.1 :: rep)
        let d := d.loopItem loop 0x07 (keyHead pos 2 g.1 :: keyWrap kp g.2)
        .next { s with dev := (d.onTileRec loop pos fun t => { t with keyed := true }).keyNext loop }

/-- KEY_ITEM_RX (R283): phase 0 asks for the report, phase 1 brings the sender's, phase 2 the wrapped key, as `words`. `ok` is the outcome
of the report's signature and certificate checks; in phase 2, whether the item came whole.
DEDUCED (unsafe): log 68. -/
def execKeyItemRx (end_ : Fin 2) (pos phase selector : Nat) (ok : Bool) (words : List Word) (s : State) :
    Host.Outcome State Fault Refusal :=
  let d := s.dev
  if d.isStandby && pos = 0x7F then .next (s.pairKeyItem phase ok words)
  else if !d.isTile || d.boot != .up || !d.endAccepted end_ || !d.atPosition pos then .next { s with dev := d.fromEnd end_ id }
  else if phase = 0 then
    match s.keyReport with
    | some (s, rep) => .next { s with dev := s.dev.queueReply 0x12 (keyHead pos 0 0 :: rep) }
    | none => .next { s with dev := d.eventTile R.LINK_TILE_STAT 0x08 0 0 .fault }
  else if phase = 1 then
    if ok && d.senderReportFits words then
      let d := d.bootKey.1
      .next { s with dev := d.onTileLink fun t => { t with kp := exchangeKey t.secret (reportKey words) (reportUid words) d.uid tagOvl } }
    else .next { s with dev := (d.onTileLink fun t => { t with kp := [] }).eventTile R.LINK_TILE_STAT 0x08 0 0 .fault }
  else match (if ok && !d.link.tile.kp.isEmpty then keyUnwrap d.link.tile.kp words else none) with
  | some key =>
    .next { s with dev := (d.onTileLink fun t => { t with keys := modifyNth t.keys (selector % 4) fun _ => key }).set F.LINK_TILE_STAT_KEYED 1 }
  | none => .next { s with dev := d.eventTile R.LINK_TILE_STAT 0x08 0 0 .fault }

/-! ### Enumeration (R276, R277, R471, R520) -/

/-- ENUM leaves from both ends, each naming its own (R276); a standby's end gets it as a copy. -/
def Dev.sendEnum (d : Dev) (k : Nat) : Dev :=
  let body (b : Nat) : List Word := [Word.pack [(8, 1, b)], Word.of (loopId k d.senderNo), Word.of (d.layoutCount k)]
  let idx := (d.loopSt k).ctrlIndex
  let msg := d.link.nextMsg
  let ws (b : Nat) : List Word := parcelWords ⟨ptCtrl, false, 0, idx, d.parcelFrame, d.senderNo, k, 0⟩ ((itemPayloads 0x05 msg (body b)).headD [])
  let d := d.onLink fun l => { l with nextMsg := (msg + 1) % 2 ^ 32 }
  let d := d.onLoop k fun l => { l with ctrlIndex := nextCtrlIndex idx 1 }
  let own := d.loopEnds k
  let d := own.foldl (fun d e => d.queueCtrl e.2 (ws e.1)) d
  [0, 1].foldl (fun d e => if own.any (fun x => x.1 == e) || !d.pairUp then d else d.pairItem 0x25 (ws e)) d

/-- An enumeration starts. -/
def Dev.startEnum (d : Dev) (k : Nat) (cmd : Option QCmd) : Dev :=
  let d := if d.loopState k < lsCol then d.setLoopState k lsEnum else d
  (d.onLoop k fun l => { l with enum := some ⟨[], cmd, d.now⟩ }).sendEnum k

/-- The reply to LOOP_ENUM. -/
def Dev.enumReply (d : Dev) (k : Nat) (answers : List Nat) : List Word :=
  let w0 := Word.pack [(0, 8, answers.length), (8, 1, d.get (F.LINK_LOOP_STAT_CLOSED k)), (9, 8, d.layoutCount k),
    (17, 1, d.get (F.LINK_LOOP_STAT_LAYOUT_BAD k))]
  let top := max (d.layoutCount k) ((answers.filter (· < 0x7F)).foldl (fun m p => max m (p + 1)) 0)
  w0 :: (List.range top).flatMap fun p =>
    let rec_ := if d.img.caldbLoaded then ((d.dbPos k p).map (·.epoch)).getD 0 else 0
    match (if answers.contains p then d.tileRec k p else none) with
    | some t => [t.uidLo, t.uidHi, Word.pack [(0, 32, t.epoch), (32, 32, rec_)], t.status]
    | none => [0, 0, Word.pack [(32, 32, rec_)], 0]

/-- The sender judges one position against its record (R277, R471).
DEDUCED (unsafe): log 67. -/
def Dev.judge (d : Dev) (k pos : Nat) : Dev :=
  match d.tileRec k pos with
  | none => d
  | some t =>
    let r := (d.dbPos k pos).getD ⟨k, pos, 0, 0, 0, []⟩
    let fw := d.img.fwHeader
    if !compatible (nth fw 1 0) (nth fw 4 0) t.fwVer t.fwWin then
      ((d.raiseFlag F.CTRL_BOOT_STAT_INCOMPAT).eventImage 0x08 icFw ((d.cls icFw).active.getD 0) 0 0 .fault).mark k pos true
    else if d.bit (F.LINK_LOOP_STAT_LAYOUT_BAD k) then d.mark k pos true
    else if t.uidLo == r.uidLo && t.uidHi == r.uidHi then
      if t.epoch == r.epoch && t.epoch != 0 then
        let d := d.eventTileAt k pos 0x01 .info
        if t.stale then d.mark k pos false else d
      else ((d.eventTileAt k pos 0x03 .warning).mark k pos true).pushOwn k pos
    else
      ((((d.eventTileAt k pos 0x04 .warning).setRecord k pos t.uidLo t.uidHi r.epoch).mark k pos true)).pushOwn k pos

/-- A tile of another UID than the record's has joined: it gets a new loop key (R285). -/
def Dev.replaced (d : Dev) (k pos : Nat) : Bool :=
  match d.tileRec k pos, d.dbPos k pos with
  | some t, some r => !(t.uidLo == r.uidLo && t.uidHi == r.uidHi)
  | some _, none => true
  | none, _ => false

/-- Judges every position that answered, once the calibration database is loaded; until then each is held (R520). -/
def Dev.judgeLoop (d : Dev) (k : Nat) (answers : List Nat) : Dev :=
  let ps := answers.filter (· < 0x7F)
  if d.img.caldbLoaded then ps.foldl (fun d p => d.judge k p) d else ps.foldl (fun d p => d.mark k p true) d

/-- A tile falls silent (R289). -/
def Dev.tileLeft (d : Dev) (k pos : Nat) : Dev :=
  if ((d.tileRec k pos).map (·.left)).getD true then d
  else (d.onTileRec k pos fun t => { t with left := true }).eventTileAt k pos 0x02 .warning

/-- The neighbours of a sender's ends are remembered (R279). -/
def Dev.rememberEnds (d : Dev) (k : Nat) : Dev :=
  (d.loopEnds k).foldl (fun d e => d.onPort e.2 fun p => { p with known := some (d.reg (R.LINK_OVL_PEER e.2), p.peerHi) }) d

/-- An enumeration ends (R276 to R278): silent tiles have left, the layout is compared, the tiles are judged, the host's command is
answered, and a loop in bring-up goes on to its mode. -/
def Dev.enumDone (d : Dev) (k : Nat) : Dev :=
  match (d.loopSt k).enum with
  | none => d
  | some run =>
    let m := run.answers.length
    let bad := m != d.layoutCount k
    let was := d.bit (F.LINK_LOOP_STAT_LAYOUT_BAD k)
    let d := (d.onLoop k fun l => { l with enum := none }).rememberEnds k
    let d := d.setAll [(F.LINK_LOOP_STAT_TILES k, m), (F.LINK_LOOP_STAT_LAYOUT_BAD k, bad.toNat)]
    let d := if bad && !was then d.eventTileAt k 0x7F 0x05 .fault else d
    let d := ((d.positions k).filter fun p => !run.answers.contains p).foldl (fun d p => d.tileLeft k p) d
    let fresh := run.answers.any fun p => d.replaced k p
    let d := d.judgeLoop k run.answers
    let d : Dev := match run.cmd with
      | some q => d.reply q .ok 0 (d.enumReply k run.answers)
      | none => d
    if d.loopState k = lsEnum then
      let mode := 2 + d.get (F.LINK_LOOP_CFG_RATE k)
      if mode = lsCol then (d.setLoopState k lsCol).startKeys k true else d.retrainLoop k mode
    else d.startKeys k (fresh && d.img.caldbLoaded)

/-- ENUM_RESP_RX (R276, R277): a tile's answer, and its firmware version and SENDER window as the sender reads them (R471). -/
def execEnumRespRx (loop pos : Nat) (uidLo uidHi : Word) (epoch : Nat) (status fwVer fwWin : Word) (s : State) :
    Host.Outcome State Fault Refusal :=
  s.onDev fun d =>
    if !d.isSender || d.loops ≤ loop then d
    else
      let old := d.tileRec loop pos
      let same := old.any fun t => t.uidLo == uidLo && t.uidHi == uidHi
      let t : TileRec := { pos := pos, uidLo := uidLo, uidHi := uidHi, epoch := epoch, status := status
                           stale := (old.map (·.stale)).getD false, keyed := same && status.getLsbD 35, left := false
                           thermal := (old.map (·.thermal)).getD 0, fwVer := fwVer, fwWin := fwWin
                           full := same && (old.map (·.full)).getD false, reversed := (old.map (·.reversed)).getD false }
      let d := if pos = 0x7F then d else d.onLoop loop fun l =>
        { l with tiles := (l.tiles.filter fun x => decide (x.pos < pos)) ++ [t] ++ l.tiles.filter fun x => decide (pos < x.pos) }
      match (d.loopSt loop).enum with
      | none => d
      | some run =>
        -- a tile that first gave a position and then finds its two disagree counts once
        let others := if pos = 0x7F then
            run.answers.filter fun p => !(d.tileRec loop p).any fun t => t.uidLo == uidLo && t.uidHi == uidHi
          else run.answers
        let answers := if pos != 0x7F && others.contains pos then others else others ++ [pos]
        let d := d.onLoop loop fun l => { l with enum := some { run with answers := answers } }
        if d.layoutCount loop ≤ answers.length then d.enumDone loop else d

/-- ENUM_TIMEOUT (R276): 20 ms, or 200 ms at col rate, have passed. -/
def execEnumTimeout (loop : Nat) (s : State) : Host.Outcome State Fault Refusal := s.onDev fun d => d.enumDone loop

/-- TILE_STATUS word 0 (R287). -/
def Dev.tileStatus0 (d : Dev) : Word :=
  let lanes (n : Nat) : Nat := d.get ⟨R.KEEP_INSVC, 32 + 3 * n, 3⟩
  Word.pack [(0, 32, d.responder), (32, 2, d.service), (34, 1, d.get F.KEEP_SVC_STAT_WHY_STALE),
    (35, 1, d.get F.LINK_TILE_STAT_KEYED), (36, 3, lanes 0), (39, 3, lanes 1)]

/-- ENUM_ITEM_RX (R276): the port it comes on, HOPS as received, FROM_B, LOOPID and the tile count of the layout. `layout` are the
rectangles of the loop's tiles as the tile knows them from then on.
DEDUCED (unsafe): log 112. -/
def execEnumItemRx (port : Fin 2) (hops : Nat) (fromB : Bool) (lid ml : Nat) (layout : List (Nat × Nat × Nat × Nat × Nat)) (s : State) :
    Host.Outcome State Fault Refusal :=
  s.onDev fun d =>
    let n := port.val
    let e := fromB.toNat
    if !d.linkRuns then d
    else d.fromEnd e fun d =>
      -- end A on OVL1 or end B on OVL0: cabled the other way round
      let rev := fromB == (n == 0)
      let pos := if !fromB then hops else if hops < ml then ml - 1 - hops else 128
      -- a second ENUM from the same end belongs to a new enumeration
      let fresh := (nth d.link.tile.enumFrom e none).isSome
      let other := if fresh then none else nth d.link.tile.enumFrom (1 - e) none
      let clash := decide (127 < pos) || other.any fun p => p != pos
      let d := d.onTileLink fun t => { t with enumFrom := modifyNth (if fresh then [none, none] else t.enumFrom) e fun _ => some pos }
      let d := d.setAll [(F.LINK_TILE_STAT_POSITION, if clash then 0x7F else pos), (F.LINK_TILE_STAT_REVERSED, rev.toNat),
        (F.LINK_TILE_STAT_LOOP, lid / 16), (F.LINK_TILE_STAT_SENDER, lid % 16), (F.LINK_TILE_STAT_IDENT, (!clash).toNat)]
      let d := (d.onLink fun l => { l with layout := layout.map fun r =>
        { sender := lid % 16, loop := lid / 16, pos := r.1, x := r.2.1, y := r.2.2.1, w := r.2.2.2.1, h := r.2.2.2.2 } }).refreshDirs
      d.queueReply 0x11 [d.reg R.KEEP_UID_LO, d.reg R.KEEP_UID_HI, Word.of (d.get F.LAMP_TBL_EPOCH_EPOCH), d.tileStatus0]

/-- LOOP_ENUM (R276). -/
def bodyLoopEnum (s : State) (q : QCmd) : State × Answer :=
  let d := s.dev
  let k := (nth q.payload 0 0).toNat
  if d.isTile then (s, .refuse .role)
  else if d.variant.loops ≤ k then (s, .refuse .range)
  else if !d.hasToken then (s, .refuse .token)
  else if d.loopState k = lsDown then (s, .refuse .link)
  else if (d.loopSt k).enum.isSome then (s, .refuse .busy)
  else ({ s with dev := d.startEnum k (some q) }, .later)

/-- LOOP_ENUM as a command. -/
def execLoopEnum (h : Hdr) (loop : Nat) (s : State) := runRow h .loopEnum [Word.of loop] bodyLoopEnum s

/-- TILE_STATUS (R287). -/
def bodyTileStatus (s : State) (_q : QCmd) : State × Answer :=
  let d := s.dev
  if d.isSender then (s, .refuse .role)
  else (s, .ok [d.tileStatus0, Word.of (d.get F.LAMP_TBL_EPOCH_EPOCH), d.reg R.LINK_TILE_STAT, d.reg R.LINK_TILE_CNT])

/-- TILE_STATUS as a command. -/
def execTileStatus (h : Hdr) (s : State) := runRow h .tileStatus [] bodyTileStatus s

/-! ### Bring-up, training, rejoining (R278, R279, R290, R522) -/

/-- LOOP_BRINGUP (R278 step 1): every port of an enabled loop trains lane 0 at col rate. -/
def execLoopBringup (loop : Nat) (s : State) : Host.Outcome State Fault Refusal :=
  s.onDev fun d =>
    if !d.isSender || !d.linkRuns || d.boot != .up || d.loops ≤ loop || !d.bit (F.LINK_LOOP_CFG_EN loop) || d.loopState loop != lsDown then d
    else
      (d.loopEnds loop).foldl (fun d e => if d.portState e.2 = lsDown then d.train e.2 lsCol else d) (d.onLoop loop fun l => { l with mode := lsCol, cut := false })

/-- The loop goes on once none of its own ports trains (R278): from COL an enumeration, at the mode RATE asked for the loop is in
that mode; keys follow a bring-up and a wake. -/
def Dev.loopAdvance (d : Dev) (k : Nat) : Dev :=
  let sts := (d.loopEnds k).map fun e => d.portState e.2
  let l := d.loopSt k
  let st := d.loopState k
  let mode := sts.foldl max 0
  if sts.contains lsTrain || mode < lsCol || l.enum.isSome then d
  else if st = lsDown && l.mode = lsCol && mode = lsCol && !l.cut then
    (if d.hasToken then d.startEnum k none else if d.isStandby && d.pairState == psStandby then d.setLoopState k lsCol else d)
  else if mode = l.mode && mode != st then
    let d := d.setLoopState k mode
    if st = lsEnum then d.startKeys k true
    else if l.waking then ((d.onLoop k fun l => { l with waking := false }).startKeys k true).startEnum k none
    else d
  else d

/-- The pair link is in FULL (R310). -/
def Dev.pairCame (d : Dev) : Dev :=
  let d := (d.set F.CTRL_PAIR_STAT_PAIR_UP 1).eventToken (d.reg R.KEEP_UID_LO, d.reg R.KEEP_UID_HI) 0x05 .info
  let d := d.onTwin fun t => { t with resync := true }
  -- the holder begins the exchange of R298, the standby forwards what it held (R299)
  if d.pairState = psHolder then d.pairItem 0x07 [keyHead 0x7F 0 0]
  else
    let held := d.twin.held
    held.foldl (fun d h => d.pairItem 0x26 h.2) (d.onTwin fun t => { t with held := [] })

/-- LINK_TRAINED (R278, R279): a port ends its training; `failed` are lanes that did not lock. A link without three lanes stays
down. -/
def execLinkTrained (port : Fin 8) (failed : Nat) (s : State) : Host.Outcome State Fault Refusal :=
  s.onDev fun d =>
    let n := port.val
    let t := (d.port n).target
    if !d.linkRuns || !d.clocked (guOvl + n) || d.portState n != lsTrain then d
    else if (t == lsFull && 1 < popCount 4 failed) || (t != lsFull && failed.testBit 0) then d.linkDown n
    else
      let d := (d.setPortState n t).eventLink (R.LINK_OVL_STAT n) 0x02 n 0 .info
      let d := if t == lsFull then (List.range 4).foldl (fun d l => if failed.testBit l then d.retireLane n l else d) d else d
      if d.isTile then d.refreshWhyLink
      else match d.portLoop n with
        | some (k, _) => d.loopAdvance k
        | none => if d.isTwin && n == d.pairPort && t == lsFull then d.pairCame else d

/-- The partner of a sender's own port is the neighbour recorded at the last enumeration, and knows the loop (R279). -/
def Dev.sameNeighbour (d : Dev) (n : Nat) : Bool :=
  let p := d.port n
  p.known == some (d.reg (R.LINK_OVL_PEER n), p.peerHi) && p.peerLoop.isSome

/-- LINK_REJOIN (R279): a trained link joins the stream. `mid` is given for a link between two tiles of the port's loop: whether its
partners are the neighbours they were. -/
def execLinkRejoin (port : Fin 8) (mid : Option Bool) (s : State) : Host.Outcome State Fault Refusal :=
  s.onDev fun d =>
    let n := port.val
    if !d.linkRuns || d.isTile then d
    else match d.portLoop n with
      | none => d
      | some (k, _) =>
        if !(d.loopSt k).cut || (mid.isNone && d.portState n < lsCol) then d
        else
          let d := d.onLoop k fun l => { l with cut := false }
          let d := d.setLoopState k (if lsCol ≤ d.loopState k then d.loopState k else d.portState n)
          if mid.getD (d.sameNeighbour n) then
            (d.setAll [(F.LINK_LOOP_STAT_CLOSED k, 1), (F.LINK_LOOP_STAT_CUT_AFTER k, 0x7F), (F.LINK_LOOP_STAT_HEALED k, 1)]).eventLink
              (R.LINK_LOOP_STAT k) 0x05 k 0 .info
          else if d.hasToken && (d.loopSt k).enum.isNone then d.startEnum k none else d

/-- LOOP_RETURN_TIMEOUT (R273): a single sender has received nothing of its own for 100 µs. -/
def execLoopReturnTimeout (loop : Nat) (s : State) : Host.Outcome State Fault Refusal :=
  s.onDev fun d => if d.isSender && !d.isTwin && decide (loop < d.loops) then d.set (F.LINK_LOOP_STAT_CLOSED loop) 0 else d

/-- TILE_UNREACHABLE (R289): a tile unreachable from both ends for 1 s. -/
def execTileUnreachable (loop pos : Nat) (s : State) : Host.Outcome State Fault Refusal :=
  s.onDev fun d => if d.isSender && decide (loop < d.loops) then d.tileLeft loop pos else d

end Sys2Proof.Machine
end

