-- ==== Sys2Proof/Machine/Power.lean ====
section
/-!
DEFINITION. Power states (R117, R118, R142, R168, R201, R290, R311, R412): POWER_STATE, the entries into SLEEP and DEEP, the return to
RUN. The wake from DEEP is a device reset (Machine/Clock.lean).
-/
namespace Sys2Proof.Machine

open Sys2Proof

/-- Every open transaction rolls back (R80, R118, R302, R306). -/
def Dev.rollbackAll (d : Dev) : Dev := (d.txns.map (·.orig)).foldl Dev.rollback d

/-- A transition is under way (R117). -/
def Dev.powerMoves (d : Dev) : Bool := d.power != .run && d.power != .sleep

/-- SLEEP to RUN (R118): DRAM is back, basins reload, the loops return to their modes, composition resumes in 2 ms. -/
def Dev.sleepExit (d : Dev) : Dev :=
  let d : Dev := { d with power := .run, powerGoal := 0 }
  let d := d.refreshExit
  let run := d.reg R.KEEP_GATE_RUN
  let d := (List.range 16).foldl (fun d b =>
    if run.getLsbD b && (d.basin b).active && (d.basin b).st == 1 then d.onBasin b fun x => { x with st := 2 } else d) d
  if d.isTile then d.onTileLink fun t => { t with closed := none, rx := [] }
  else
    let d := d.ingestWake.onCompose fun c => { c with
      resumeAt := d.time.wall + 2000000 * nsU, layers := c.layers.map fun l => { l with last := none } }
    if !d.hasToken then d
    else ((List.range d.loops).filter d.loopRuns).foldl (fun d k =>
      let mode := 2 + d.get (F.LINK_LOOP_CFG_RATE k)
      if mode = lsCol then (d.startKeys k true).startEnum k none
      else (d.onLoop k fun l => { l with waking := true }).retrainLoop k mode) d

/-- A change of power state begins (R117, R118). `cmd` is the command to answer on arrival. -/
def Dev.powerGo (d : Dev) (goal : Nat) (cmd : Option QCmd) : Dev :=
  if d.power = .run then (if goal = 0 then d else { d with power := .toSleep, powerGoal := goal, powerCmd := cmd })
  else if goal = 2 then { d with power := .toDeep, powerGoal := 2, powerCmd := cmd }
  else if goal = 0 then d.sleepExit
  else d

/-- The same state goes to every tile of the sender, for the same frame (R118). -/
def Dev.powerTiles (d : Dev) (q : QCmd) : Dev :=
  let t : Target := ⟨0, 0, d.senderNo, 3, 0⟩
  if d.isSender && d.hasToken then
    ((List.range d.loops).filter d.loopRuns).foldl (fun d k => d.loopItem k 0x02 (relayWords q.opcode q.seq 0 0 t.toNat q.quiet q.payload)) d
  else d

/-- POWER_STATE (R117, R118, R311): refused at a standby with E_TOKEN; the reply's word is the state reached (R69). -/
def bodyPowerState (s : State) (q : QCmd) : State × Answer :=
  let d := s.dev
  let goal := (nth q.payload 0 0).toNat
  if 2 < goal then (s, .refuse .range)
  else if d.isStandby then (s, .refuse .token)
  else if d.powerMoves then (s, .refuse .state)
  else
    let d := (d.powerTiles q).mirrorPower goal
    let waits := if d.power = .run then goal != 0 else goal == 2
    let d := d.powerGo goal (if waits then some q else none)
    ({ s with dev := d }, if waits then .later else .ok [Word.of goal])

/-- POWER_STATE as a command. -/
def execPowerState (h : Hdr) (target : Nat) (s : State) := runRow h .powerState [Word.of target] bodyPowerState s

/-- Composition ends with the frames that are in: pipes and streams are empty (R201). -/
def Dev.composeAsleep (d : Dev) : Dev :=
  let d := (List.range d.loops).foldl (fun d k => (d.loopEnds k).foldl (fun d e =>
    d.onPort e.2 fun p => { p with stream := [], tags := [], frame := none, pixAll := p.pixSent }) d) d
  let d := d.onIngest fun i => { i with sources := i.sources.map fun s => { s with picks := [] } }
  d.onCompose fun c => { c with next := none, cur := none, reading := [], pipes := List.replicate 4 {} }

/-- RUN to SLEEP at the saddle latch (R118, R142, R168, R290). -/
def Dev.sleepEntry (d : Dev) : Dev :=
  let cmd := d.powerCmd
  let d : Dev := { d with power := if d.powerGoal = 2 then .toDeep else .sleep }
  let d := if d.isTile then (d.ledgerMark.calAbandon).onTileLink fun t => { t with rx := [] } else d.composeAsleep.ingestSleep
  let d := if d.hasToken then ((List.range d.loops).filter d.loopRuns).foldl (fun d k => if d.loopState k = lsCol then d else d.retrainLoop k lsCol) d
    else d
  -- a port whose clock KEEP_GATE_SLEEP stops is down
  let d := (List.range 8).foldl (fun d n => if d.portActive n && !(d.reg R.KEEP_GATE_SLEEP).getLsbD (guOvl + n) then d.linkDown n else d) d
  let d := (List.range 16).foldl (fun d b => if (d.basin b).active && ((d.basin b).st == 2 || (d.basin b).st == 3) then d.gateBasin b else d) d
  let d := d.refreshEntry false
  match (if d.power = .sleep then cmd else none) with
  | some q => ({ d with powerCmd := none } : Dev).reply q .ok 0 [Word.of 1]
  | none => d

/-- SLEEP_ENTRY. -/
def execSleepEntry (s : State) : Host.Outcome State Fault Refusal :=
  s.onDev fun d => if d.boot == .up && d.power == .toSleep then d.sleepEntry else d

/-- The paths of the PCIe queues are gone (R61): rings disabled, transactions rolled back.
DESIGN CHOICE (unsafe): log 122. -/
def Dev.pcieDown (d : Dev) : Dev :=
  let d := [0, 1, 2, 3].foldl (fun d o => d.pathLost o) d
  d.onHost fun h => { h with pcie := h.pcie.map fun p => { p with enable := false, held := [] }, events := { h.events with enable := false, held := [] } }

/-- Into DEEP (R118, R142, R290, R311): the reply leaves first; then transactions roll back, PCIe links go down, the token lapses, the
loops stop, the RPLL and HKO stop. -/
def Dev.deepEntry (d : Dev) : Dev :=
  let d := match d.powerCmd with
    | some q => ({ d with powerCmd := none } : Dev).reply q .ok 0 [Word.of 2]
    | none => d
  let d := d.rollbackAll.pcieDown
  let d := if d.isTile then d.lampsAsleep.ledgerMark else d
  let d := if d.isTwin then d.set F.CTRL_PAIR_STAT_STATE psNone else d
  let d := (List.range d.loops).foldl (fun d k => if d.loopState k = lsDown then d else d.set (F.LINK_LOOP_STAT_STATE k) lsDown) d
  let d := (List.range 8).foldl (fun d n => if d.portState n = lsDown then d else d.set (F.LINK_OVL_STAT_STATE n) lsDown) d
  let d := ((d.refreshEntry true).onClk fun c => { c with onHko := true }).onTime fun t => { t with running := false }
  { d.set F.KEEP_CLK_STAT_RPLL_LOCK 0 with power := .deep }

/-- DEEP_ENTRY. -/
def execDeepEntry (s : State) : Host.Outcome State Fault Refusal :=
  s.onDev fun d => if d.boot == .up && d.power == .toDeep then d.deepEntry else d

end Sys2Proof.Machine
end

