-- ==== Sys2Proof/Machine/HostPath.lean ====
section
/-!
DEFINITION. The host paths (R58 to R64, R524): the PCIe rings and their registers in BAR0, the management Ethernet port, the SPI
target, and how each delimits and checks the packets it receives (R54). A command that passes joins its originator's queue (R46).
-/
namespace Sys2Proof.Machine

open Sys2Proof

/-! ### Receipt of a packet (R54, R524) -/

/-- How the checks of R54 end for a packet. -/
inductive Receipt where
  | discard
  | refuse (q : QCmd) (status : Status) (echo : List Word)
  | accept (q : QCmd)
  deriving DecidableEq, Repr

/-- The command a packet's words are read as, whatever the checks say. -/
def readCmd (orig : Nat) (ws : List Word) (check : Word) : QCmd :=
  let h := Head.ofWord (nth ws 0 0)
  ⟨orig, h.opcode, h.seq, h.txn, Word.field (nth ws 1 0) 32 32, Word.field (nth ws 1 0) 0 32, h.quiet, check.toNat, ws.drop 2⟩

/-- The ordered checks of a received packet (R54), TARGET aside: the words before its check word, its check word, the greatest LEN
of the path, and whether RELAYED may be set. MORE and RELAYED are refused in a command; a reply or event is never answered.
DEDUCED (unsafe): log 14. -/
def checkPacket (orig maxLen : Nat) (relayedOk : Bool) (ws : List Word) (check : Word) : Receipt :=
  let h := Head.ofWord (nth ws 0 0)
  let q := readCmd orig ws check
  let command := h.kind == 0 || h.kind == 3
  if Word.field check 0 32 ≠ (checkWord h.seq ws).toNat then .refuse q .check (ws.take 2)
  else if h.resv ≠ 0 || Word.field check 32 32 ≠ 0 || (command && (h.more || (h.relayed && !relayedOk))) then .refuse q .format []
  else if h.kind = 3 then .refuse q .format []
  else if h.kind ≠ 0 then .discard
  else if maxLen < h.len || h.len + 2 ≠ ws.length then .refuse q .len []
  else match Op.ofCode h.opcode with
    | none => .refuse q .opcode []
    | some op => if op.lenOk h.len then .accept q else .refuse q .len []

/-- What a refusal at receipt sets in CTRL_CMD_STAT. -/
def Dev.receiptFlag (d : Dev) : Status → Dev
  | .check => d.raiseFlag F.CTRL_CMD_STAT_CHECK_ERR
  | .format => d.raiseFlag F.CTRL_CMD_STAT_FORMAT_ERR
  | .len => d.raiseFlag F.CTRL_CMD_STAT_FORMAT_ERR
  | _ => d

/-- A packet discarded without a reply (R54, R524). -/
def Dev.discardPacket (d : Dev) : Dev := d.raiseFlag F.CTRL_CMD_STAT_FORMAT_ERR

/-- TARGET, the last step of R54. -/
def Dev.receiptTarget (d : Dev) : Receipt → Receipt
  | .accept q => if d.targetOk q.orig (Target.ofNat q.target) then .accept q else .refuse q .target []
  | r => r

/-- A packet checked: discarded, answered with the status of the step it failed, or a command that joins its queue unless it
repeats one (R46, R49, R54).
DEDUCED (unsafe): log 9.
DEDUCED (unsafe): log 14.
DEDUCED (unsafe): log 18. -/
def Dev.receive (d : Dev) : Receipt → Dev
  | .discard => d.discardPacket
  | .refuse q st echo =>
    if !echo.isEmpty then (d.receiptFlag st).refuseUnkept q st echo
    else match d.duplicate q with
      | some d => d
      | none => (d.receiptFlag st).refuse q st []
  | .accept q =>
    if d.host.queue.any fun x => x.orig == q.orig && x.seq == q.seq && x.check == q.check then d
    else match d.duplicate q with
      | some d => d
      | none => d.enqueue q

/-! ### PCIe (R58 to R61) -/

/-- BAR0 is there: the variant has PCIe, the device is a sender and its firmware runs. -/
def Dev.pcieUp (d : Dev) : Bool := d.answers && d.variant.full && d.isSender && d.clocked guPcie

/-- CQ_TAIL_DOORBELL: the host's next index of a command ring (R58, R59).
DESIGN CHOICE (unsafe): log 16. -/
def execCqTailDoorbell (q : Fin 4) (idx : Nat) (s : State) : Host.Outcome State Fault Refusal :=
  s.onDev fun d => if d.pcieUp then d.onPcie q fun p => if idx < p.cqSize then { p with cqTail := idx } else p else d

/-- A command slot failed R54: Q_STAT.SLOT_ERR sets (R58), signalled by vector 5 (R60). -/
def Dev.slotErr (d : Dev) (q : Nat) : Dev :=
  if (nth d.host.pcie q {}).slotErr then d else (d.onPcie q fun p => { p with slotErr := true }).msix 5

/-- What a command slot holds (R524): word 0 and the LEN + 2 words that follow it. -/
def slotReceipt (q : Nat) (slot : List Word) : Receipt :=
  let len := (Head.ofWord (nth slot 0 0)).len
  if 1021 < len then .refuse (readCmd q [nth slot 0 0, nth slot 1 0] 0) .len [nth slot 0 0, nth slot 1 0]
  else
    let ws := (List.range (len + 2)).map fun i => nth slot i 0
    checkPacket q 1021 false ws (nth slot (len + 2) 0)

/-- The device reads the next slot of a queue's command ring (R59): the tail has passed it and the reply ring has room. -/
def PcieQ.readable (p : PcieQ) : Bool := p.enable && p.cqHead != p.cqTail && p.held.isEmpty && p.room

/-- PCIE_COMMAND_SLOT: the next command slot of a queue is read (R59, R524). -/
def execPcieCommandSlot (q : Fin 4) (words : List Word) (s : State) : Host.Outcome State Fault Refusal :=
  s.onDev fun d =>
    if d.pcieUp && d.pathOpen q && (nth d.host.pcie q {}).readable then
      let d := d.onPcie q fun p => { p with cqHead := (p.cqHead + 1) % p.cqSize }
      let r := d.receiptTarget (slotReceipt q words)
      let d := match r with
        | .accept _ => d
        | _ => d.slotErr q
      d.receive r
    else d

/-- RQ_HEAD_UPDATE: the host frees reply ring space; replies that wait are written and the queue resumes (R58, R59).
DESIGN CHOICE (unsafe): log 16. -/
def execRqHeadUpdate (q : Fin 4) (idx : Nat) (s : State) : Host.Outcome State Fault Refusal :=
  s.onDev fun d =>
    if d.pcieUp && decide (idx < (nth d.host.pcie q {}).rqSize) then
      let d := d.onPcie q fun p => { p with rqHead := idx }
      (Dev.pcieFlush q (nth d.host.pcie q {}).held.length d).pcieStall q
    else d

/-- Held events are written while the event ring has room, oldest first. -/
def Dev.eventFlush : Nat → Dev → Dev
  | 0, d => d
  | fuel + 1, d =>
    let e := d.host.events
    match e.held with
    | [] => d
    | ws :: rest =>
      if 0 < ringFree e.size e.tail e.head then
        Dev.eventFlush fuel ((d.onHost fun h => { h with events := { h.events with held := rest } }).putEvent 0 ws)
      else d

/-- EQ_HEAD_UPDATE: the host frees event ring space for held events (R58, R59). -/
def execEqHeadUpdate (idx : Nat) (s : State) : Host.Outcome State Fault Refusal :=
  s.onDev fun d =>
    if d.pcieUp && decide (idx < d.host.events.size) then
      let d := d.onHost fun h => { h with events := { h.events with head := idx } }
      Dev.eventFlush d.host.events.held.length d
    else d

/-- Q_CTRL.RESET (R58): both rings of the queue become empty and its transaction rolls back.
DESIGN CHOICE (unsafe): log 16. -/
def Dev.queueReset (d : Dev) (q : Nat) : Dev :=
  let d := d.pathLost q
  d.onPcie q fun p => { p with cqHead := p.cqTail, rqTail := p.rqHead, held := [], replyStall := false }

/-- Q_RESET. -/
def execQReset (q : Fin 4) (s : State) : Host.Outcome State Fault Refusal :=
  s.onDev fun d => if d.pcieUp then d.queueReset q else d

/-- PCIE_FLR_LINK_DOWN (R61): the queues are disabled and their open transactions roll back; an accepted commit still applies. -/
def execPcieFlrLinkDown (s : State) : Host.Outcome State Fault Refusal :=
  s.onDev fun d => if d.pcieUp then d.pcieDown else d

/-! ### Management Ethernet (R62, R63) -/

/-- The words of received bytes, when they are whole words. -/
def wholeWords (bs : List Byte) : Option (List Word) :=
  if bs.length % 8 = 0 then some ((chunksOf 8 (bs.length / 8) bs).map Word.ofBytes) else none

/-- What a path without its own framing receives (R524): the packet is every word received, its check word the last. -/
def streamReceipt (orig maxLen : Nat) (bs : List Byte) : Receipt :=
  match wholeWords bs with
  | none => .discard
  | some ws => if ws.length < 3 then .discard else checkPacket orig maxLen false ws.dropLast (ws.getLastD 0)

/-- The session of a source, or the next free one (R63).
DEDUCED (unsafe): log 15. -/
def Dev.sessionFor (d : Dev) (ip port : Nat) : Option Nat :=
  let at_ (k : Nat) : Option Session := nth d.host.eth k none
  match [0, 1, 2, 3].find? fun k => (at_ k).any fun x => x.ip == ip && x.port == port with
  | some k => some k
  | none => [0, 1, 2, 3].find? fun k => (at_ k).isNone

/-- A receipt under the originator of a session. -/
def Receipt.under (o : Nat) : Receipt → Receipt
  | .discard => .discard
  | .refuse q st e => .refuse { q with orig := o } st e
  | .accept q => .accept { q with orig := o }

/-- The packet as read of a receipt that is answered. -/
def Receipt.cmd? : Receipt → Option QCmd
  | .discard => none
  | .refuse q _ _ => some q
  | .accept q => some q

/-- ETH_DATAGRAM_RX: a datagram to the command port (R62, R63). A new source opens a session; a fifth is answered E_BUSY.
DEDUCED (unsafe): log 15. -/
def execEthDatagramRx (ip port : Nat) (bytes : List Byte) (s : State) : Host.Outcome State Fault Refusal :=
  s.onDev fun d =>
    if !d.answers || !d.bit F.CTRL_PATH_CFG_ETH_EN || !d.clocked guMgmt then d
    else
      let r := streamReceipt 4 181 bytes
      match r.cmd?, d.sessionFor ip port with
      | none, _ => d.discardPacket
      | some q, none => (replyPackets q d.responder Status.busy.code 0 false []).foldl (fun d p => d.emit (.eth ip port p)) d
      | some _, some k =>
        let d := d.onHost fun h => { h with eth := modifyNth h.eth k fun _ => some ⟨ip, port, d.now⟩ }
        d.receive (d.receiptTarget (r.under (4 + k)))

/-- ETH_SESSION_TIMEOUT: a session without a command for 60 s closes and its transaction rolls back (R63). What the session
subscribed to and the replies kept for it end with it.
DEDUCED (unsafe): log 15. -/
def execEthSessionTimeout (k : Fin 4) (s : State) : Host.Outcome State Fault Refusal :=
  s.onDev fun d =>
    match nth d.host.eth k none with
    | none => d
    | some _ =>
      (d.pathLost (4 + k)).onHost fun h => { h with
        eth := modifyNth h.eth k fun _ => none
        masks := modifyNth h.masks (4 + k) fun _ => 0
        kept := h.kept.filter fun x => x.orig != 4 + k }

/-! ### SPI (R64) -/

/-- WRITE_PKT: a packet clocked in over SPI. CHKERR follows whether it failed its check or could not be checked (R64, R524). -/
def execWritePkt (bytes : List Byte) (s : State) : Host.Outcome State Fault Refusal :=
  s.onDev fun d =>
    if !d.answers || !d.bit F.CTRL_PATH_CFG_SPI_EN || !d.clocked guSpi then d
    else
      let r := d.receiptTarget (streamReceipt 8 1021 bytes)
      let bad := match r with
        | .refuse _ .check _ => true
        | .discard => (wholeWords bytes).all fun ws => ws.length < 3
        | _ => false
      (d.onHost fun h => { h with spiChkErr := bad }).receive r

/-- The status byte of READ_STAT (R64): PENDING, FULL, CHKERR, READY. -/
def Dev.spiStat (d : Dev) : Nat :=
  (!d.host.spi.isEmpty).toNat + 2 * (decide (64 ≤ (d.host.queue.filter fun x => x.orig == 8).length)).toNat +
    4 * d.host.spiChkErr.toNat + 8 * d.answers.toNat

/-- The SPI target answers its instructions: enabled, clocked, and not in reset, as R3 leaves a device strapped 0b11. -/
def Dev.spiRuns (d : Dev) : Bool := d.bit F.CTRL_PATH_CFG_SPI_EN && d.clocked guSpi && d.boot != .held && d.boot != .testStrap

/-- TSPI_IRQ_N is low while PENDING = 1 (R64). -/
def Dev.spiIrqLow (d : Dev) : Bool := d.spiRuns && !d.host.spi.isEmpty

/-- READ_STAT: the status byte is returned and CHKERR clears. -/
def execReadStat (s : State) : Host.Outcome State Fault Refusal :=
  s.onDev fun d =>
    if !d.spiRuns then d
    else (d.emit (.spiByte d.spiStat)).onHost fun h => { h with spiChkErr := false }

/-- READ_PKT: the oldest waiting packet is returned; it leaves only when all its words were clocked out, and a held packet takes
the room (R64). -/
def execReadPkt (clocked : Nat) (s : State) : Host.Outcome State Fault Refusal :=
  s.onDev fun d =>
    if !d.spiRuns then d
    else match d.host.spi with
      | [] => d
      | p :: rest =>
        let d := d.emit (.spiPacket (p.take (clocked / 8)))
        if clocked < 8 * p.length then d
        else d.onHost fun h => { h with spi := rest ++ h.spiHeld.take 1, spiHeld := h.spiHeld.drop 1 }

/-- EV_LOST_DELIVER: the EV_LOST an originator is owed, once there is room (R75). -/
def execEvLostDeliver (o : Fin 10) (s : State) : Host.Outcome State Fault Refusal :=
  s.onDev fun d => if d.boot == .up then d.deliverLost o else d

/-! ### Direct writes -/

/-- The size of a ring: a power of two from 16 to 4,096 (R58). -/
def ringSizeOk (n : Nat) : Bool := [16, 32, 64, 128, 256, 512, 1024, 2048, 4096].contains n

/-- A write to a register of a queue in BAR0 (R58, R59): a BASE or SIZE does not change while the queue is enabled.
DESIGN CHOICE (unsafe): log 16. -/
def PcieQ.write (p : PcieQ) (off : Nat) (v : Nat) : PcieQ :=
  match off with
  | 0x00 => if p.enable || v % 4096 ≠ 0 then p else { p with cqBase := v }
  | 0x08 => if p.enable || !ringSizeOk v then p else { p with cqSize := v, cqHead := 0, cqTail := 0 }
  | 0x20 => if p.enable || v % 4096 ≠ 0 then p else { p with rqBase := v }
  | 0x28 => if p.enable || !ringSizeOk v then p else { p with rqSize := v, rqHead := 0, rqTail := 0 }
  | 0x40 => { p with enable := v.testBit 0 }
  | _ => p

/-- A write to the event ring's registers in BAR0 (R58, R59).
DESIGN CHOICE (unsafe): log 16. -/
def EventRing.write (e : EventRing) (off : Nat) (v : Nat) : EventRing :=
  match off with
  | 0x00 => if e.enable then e else { e with base := v }
  | 0x08 => if e.enable || !ringSizeOk v then e else { e with size := v, head := 0, tail := 0 }
  | 0x20 => { e with enable := v.testBit 0 }
  | _ => e

/-- A write to BAR0 (R58); the indices and Q_CTRL.RESET have rows of their own and act the same here.
DESIGN CHOICE (unsafe): log 17. -/
def State.barWrite (s : State) (a : Nat) (v : Nat) : Host.Outcome State Fault Refusal :=
  if !s.dev.pcieUp then .next s
  else if 0x100 ≤ a && a < 0x300 then
    let q : Fin 4 := ⟨(a - 0x100) / 0x80 % 4, Nat.mod_lt _ (by decide)⟩
    let off := (a - 0x100) % 0x80
    if off = 0x10 then execCqTailDoorbell q v s
    else if off = 0x38 then execRqHeadUpdate q v s
    else if off = 0x40 && v.testBit 1 then s.onDev fun d => (d.queueReset q).onPcie q fun p => p.write off v
    else s.onDev fun d => d.onPcie q fun p => p.write off v
  else if a = 0x318 then execEqHeadUpdate v s
  else s.onDev fun d => d.onHost fun h => { h with events := if 0x300 ≤ a then h.events.write (a - 0x300) v else h.events }

/-- What a read of a word of BAR0 gives (R58): BAR_ID, BAR_STAT, and the registers of the queues and of the event ring; Q_CTRL.RESET
and all else read 0. No row of the table reads BAR0: this is the host's view of that state.
DESIGN CHOICE (unsafe): log 17.
DEDUCED (unsafe): log 113. -/
def Dev.barRead (d : Dev) (a : Nat) : Word :=
  if a = 0 then Word.of 0x000000014B444752
  else if a = 8 then Word.pack [(0, 1, (d.boot == .up).toNat), (1, 1, d.get F.CTRL_BOOT_STAT_LOCKED)]
  else if 0x100 ≤ a && a < 0x300 then
    let p := nth d.host.pcie ((a - 0x100) / 0x80) {}
    match (a - 0x100) % 0x80 with
    | 0x00 => Word.of p.cqBase
    | 0x08 => Word.of p.cqSize
    | 0x10 => Word.of p.cqTail
    | 0x18 => Word.of p.cqHead
    | 0x20 => Word.of p.rqBase
    | 0x28 => Word.of p.rqSize
    | 0x30 => Word.of p.rqTail
    | 0x38 => Word.of p.rqHead
    | 0x40 => Word.of p.enable.toNat
    | 0x48 => Word.pack [(0, 1, p.slotErr.toNat), (1, 1, p.replyStall.toNat)]
    | _ => 0
  else
    let e := d.host.events
    match a with
    | 0x300 => Word.of e.base
    | 0x308 => Word.of e.size
    | 0x310 => Word.of e.tail
    | 0x318 => Word.of e.head
    | 0x320 => Word.of e.enable.toNat
    | _ => 0

/-- REGISTER_WRITE: a write to a register of a region window (R8, R9), or of BAR0 (R58). -/
def execRegisterWrite (space : RegSpace) (addr : Nat) (value : Word) (s : State) : Host.Outcome State Fault Refusal :=
  match space with
  | .window => .next (s.writeRow addr value)
  | .bar0 => s.barWrite addr value.toNat

end Sys2Proof.Machine
end

