-- ==== Sys2Proof/Machine/Validate.lean ====
section
/-!
DEFINITION. Validation of a commit (R83): field ranges, the rules across fields, capacity, the line buffer, and the conditions of
the chapters, on the configuration that would be in force. Every check looks at a device with that configuration overlaid.
-/
namespace Sys2Proof.Machine

open Sys2Proof

/-! ### What a commit writes -/

/-- The value a set of entries gives an address. -/
def entryOf (es : List (Nat × Word)) (a : Nat) : Option Word := lookupWord a es

/-- The slate source of an enabled layer under SLATE has a rule of its own, reason 0x0405 (R193). -/
def slateJudged (e : Nat × Word) (lo : Nat) : Bool :=
  lo == 11 && (List.range 32).any (fun l => e.1 == R.LAYER_SRC l) && Word.field e.2 6 1 == 1 && Word.field e.2 9 2 == 2

/-- Every shadowed field of the entries takes its value (R83).
DEDUCED (unsafe): log 22. -/
def entryRange (e : Nat × Word) : Option Fail :=
  match regAt e.1 with
  | none => none
  | some (f, _) =>
    (f.fields.find? fun x => x.ty == .rws && !x.takes (Word.field e.2 x.lo x.width) && !slateJudged e x.lo).map fun x =>
      { status := .range, addr := e.1, lo := x.lo, width := x.width }

/-! ### Times and service, in both roles -/

/-- The field of the frame base that a failure names: of the first base register written. -/
def baseFld (es : List (Nat × Word)) : Fld :=
  if writes es R.TIME_FRAME_BASE_S then F.TIME_FRAME_BASE_S_BASE_S
  else if writes es R.TIME_FRAME_BASE_NS then F.TIME_FRAME_BASE_NS_BASE_NS
  else F.TIME_FRAME_BASE_N_BASE_N

/-- Frame timing (R328, R329): the entries are those of the commit.
DEDUCED (unsafe): log 74. -/
def Dev.timeFail (d : Dev) (es : List (Nat × Word)) : Option Fail :=
  let base := writes es R.TIME_FRAME_BASE_S || writes es R.TIME_FRAME_BASE_NS || writes es R.TIME_FRAME_BASE_N
  firstFail [
    failIf (d.tfNum == 0) (failAt F.TIME_FRAME_TF_NUM .range),
    failIf (d.tfDen == 0) (failAt F.TIME_FRAME_TF_DEN .range),
    failIf (decide (d.tfNum * 240 < d.tfDen) || decide (1001 * d.tfDen < d.tfNum * 24000)) (failAt F.TIME_FRAME_TF_NUM .range),
    failIf (base && decide (d.time.wall + 3600 * secU < d.tBaseU)) (failAt (baseFld es) .range),
    failIf (base && d.isSender && d.service == 2) (failAt (baseFld es) .state 0x0442)]

/-- An FSYNC output's settings (R331). -/
def Dev.fsyncFail (d : Dev) (o : Nat) : Option Fail :=
  let mode := d.get (F.TIME_FSYNC_OUT_CFG_MODE o)
  let width := d.get (F.TIME_FSYNC_OUT_CFG_WIDTH o)
  let div := d.get (F.TIME_FSYNC_OUT_CFG_DIV o)
  let frames := if mode = 1 then div + 1 else 1
  firstFail [
    failIf (decide (div < d.get (F.TIME_FSYNC_OUT_CFG_PHASE o))) (failAt (F.TIME_FSYNC_OUT_CFG_PHASE o) .range),
    failIf ((mode == 1 || mode == 2) && width == 0) (failAt (F.TIME_FSYNC_OUT_CFG_WIDTH o) .range),
    -- WIDTH x 10 ns below the period
    failIf ((mode == 1 || mode == 2) && decide (frames * d.tfNum * 100000000 ≤ width * d.tfDen)) (failAt (F.TIME_FSYNC_OUT_CFG_WIDTH o) .invalid 0x0440),
    failIf (mode == 2 && decide (d.slotCount ≤ d.get (F.TIME_FSYNC_OUT_CFG_SLOT o))) (failAt (F.TIME_FSYNC_OUT_CFG_SLOT o) .invalid 0x0440)]

/-- A commit that sets FULL needs every other WHY_ field at 0 (R119); a tile answers with the reason of R518. -/
def Dev.fullFail (d : Dev) (es : List (Nat × Word)) : Option Fail :=
  failIf (writes es R.KEEP_SVC_CTRL && d.bit F.KEEP_SVC_CTRL_FULL && d.service != 2 && d.whyOther)
    (failAt F.KEEP_SVC_CTRL_FULL .state (if d.isTile then 0x0490 else 0))

/-! ### Slots and cameras (R234, R237, R238) -/

def Dev.slotFail (d : Dev) (k : Nat) : Option Fail :=
  let tc := d.tfCycles
  let st := d.slotStart k
  let len := d.get (F.COMPOSE_SLOT_TIME_LEN k)
  let last := k + 1 == d.slotCount
  let bad (f : Fld) : Fail := failAt f .invalid 0x0420
  firstFail [
    failIf (decide (tc < st + len)) (bad (F.COMPOSE_SLOT_TIME_LEN k)),
    failIf (len == 0 && decide (tc ≤ st)) (bad (F.COMPOSE_SLOT_TIME_START k)),
    failIf (len == 0 && !last) (bad (F.COMPOSE_SLOT_TIME_LEN k)),
    failIf (!last && decide (d.slotStart (k + 1) < st + len)) (bad (F.COMPOSE_SLOT_TIME_START (k + 1)))]

/-- A camera's settings. -/
def Dev.camFail (d : Dev) (c : Nat) : Option Fail :=
  let en := d.bit (F.COMPOSE_CAM_CFG_EN c)
  let s := d.get (F.COMPOSE_CAM_CFG_SLOT c)
  let open_ := d.get (F.COMPOSE_CAM_OPEN_OPEN c)
  let end_ := open_ + d.get (F.COMPOSE_CAM_READ_READOUT c) + d.get (F.COMPOSE_CAM_OPEN_EXPOSE c)
  let g := 2 * d.get F.COMPOSE_SLOTS_GUARD_NS
  firstFail [
    failIf (decide (d.get (F.COMPOSE_CAM_CFG_DIV c) < d.get (F.COMPOSE_CAM_CFG_PHASE c))) (failAt (F.COMPOSE_CAM_CFG_PHASE c) .range),
    failIf (en && d.get (F.COMPOSE_CAM_OPEN_EXPOSE c) == 0) (failAt (F.COMPOSE_CAM_OPEN_EXPOSE c) .range),
    failIf (en && !d.slotComposed s) (failAt (F.COMPOSE_CAM_CFG_SLOT c) .invalid 0x0422),
    -- times in units of 0.5 ns: a TCLK cycle is 5 of them, GUARD_NS twice its value
    failIf (en && (decide (5 * open_ < 5 * d.slotStart s + g) || decide (5 * d.slotEnd s < 5 * end_ + g)))
      (failAt (F.COMPOSE_CAM_OPEN_OPEN c) .invalid 0x0422),
    failIf (en && (List.range d.slotCount).any fun k => d.bit (F.COMPOSE_SLOT_CFG_CLOSED k) &&
        decide (open_ < d.slotEnd k) && decide (d.slotStart k < end_))
      (failAt (F.COMPOSE_CAM_OPEN_OPEN c) .invalid 0x0423)]

def Dev.slotsFail (d : Dev) : Option Fail :=
  firstFail (((List.range d.slotCount).map d.slotFail) ++ ((List.range 4).map d.camFail))

/-! ### Layers (R171, R173, R194, R196) -/

def Dev.layerFail (d : Dev) (l : Nat) : Option Fail :=
  let n := d.get (F.LAYER_SRC_SOURCE l)
  let c := d.effCrop l
  let r := d.layerDst l
  let empty := decide (n < 4) && (c.1 == 0 || c.2 == 0)
  let slate := d.get (F.LAYER_SRC_SLATE_SRC l)
  firstFail [
    failIf (decide (16 < d.layerStage l)) (failAt (F.LAYER_MIX_KSTAGE l) .range),
    failIf (decide (n < 4) && decide (d.variant.vins ≤ n)) (failAt (F.LAYER_SRC_SOURCE l) .absent),
    failIf (r.2.2.1 == 0) (failAt (F.LAYER_DST_W l) .invalid 0x0408),
    failIf (r.2.2.2 == 0) (failAt (F.LAYER_DST_H l) .invalid 0x0408),
    failIf (decide (4 ≤ n) && (c.1 == 0 || decide ((d.sizeNow n).1 < d.get (F.LAYER_CROP_X l) + d.get (F.LAYER_CROP_W l))))
      (failAt (F.LAYER_CROP_W l) .invalid 0x0409),
    failIf (decide (4 ≤ n) && (c.2 == 0 || decide ((d.sizeNow n).2 < d.get (F.LAYER_CROP_Y l) + d.get (F.LAYER_CROP_H l))))
      (failAt (F.LAYER_CROP_H l) .invalid 0x0409),
    failIf (!empty && !ratioOk c.1 r.2.2.1) (failAt (F.LAYER_DST_W l) .invalid 0x0408),
    failIf (!empty && !ratioOk c.2 r.2.2.2) (failAt (F.LAYER_DST_H l) .invalid 0x0408),
    failIf (d.get (F.LAYER_SRC_POLICY l) == 2 && (isLive slate || decide (48 ≤ slate) || !d.bit (F.INGEST_SRC_CFG_EN slate)))
      (failAt (F.LAYER_SRC_SLATE_SRC l) .invalid 0x0405)]

/-- At most 16 enabled layers over one tile (R171). -/
def Dev.depthFail (d : Dev) (t : LayoutTile) : Option Fail :=
  let ls := d.enabledLayers.filter fun l => decide (0 < (Rect.meet (d.layerDst l) t.rect).area)
  failIf (decide (16 < ls.length)) { status := .invalid, reason := 0x0402 }

/-- Here:
DEDUCED (unsafe): log 58. -/
def Dev.rectFail (d : Dev) (r : Nat) : Option Fail :=
  failIf (d.bit (F.COMPOSE_SREC_CFG_EN r) && (d.srecOwner r).isNone) (failAt (F.COMPOSE_SREC_POS_X r) .invalid 0x0406)

/-! ### Kernel stages (R212) -/

/-- The enabled stage slots. -/
def Dev.stageSlots (d : Dev) : List Nat := ((List.range 17).filter (0 < ·)).filter fun j => d.bit (F.COMPOSE_KSTAGE_CFG_EN j)

def Dev.stageFail (d : Dev) (j : Nat) : Option Fail :=
  let id := d.get (F.COMPOSE_KSTAGE_CFG_KERNEL_ID j)
  let a := d.get (F.COMPOSE_KSTAGE_PARAM_ADDR j)
  firstFail [
    failIf (!d.hasLibrary || (kernelInfo id).isNone) (failAt (F.COMPOSE_KSTAGE_CFG_KERNEL_ID j) .invalid 0x0411),
    failIf ((kernelInfo id).any fun k => k.1 != 0) (failAt (F.COMPOSE_KSTAGE_CFG_KERNEL_ID j) .invalid 0x0412),
    failIf (a % 64 != 0 || decide (d.get F.MEM_INFO_USABLE_MIB * 2 ^ 20 < a + 8 * d.get (F.COMPOSE_KSTAGE_PARAM_WORDS j)))
      (failAt (F.COMPOSE_KSTAGE_PARAM_ADDR j) .invalid 0x0414)]

def Dev.stagesFail (d : Dev) : Option Fail :=
  firstFail (
    (d.stagedLayers.map fun l =>
      let j := d.layerStage l
      let n := d.get (F.LAYER_SRC_SOURCE l)
      firstFail [
        failIf (decide (j ≤ 16) && !d.bit (F.COMPOSE_KSTAGE_CFG_EN j)) (failAt (F.LAYER_MIX_KSTAGE l) .invalid 0x0413),
        failIf (d.layerBlends l && (!isLive n || decide (d.get (F.INGEST_SRC_CFG_COUNT n) < 4))) (failAt (F.LAYER_MIX_KSTAGE l) .invalid 0x0415)]) ++
    (d.stageSlots.map d.stageFail) ++
    [failIf (decide (65536 < (d.stageSlots.map fun j => 8 * d.get (F.COMPOSE_KSTAGE_PARAM_WORDS j)).foldl (· + ·) 0))
      { status := .budget, reason := 0x0417 }])

/-! ### Plain service (R202, R252) -/

/-- What plain service forbids of a sender.
DEDUCED (unsafe): log 58. -/
def Dev.plainFail (d : Dev) : Option Fail :=
  let ls := d.enabledLayers
  failIf (d.plainAfter && (decide (1 < ls.length) || ls.any (fun l => d.layerScaled l || d.layerStage l != 0) ||
      decide (60 * d.tfNum < d.tfDen) || decide (1 < d.slotCount)))
    { status := .state, reason := 0x0407 }

/-! ### Line buffer and rate of the layers written (R178) -/

/-- A layer is written by a set of entries. -/
def Dev.layerWritten (d : Dev) (es : List (Nat × Word)) (l : Nat) : Bool :=
  let n := d.get (F.LAYER_SRC_SOURCE l)
  let m := d.get (F.LAYER_SRC_SLATE_SRC l)
  let src (n : Nat) : Bool := writes es (R.INGEST_SRC_GEOM n) || writes es (R.INGEST_SRC_BASE n) || writes es (R.INGEST_SRC_CFG n)
  [R.LAYER_SRC l, R.LAYER_CROP l, R.LAYER_DST l, R.LAYER_MIX l].any (writes es) || src n || (d.get (F.LAYER_SRC_POLICY l) == 2 && src m)

/-- The binding of R177 with the check of R178 on the way: a written layer that would be reduced or hidden fails. -/
def Dev.bindFail (d : Dev) (es : List (Nat × Word)) : List Binding → List (Nat × Nat) → Option Fail
  | _, [] => none
  | bs, x :: rest =>
    let b := d.placeBind bs x
    let v := d.get (F.LAYER_MIX_VTAPS x.1)
    let at_ (st : Status) (reason : Nat) : Fail :=
      { status := st, reason := reason, addr := R.LAYER_MIX x.1, lo := 24, width := 4 }
    if b.taps = v || !d.layerWritten es x.1 then d.bindFail es (bs ++ [b]) rest
    else if lineBuffer < v * d.bindWidth x.1 then some (at_ .lineBuf 0x0401)
    else if (d.roomy bs x v).isEmpty then some (at_ .lineBuf 0x0403)
    else some (at_ .budget 0x0404)

/-! ### Budgets of a sender (R143, R223, R249, R264) -/

/-- A load in bytes per second exceeds 75 % of the peak. -/
def Dev.dramOver (d : Dev) (load : Nat × Nat) : Bool := decide (3 * d.dramPeak * load.2 < 4 * load.1)

/-- The smallest PWM cycle a sender checks: 1 / 7,680 Hz (R249). -/
def Dev.pwmShort (d : Dev) (k : Nat) : Bool :=
  let n := d.get (F.COMPOSE_SLOT_CFG_PWM_N k)
  n != 0 && decide (d.slotLen k * 7680 < n * 400000000)

def Dev.loopFail (d : Dev) (k : Nat) : Option Fail :=
  let p := d.frameParcels k
  firstFail [
    failIf (decide (16777216 < p)) { status := .budget, reason := 0x0430 },
    (match d.budgetRate k with
     | some r => failIf (!d.inWindow (loopTerm p r).1 (loopTerm p r).2) { status := .budget, reason := 0x0424 }
     | none => none),
    failIf (!d.inWindow (d.pipeTerm k).1 (d.pipeTerm k).2) { status := .budget, reason := 0x0425 }]

/-- Loads against their limits; in THROTTLE they may not rise above the base's (R435).
DEDUCED (unsafe): log 45. -/
def Dev.loadFail (d base : Dev) : Option Fail :=
  let binds := d.bindAll
  let k := d.senderLoad
  let l := d.senderDram binds
  let hot := decide (2 ≤ d.get F.KEEP_THERM_STAT_STATE)
  firstFail [
    failIf (!d.loadFits k (d.get F.KEEP_INSVC_ENGINES_IN)) { status := .budget, reason := 0x0410, figure := planFigure k },
    failIf (d.dramOver l) { status := .budget, reason := 0x0201, figure := planFigure l },
    failIf (hot && (fracLt (base.senderDram base.bindAll) l || fracLt base.senderLoad k)) { status := .state, reason := 0x0470 }]

/-! ### Loops (R282, R285) -/

def Dev.loopCfgFail (d : Dev) (es : List (Nat × Word)) (k : Nat) : Option Fail :=
  firstFail [
    failIf (writes es (R.LINK_LOOP_CFG k) && d.get (F.LINK_LOOP_CFG_RATE k) == 0 && d.service == 2) (failAt (F.LINK_LOOP_CFG_RATE k) .state),
    failIf (d.bit (F.LINK_LOOP_CFG_ENC k) && (!d.bit (F.LINK_LOOP_CFG_KEYS k) || (d.loopSt k).tiles.any fun t => !t.keyed))
      (failAt (F.LINK_LOOP_CFG_ENC k) .invalid 0x0431)]

/-- After boot lock a rectangle held by the safety policy may not be written (R462). -/
def Dev.heldFail (d : Dev) (es : List (Nat × Word)) : Option Fail :=
  if d.bit F.CTRL_BOOT_STAT_LOCKED then
    (es.find? fun e => (srecOf e.1).any d.img.held.contains).map fun e => { status := .locked, addr := e.1 }
  else none

/-! ### A sender's checks -/

/-- Layers show a video port on a loop (R151). -/
def Dev.shownOn (d : Dev) (p k : Nat) : Bool :=
  d.enabledLayers.any fun l => d.get (F.LAYER_SRC_SOURCE l) == p && decide (0 < d.layerLamps l k)

/-- Validation of a sender's configuration: `d` has it in force, `base` the one it is measured against. -/
def Dev.senderFail (d base : Dev) (es : List (Nat × Word)) : Option Fail :=
  firstFail (
    [d.timeFail es] ++ ((List.range 2).map d.fsyncFail) ++ [d.fullFail es, d.heldFail es, d.slotsFail] ++
    ((List.range d.loops).map (d.loopCfgFail es)) ++
    [d.ingestFail es d.shownOn] ++ (d.enabledLayers.map d.layerFail) ++ (d.allTiles.map d.depthFail) ++
    ((List.range 16).map d.rectFail) ++
    [d.stagesFail, d.plainFail, d.bindFail es [] (sortBy d.bindBefore d.neededBinds)] ++
    ((List.range d.loops).map d.loopFail) ++
    [firstFail ((List.range d.slotCount).map fun k => failIf (d.pwmShort k) (failAt (F.COMPOSE_SLOT_CFG_PWM_N k) .invalid 0x0421)),
     d.loadFail base])

/-! ### A tile's checks (R250, R385, R386) -/

/-- DRAM load of a tile in bytes per second, as a fraction (R143).
DESIGN CHOICE (safe): log 43. -/
def Dev.tileDram (d : Dev) : Nat × Nat := if d.tfNum = 0 then (0, 1) else (500000000 * d.tfNum + 80 * d.lampRate.1, d.tfNum)

/-- The upload of a group fits a time given in TCLK cycles. -/
def Dev.uploadFits (d : Dev) (g : LaneGroup) (cycles : Nat) : Bool :=
  let t := d.uploadTime g
  decide (2 * t.1 ≤ 5 * cycles * t.2)

/-- The checks that need a lane program which covers the tile. -/
def Dev.lampFail (d : Dev) : Option Fail :=
  if !d.hasProg || d.bit F.LAMP_DRV_STAT_LPROG_MISMATCH then none
  else
    let groups : List LaneGroup := d.prog.used.map (·.2)
    let ks := List.range d.slotCount
    firstFail (
      (ks.map fun k => firstFail [
        failIf (d.pwmN k == 0 || decide (d.slotLen k * d.prog.fmax < d.pwmN k * 400000000)) (failAt (F.COMPOSE_SLOT_CFG_PWM_N k) .invalid 0x0421),
        failIf (decide ((d.onWindow k).1 ≤ (20 * (d.onWindow k).2 : Nat))) (failAt (F.COMPOSE_SLOT_CFG_PWM_N k) .invalid 0x0429)]) ++
      (d.composedSlots.flatMap fun k => groups.map fun g =>
        failIf (!d.uploadFits g (d.uploadWindow k)) { status := .budget, reason := 0x0426 }) ++
      (match d.composedSlots with
       | [] => []
       | k :: _ => groups.map fun g => failIf (!d.uploadFits g (d.saddleCycles + d.slotStart k)) { status := .budget, reason := 0x0428 }))

/-- Validation of a tile's configuration.
DEDUCED (unsafe): log 82. -/
def Dev.tileFail (d : Dev) (es : List (Nat × Word)) : Option Fail :=
  firstFail (
    [d.timeFail es] ++ ((List.range 2).map d.fsyncFail) ++ [d.fullFail es, d.heldFail es, d.slotsFail,
     failIf (decide (d.get F.LAMP_FAULT_CFG_DT_S < d.get F.LAMP_FAULT_CFG_DIAG_S + 1)) (failAt F.LAMP_FAULT_CFG_DT_S .range),
     failIf (decide (251658240 * d.lampRate.2 < d.lampRate.1) || decide (2097152 < d.tileLamps)) { status := .budget, reason := 0x0427 },
     d.lampFail,
     failIf (!d.loadFits d.tileLoad (d.get F.KEEP_INSVC_ENGINES_IN))
       { status := .budget, reason := 0x0410, figure := planFigure d.tileLoad },
     failIf (d.dramOver d.tileDram) { status := .budget, reason := 0x0201, figure := planFigure d.tileDram }])

/-! ### A commit among those pending (R83) -/

/-- The frame that the saddle opens at which the last part of a commit applies (R83, R85, R88, R527): of an AT_TIME commit by its lowest
group, of a SADDLE commit the next saddle, of one mirrored from the holder that of the latch it names.
DEDUCED (unsafe): log 58. -/
def Dev.lastSaddle (d : Dev) (c : Commit) : Nat :=
  if c.mode = .atTime then c.frame - lowGroup d.isTile c.entries
  else if 16 ≤ c.orig then c.frame - 2
  else d.nextLatch - 2

/-- The parts of the configuration that have passed validation and not applied: the pending commits in the order of acceptance, then a
tile's prepared part (R83, R89); each with its last saddle. -/
def Dev.pendingParts (d : Dev) : List (Nat × List (Nat × Word)) :=
  ((d.commits.filter fun c => c.stage != .validating).map fun c => (d.lastSaddle c, c.left)) ++
    (match d.prepared with
     | some p => [(p.frame - lowGroup true p.entries, p.left)]
     | none => [])

/-- The checks of a configuration against the one it is measured against. -/
def Dev.configFail (d base : Dev) (es : List (Nat × Word)) : Option Fail :=
  if es.isEmpty then none
  else match firstFail (es.map entryRange) with
    | some f => some f
    | none => if d.isTile then d.tileFail es else d.senderFail base es

/-- Each part of a list checked on top of the ones before it. -/
def Dev.recheck (base : Dev) : List (Nat × List (Nat × Word)) → Option Fail
  | [] => none
  | p :: rest =>
    match (base.overlay p.2).configFail base p.2 with
    | some f => some { f with status := .conflict }
    | none => (base.overlay p.2).recheck rest

/-- Validation of a set of entries whose last part applies at the saddle of frame m, among the parts that have passed it (R83): those
that apply no later are in force, those that apply later are checked again on top, in the order in which they apply. -/
def Dev.validateAt (d : Dev) (m : Nat) (es : List (Nat × Word)) : Option Fail :=
  let parts := sortBy (fun a b => decide (a.1 ≤ b.1)) d.pendingParts
  let base := (parts.filter fun p => decide (p.1 ≤ m)).foldl (fun d p => d.overlay p.2) d
  let mine := base.overlay es
  match mine.configFail base es with
  | some f => some f
  | none => mine.recheck (parts.filter fun p => decide (m < p.1))

end Sys2Proof.Machine
end

