-- ==== Sys2Proof/Machine/Latch.lean ====
section
/-!
DEFINITION. Commits from validation to their reply (R83 to R90), and what every unit does at a saddle latch (R88, R190, R527): a
sender's commits and composition latch, a tile's lamp-drive and correction latches, the tile's part of a wall-time commit.
-/
namespace Sys2Proof.Machine

open Sys2Proof

/-! ### Validation ends, inactivity (R80, R84) -/

/-- A commit that has passed validation, at the standby too, goes on: NOW replies at once, tile writes get PREPARE, the rest waits for
its latch. -/
def Dev.commitOn (d : Dev) (c : Commit) : Dev :=
  match c.mode with
  | .now => (d.dropCommit c).replyFrom c.cmd d.responder Status.ok.code 0 false (commitWords d.frameNow c.entries.length false false 0 0)
  | .saddle => d.putCommit { c with stage := .queued }
  | .atTime =>
    if c.tiles.isEmpty then d.putCommit { c with stage := .queued }
    else
      let c : Commit := { c with stage := .preparing, await := c.tiles }
      (d.putCommit c).txnItem c 0

/-- COMMIT_VALIDATED: validation of an originator's oldest commit ends. -/
def execCommitValidated (o : Fin 10) (s : State) : Host.Outcome State Fault Refusal :=
  s.onDev fun d =>
    match d.commits.find? fun c => c.orig == o.val && c.stage == .validating with
    | none => d
    | some c =>
      match (d.overlay c.capacity).validateAt (d.lastSaddle c) c.entries with
      | some f => (d.raiseFlag F.CTRL_TXN_STAT_VALIDATE_FAIL).failCommit c f
      | none => if c.mirror.isSome then d.putCommit { c with stage := .mirroring } else d.commitOn c

/-- TXN_TIMEOUT: a transaction without a command for TIMEOUT_MS is rolled back. -/
def execTxnTimeout (o : Fin 10) (s : State) : Host.Outcome State Fault Refusal :=
  s.onDev fun d =>
    match d.txnOf o with
    | none => d
    | some t => ((d.rollback o).raiseFlag F.CTRL_TXN_STAT_TXN_TIMEOUT).eventTxn 0x01 t.id o 0

/-! ### The tiles' answers (R89) -/

/-- Every tile has prepared: the decision goes to the standby, then to the tiles. -/
def Dev.decideCommit (d : Dev) (c : Commit) : Dev :=
  let c : Commit := { c with stage := .decided, await := c.tiles.filter fun t => !c.without.contains t }
  let d := if d.mirrors c then d.pairItem 0x20 (mirrorBody 1 c.frame c) else d
  (d.putCommit c).txnItem c 1

/-- The commit a TXN answer belongs to. -/
def Dev.commitOfTxn (d : Dev) (orig txn n : Nat) : Option Commit :=
  d.commits.find? fun c => c.orig == orig && c.tileTxn == txn && c.frame == n

/-- A tile's answer to PREPARE (R89, R518): its status, and the words of R90 that say why it refuses. A tile whose WHY_ fields keep it
in plain service does not fail a commit of FULL: it counts as missed.
DESIGN CHOICE (unsafe): log 27. -/
def Dev.prepareAnswer (d : Dev) (k pos orig txn n status : Nat) (why : List Word) : Dev :=
  match d.commitOfTxn orig txn n with
  | none => d
  | some c =>
    if c.stage != .preparing || !c.await.contains (k, pos) then d
    else
      let rest := c.await.filter fun t => t != (k, pos)
      if status = Status.ok.code then
        let c : Commit := { c with await := rest }
        if rest.isEmpty then d.decideCommit c else d.putCommit c
      else
        let reason := Word.field (nth why 3 0) 16 16
        if writes c.entries R.KEEP_SVC_CTRL && reason == 0x0490 then
          let c : Commit := { c with await := rest, without := (k, pos) :: c.without, missed := c.missed + 1 }
          if rest.isEmpty then d.decideCommit c else d.putCommit c
        else
          let st := (Status.ofCode status).getD .state
          (d.raiseFlag F.CTRL_TXN_STAT_VALIDATE_FAIL).failCommit c
            { status := st, reason := reason, addr := (nth why 2 0).toNat, lo := Word.field (nth why 3 0) 0 8,
              width := Word.field (nth why 3 0) 8 8, figure := (nth why 0 0).toNat, tile := d.tileAddr (k, pos) }

/-- A tile's answer to APPLY. -/
def Dev.applyAnswer (d : Dev) (k pos orig txn n : Nat) : Dev :=
  match d.commitOfTxn orig txn n with
  | none => d
  | some c => if c.stage == .decided then d.putCommit { c with await := c.await.filter fun t => t != (k, pos) } else d

/-! ### A tile's part (R81, R89) -/

/-- A tile's answer to a TXN item: a reply packet of TXN_COMMIT with SEQ 0 whose payload names the phase and the originator, N, and on
failure the words of R90. Its layout is the model's. -/
def Dev.txnReply (d : Dev) (phase txn orig n : Nat) (f : Option Fail) : Dev :=
  let st := (f.map fun f => f.status).getD .ok
  let why := match f with
    | some f => failWords f false 0 0
    | none => []
  d.queueReply 0x10 (replyPacket Op.txnCommit.code 0 txn st.code ((f.map fun f => f.reason).getD 0) 0 d.responder false
    ([Word.pack [(0, 2, phase), (16, 4, orig)], Word.of n] ++ why))

/-- TXN_PREPARE: the tile validates what it holds under the TXN, for frame N, and answers.
DESIGN CHOICE (unsafe): log 27. -/
def execTxnPrepare (end_ : Fin 2) (txn orig n : Nat) (s : State) : Host.Outcome State Fault Refusal :=
  s.onDev fun d => d.fromEnd end_ fun d =>
    match d.txnOf 9 with
    | none => d
    | some t =>
      if t.id ≠ txn then d
      else match d.validateAt (n - lowGroup true t.shadows) t.shadows with
        | some f => (((d.dropTxn 9).raiseFlag F.CTRL_TXN_STAT_VALIDATE_FAIL)).txnReply 0 txn orig n (some f)
        | none =>
          let d : Dev := { d.dropTxn 9 with prepared := some ⟨txn, n, t.shadows, t.shadows, false⟩ }
          d.txnReply 0 txn orig n none

/-- TXN_APPLY: the prepared transaction is decided; its groups latch for frame N. -/
def execTxnApply (end_ : Fin 2) (txn orig n : Nat) (s : State) : Host.Outcome State Fault Refusal :=
  s.onDev fun d => d.fromEnd end_ fun d =>
    match d.prepared with
    | none => d
    | some p =>
      if p.txn = txn ∧ p.frame = n then ({ d with prepared := some { p with decided := true } } : Dev).txnReply 1 txn orig n none else d

/-- TXN_DROP: the transaction rolls back at the tile. -/
def execTxnDrop (end_ : Fin 2) (txn orig n : Nat) (s : State) : Host.Outcome State Fault Refusal :=
  let _ := orig
  s.onDev fun d => d.fromEnd end_ fun d =>
    let d : Dev := match d.prepared with
      | some p => if p.txn = txn ∧ p.frame = n then { d with prepared := none } else d
      | none => d
    match d.txnOf 9 with
    | some t => if t.id = txn then d.dropTxn 9 else d
    | none => d

/-! ### Entries take effect -/

/-- A register latches the shadowed fields of an entry. -/
def Dev.latchEntry (d : Dev) (e : Nat × Word) : Dev :=
  match regAt e.1 with
  | some (f, _) => d.setReg e.1 (f.latch (d.reg e.1) e.2)
  | none => d

/-- The frame base when TF changes and BASE does not (R329): N_BASE = N, T_BASE = the old F_N to the nearest nanosecond. -/
def Dev.rebase (d : Dev) (n : Nat) (es : List (Nat × Word)) (old : Dev) : Dev :=
  if writes es R.TIME_FRAME_TF && !(writes es R.TIME_FRAME_BASE_S || writes es R.TIME_FRAME_BASE_NS || writes es R.TIME_FRAME_BASE_N) then
    let den : Int := (old.tfDen * nsU : Nat)
    let ns := if den = 0 then 0 else ((2 * old.frameScaled n + den) / (2 * den)).toNat
    d.setAll [(F.TIME_FRAME_BASE_N_BASE_N, n), (F.TIME_FRAME_BASE_S_BASE_S, ns / 1000000000), (F.TIME_FRAME_BASE_NS_BASE_NS, ns % 1000000000)]
  else d

/-- Entries latch together, for a commit of frame N. -/
def Dev.latchEntries (d : Dev) (n : Nat) (es : List (Nat × Word)) : Dev := (es.foldl Dev.latchEntry d).rebase n es d

/-- The values registers had before entries latch; earlier ones stand. -/
def Dev.oldsOf (d : Dev) (es olds : List (Nat × Word)) : List (Nat × Word) :=
  olds ++ (es.filter fun e => !writes olds e.1).map fun e => (e.1, d.reg e.1)

/-- SERVICE follows FULL and the WHY_ fields (R119). -/
def Dev.judgeService (d : Dev) : Dev :=
  let full := d.bit F.KEEP_SVC_CTRL_FULL
  let d := d.setBit F.KEEP_SVC_STAT_WHY_REQ (!full)
  if d.service = 1 && full && !d.whyOther then d.setService 2
  else if d.service = 2 && !full then d.setService 1 else d

/-! ### Commits at a latch -/

/-- A commit has applied whole: its reply (R90). -/
def Dev.finishCommit (d : Dev) (c : Commit) (frame : Nat) : Dev :=
  let late := decide (0 < c.latches)
  let missed := c.missed + c.await.length
  let d := if late then d.raiseFlag F.CTRL_TXN_STAT_COMMIT_LATE else d
  let d := if 0 < missed then d.raiseFlag F.CTRL_TXN_STAT_WALL_PARTIAL else d
  let d := if d.isTwin && c.entries.any fun e => mirroredReg e.1 then d.set F.CTRL_PAIR_TERM_MIRROR_EPOCH (nextEpoch (d.get F.CTRL_PAIR_TERM_MIRROR_EPOCH)) else d
  let d := if d.pairState == psHolder && !d.pairUp && c.entries.any fun e => mirroredReg e.1 then d.set F.CTRL_PAIR_STAT_IN_SYNC 0 else d
  let st := if 0 < missed then Status.partialDone else .ok
  let d := d.dropCommit c
  if 10 ≤ c.orig then d
  else d.replyFrom c.cmd d.responder st.code 0 false (commitWords frame c.entries.length late c.converted c.tiles.length missed)

/-- The entries of a commit that latch at latch m, ahead of the frames their groups govern.
DEDUCED (unsafe): log 58. -/
def Commit.due (c : Commit) (tile : Bool) (m : Nat) : List (Nat × Word) :=
  match c.mode with
  | .atTime => c.left.filter fun e => (latchGroups tile e.1).all fun g => decide (c.frame ≤ m + g)
  | _ => c.left

/-- A commit may apply at latch m: its wait is over; a mirrored SADDLE commit has reached its target latch.
DEDUCED (unsafe): log 58. -/
def Commit.ready (c : Commit) (m : Nat) : Bool :=
  (c.stage == .queued || c.stage == .decided) && (c.mode == .atTime || decide (c.orig < 16) || decide (c.frame ≤ m + 2))

/-- The kernel stage slots entries wrote. -/
def stagesWritten (es : List (Nat × Word)) : List Nat :=
  ((List.range 17).filter (0 < ·)).filter fun j => writes es (R.COMPOSE_KSTAGE_CFG j) || writes es (R.COMPOSE_KSTAGE_PARAM j)

/-- A commit that writes kernel stages advances the epoch COMPOSE records for its basins (R15). -/
def Dev.epochStep (d : Dev) (es : List (Nat × Word)) : Dev :=
  let js := stagesWritten es
  if d.isTile || js.isEmpty then d
  else d.onCompose fun c => { c with record := nextEpoch c.record, stale := c.stale.filter (fun j => !js.contains j) ++ js }

/-- One commit at latch m; with it go the registers' old values and whether anything applied. -/
def Dev.commitAt (m : Nat) (r : Dev × List (Nat × Word) × Bool) (c : Commit) : Dev × List (Nat × Word) × Bool :=
  let d := r.1
  if c.stage = .preparing && c.frame ≤ m + 2 then
    -- no decision before the composition latch (R89)
    let silent := (c.await.head?.map d.tileAddr).getD 0
    (d.failCommit c { status := .timeout, tile := silent }, r.2)
  else if c.stage = .mirroring && 16 ≤ c.orig && c.frame ≤ m + 2 then
    -- a mirrored commit whose decision has not come by its latch (R304)
    (d.dropCommit c, r.2)
  else if !c.ready m then
    ((if c.mode == .saddle && c.stage != .preparing then d.putCommit { c with latches := c.latches + 1 } else d), r.2)
  else
    let es := c.due d.isTile m
    let olds := d.oldsOf es r.2.1
    let n := if c.mode = .atTime then c.frame else m
    let d := (d.latchEntries n es).epochStep es
    let left := c.left.filter fun e => !es.contains e
    -- slot registers of a tile serve correction one frame ahead (R527)
    let ahead := if d.isTile && c.mode == .atTime && decide (c.frame ≤ m + 1) then left.filter fun e => (latchGroups true e.1).contains 1 else []
    let d : Dev := { d with corAhead := ahead.foldl (fun l e => putWord e.1 e.2 l) (es.foldl (fun l e => eraseWord e.1 l) d.corAhead) }
    let c : Commit := { c with left := left }
    let d := d.putCommit c

    let done := left.isEmpty && (c.tiles.isEmpty || decide (c.frame ≤ m))
    let frame := if c.mode = .atTime then c.frame else m + topGroup d.isTile c.entries
    (if done then d.finishCommit c frame else d, olds, r.2.2 || !es.isEmpty || (c.entries.isEmpty && done))

/-- Every commit at latch m, in the order of acceptance (R190). -/
def Dev.commitsAt (d : Dev) (m : Nat) : Dev × List (Nat × Word) × Bool := d.commits.foldl (Dev.commitAt m) (d, [], false)

/-- The rectangles of the safety policy apply at the first saddle after plain service is entered (R462). -/
def Dev.policyLatch (r : Dev × List (Nat × Word) × Bool) : Dev × List (Nat × Word) × Bool :=
  let d := r.1
  if (d.service = 1 || d.service = 2) && !d.img.policyWrites.isEmpty then
    let es := d.img.policyWrites
    ((es.foldl Dev.latchEntry d).onImg fun i => { i with policyWrites := [] }, d.oldsOf es r.2.1, true)
  else r

/-! ### A sender's latch -/

/-- What follows a change of LINK_LOOPk_CFG (R275, R282). -/
def Dev.loopLatched (d : Dev) (k : Nat) (old : Word) : Dev :=
  let f (x : Fld) : Nat := Word.field old x.lo x.width
  if f (F.LINK_LOOP_CFG_EN k) = 1 && !d.bit (F.LINK_LOOP_CFG_EN k) then
    let d := d.stopPipe k none
    ((d.loopEnds k).foldl (fun d e => d.setPortState e.2 lsDown) d).setLoopState k lsDown
  else if f (F.LINK_LOOP_CFG_RATE k) ≠ d.get (F.LINK_LOOP_CFG_RATE k) && d.loopRuns k && d.awake then
    (d.stopPipe k (some 8)).retrainLoop k (2 + d.get (F.LINK_LOOP_CFG_RATE k))
  else d


/-- The holder tells the standby which frames it selected for frame N (R296): a word with the source, then the keys of the frame and of
the one before it that FRC_BLEND holds. -/
def Dev.sendSelect (d : Dev) (n : Nat) : Dev :=
  if d.pairUp && d.pairState == psHolder then
    let picks := (d.enabledSources.filter isLive).flatMap fun i =>
      match (d.source i).picks.filter fun p => p.1 == n with
      | [] => []
      | p :: rest => [Word.of i, Word.of p.2.key, match rest with
        | q :: _ => Word.of q.2.key
        | [] => 0]
    d.pairItem 0x23 (Word.of n :: picks)
  else d

/-- The complete frame of a source that a key names (R296). -/
def Dev.sameFrame (d : Dev) (src key : Nat) : Option StoredFrame := (d.source src).frames.find? (d.keyNames src key)

/-- The selections a SELECT that came before the latch names, as frames of this device's rings. -/
def Dev.selectedFor (d : Dev) (n : Nat) : List (Nat × StoredFrame) :=
  match d.twin.selects.find? fun x => x.1 == n with
  | none => []
  | some (_, l) => l.filterMap fun x => (d.sameFrame x.1 x.2).map fun f => (x.1, f)

/-- A holder whose pair link has gone waits for no MIRROR_ACK (R295). -/
def Dev.releaseMirrors (d : Dev) : Dev :=
  if d.pairUp then d
  else (d.commits.filter fun c => decide (c.orig < 16) && c.mirror.isSome).foldl (fun d c =>
    let c' := { c with mirror := none }
    if c.stage = .mirroring then (d.putCommit c').commitOn c' else d.putCommit c') d

/-- A sender at the saddle latch that opens frame m: commits, then the composition latch of frame m + 2, then the saddle length. -/
def State.senderLatch (s : State) (m : Nat) : State :=
  let d := s.dev.releaseMirrors
  let r := Dev.policyLatch (d.commitsAt m)
  let d := r.1
  let olds := r.2.1
  let old (a : Nat) : Word := (lookupWord a olds).getD (d.reg a)
  let d := if writes olds R.KEEP_SVC_CTRL || d.service = 1 then d.judgeService else d
  let d := if writes olds R.CTRL_CAP_CTRL && old R.CTRL_CAP_CTRL != d.reg R.CTRL_CAP_CTRL then d.wallBlank (d.bit F.CTRL_CAP_CTRL_BLANK) else d
  let d := if d.variant.full then d.ingestLatched (m + 2) olds else d
  let d := (List.range d.loops).foldl (fun d k => if writes olds (R.LINK_LOOP_CFG k) then d.loopLatched k (old (R.LINK_LOOP_CFG k)) else d) d
  let awake := d.awake && !d.safeNow && !d.safe.inReset.contains 4 && d.variant.full
  let d := if awake then (d.latchCompose s.mem (m + 2) r.2.2 (d.selectedFor (m + 2))).sendSelect (m + 2)
    else
      let d := if r.2.2 then d.bindLatch (m + 2) true else d
      -- a COMPOSE reset that ends inside this saddle makes its latch then (R201)
      if d.awake && !d.safeNow && d.variant.full then d.onCompose fun c => { c with relatch := some (m + 2) } else d
  let d := if r.2.2 then d.loadLatch else d.useLatch
  let d := d.onCompose fun c => { c with saddle := d.saddleCycles }
  let d := d.set F.COMPOSE_SADDLE_S_US (ceilDiv d.saddleCycles 400)
  { s with dev := d.gateLatch.judgeBudget true }

/-! ### A tile's latch -/

/-- The DRIVE in force for frame m (R408). -/
def Dev.driveLatch (d : Dev) (m : Nat) : Dev :=
  let best := (d.lamp.drives.filter fun x => decide (x.1 ≤ m)).foldl (fun b x => match b with
    | none => some x
    | some y => if y.1 < x.1 then some x else some y) (none : Option (Nat × Nat × Bool))
  let v := (best.map fun x => x.2).getD (0x8000, false)
  let floor := (best.map fun x => x.1).getD 0
  let d := d.onLamp fun l => { l with
    bright := d.get F.LAMP_DRV_CFG_BRIGHT, cap := v.1, blank := v.2, drives := l.drives.filter fun x => decide (floor ≤ x.1) }
  d.setAll [(F.LAMP_CAP_STAT_CAP, v.1), (F.LAMP_CAP_STAT_BLANK, v.2.toNat)]

/-- Trims, the locate pattern and the dark latch at the lamp-drive latch of frame m (R395, R405, R410, R425). -/
def Dev.lampLatch (d : Dev) (m : Nat) : Dev :=
  let d := d.driveLatch m
  let d : Dev := match d.photo.wait with
    | some (n, _, adj) =>
      if d.photo.waitIn && n ≤ m then
        let d := d.onLamp fun l => { l with trims := (List.range 16).map fun t => { nth l.trims t {} with fb := nth adj t 0 } }
        let d : Dev := d.onPhoto fun p => { p with wait := none, waitIn := false }
        (List.range 16).foldl (fun d t => d.setInt (F.LAMP_TRIM_CFG_ADJ t) (d.trimAdj t)) d
      else d
    | none => d
  let d := (List.range 16).foldl (fun d t => d.set (F.LAMP_TRIM_CFG_EFF t) (d.trimEff t)) d
  let d : Dev := match d.lamp.locateNext with
    | some p => d.onLamp fun l => { l with locate := p, locateNext := none }
    | none => d
  let d := if d.lamp.resume then
      ((d.onFlash fun f => { f with dark := false }).set F.LAMP_DIAG_STAT_LATCHED 0).onLamp fun l => { l with resume := false, counts := [], lineRuns := [] }
    else d
  d.noteUnproven.refreshCover.refreshLit

/-- Zone temperatures as correction takes them (R348). -/
def Dev.zoneLatch (d : Dev) (tables : List (Nat × List Word)) : Dev :=
  let zs := List.range (zoneCount (hdrZones tables))
  let good := zs.filter d.zoneGood
  let sum : Int := (good.map d.zoneTemp).foldl (· + ·) 0
  let mean : Int := if good.isEmpty then hdrTCal tables else roundInt sum good.length
  let v (z : Nat) : Int := if good.contains z then d.zoneTemp z else mean
  let d := d.setReg R.LAMP_COR_TEMP (Word.pack (zs.map fun z => (16 * z, 16, toSigned 16 (v z))))
  if good.length < zs.length then d.raiseFlag F.LAMP_COR_STAT_TEMP_SUBST else d

/-- The correction latch of frame n (R344, R348, R354, R425). -/
def Dev.correctionLatch (d : Dev) (n : Nat) : Dev :=
  let d : Dev := match d.lamp.built with
    | some (ts, w) =>
      let d := d.onLamp fun l => { l with tables := ts, working := w, built := none }
      if d.photo.onAdopt then (d.clearFactors n).onPhoto fun p => { p with onAdopt := false } else d
    | none => d
  let d : Dev := match d.photo.wait with
    | some (k, g, adj) =>
      -- a run freezes LAMP_COR_GAIN (R422); FB_CLEAR, which names no frame, acts all the same (R426)
      if k ≤ n && !d.photo.waitIn && (d.photo.run.isNone || k == 0) then
        (d.setReg R.LAMP_COR_GAIN (Word.pack ((List.range 4).map fun e => (16 * e, 16, nth g e 0x4000)))).onPhoto fun p =>
          { p with wait := some (n, g, adj), waitIn := true }
      else d
    | none => d
  let plain := d.service != 2 || d.lamp.working.isEmpty
  let d := d.assignSets n plain false
  let tables := if holdsClass d.lamp.tables tcHeader then d.lamp.tables else d.lamp.held
  let d := d.zoneLatch tables
  let set : CorSet := {
    frame := n, regs := (d.overlay d.corAhead).regs, tables := tables, working := d.lamp.working
    plain := plain }
  d.onLamp fun l => { l with next := some set }

/-- A change of slot or camera registers at the tile: exposures that are no whole number of PWM cycles (R239).
DEDUCED (unsafe): log 97. -/
def Dev.beatCheck (d : Dev) (m : Nat) : Dev :=
  let beats (c : Nat) : Bool :=
    let s := d.get (F.COMPOSE_CAM_CFG_SLOT c)
    let x := d.get (F.COMPOSE_CAM_OPEN_EXPOSE c) * d.pwmN s
    let l := d.slotLen s
    let k := if l = 0 then 1 else max 1 (roundDiv x l)
    let off := if x ≤ k * l then k * l - x else x - k * l
    d.bit (F.COMPOSE_CAM_CFG_EN c) && d.pwmN s != 0 && decide (k * l < 100 * off)
  ((List.range 4).filter beats).foldl (fun d c =>
    (d.raiseFlag F.COMPOSE_SLOT_STAT_PWM_BEAT).eventPicture R.COMPOSE_SLOT_STAT 0x0C c 0 0 m .warning) d

/-- Slot and camera registers. -/
def isSlotReg (a : Nat) : Bool := decide (R.COMPOSE_SLOTS ≤ a) && decide (a < R.COMPOSE_CAM_CFG 4)

/-- A prepared transaction at latch m (R89): dropped without a decision at its frame-store latch, else its groups latch. -/
def Dev.preparedAt (d : Dev) (m : Nat) : Dev × List (Nat × Word) :=
  match d.prepared with
  | none => (d, [])
  | some p =>
    if !p.decided then
      if p.frame ≤ m + 1 then (({ d with prepared := none } : Dev).eventTxn 0x02 p.txn 9 p.frame, []) else (d, [])
    else
      let es := p.left.filter fun e => (latchGroups true e.1).all fun g => decide (p.frame ≤ m + g)
      let olds := d.oldsOf es []
      let d := d.latchEntries p.frame es
      let left := p.left.filter fun e => !es.contains e
      let ahead := if p.frame ≤ m + 1 then left.filter fun e => (latchGroups true e.1).contains 1 else []
      let d : Dev := { d with
        corAhead := ahead.foldl (fun l e => putWord e.1 e.2 l) (es.foldl (fun l e => eraseWord e.1 l) d.corAhead)
        prepared := if left.isEmpty then none else some { p with left := left } }
      (d, olds)


/-- A tile at the saddle latch that opens frame m: the frame is judged, commits apply, the lamp-drive latch of m, the correction latch of
m + 1. -/
def Dev.tileLatch (d : Dev) (m : Nat) : Dev :=
  let d := d.judgeReady m
  let p := d.preparedAt m
  let r := Dev.policyLatch (p.1.commits.foldl (Dev.commitAt m) (p.1, p.2, !p.2.isEmpty))
  let d := r.1
  let olds := r.2.1
  let d := if writes olds R.KEEP_SVC_CTRL || d.service = 1 then d.judgeService else d
  let d := if olds.any fun e => isSlotReg e.1 then d.beatCheck m else d
  let d := d.tileLoads
  let d := (d.lampLatch m).correctionLatch (m + 1)
  let d := d.onCompose fun c => { c with saddle := d.saddleCycles }
  let d := d.set F.COMPOSE_SADDLE_S_US (ceilDiv d.saddleCycles 400)
  d.gateLatch.judgeBudget true

/-- A region reset completes (R33, R114): where the latch of a window yet to open fell to it, the latch is made now (R201).
DEDUCED (unsafe): log 30. -/
def execRegionResetDone (r : Nat) (s : State) : Host.Outcome State Fault Refusal :=
  s.onDev fun d =>
    let d := d.onSafe fun x => { x with inReset := x.inReset.filter (· != r) }
    match d.compose.relatch with
    | some n => if r = 4 && d.isSender && d.boot == .up && d.awake && !d.safeNow then d.latchCompose s.mem n false (d.selectedFor n) else d
    | none => d

/-- SADDLE_LATCH m: the saddle that opens frame m begins. Saddles go on in every state in which wall time runs (R85). -/
def execSaddleLatch (m : Nat) (s : State) : Host.Outcome State Fault Refusal :=
  if s.dev.boot != .up || !s.dev.time.running then .next s
  else if s.dev.isTile then s.onDev fun d => d.tileLatch m
  else .next (s.senderLatch m)

end Sys2Proof.Machine
end

