-- ==== Sys2Proof/Machine/Relay.lean ====
section
/-!
DEFINITION. What comes back from the tiles (R66, R67, R268, R281, R289, R299, R526): replies to relayed commands and to the sender's own
writes, events of tiles, tiles that stay silent.
-/
namespace Sys2Proof.Machine

open Sys2Proof

/-! ### Answers to relayed commands -/

/-- What a tile's reply packet says. -/
structure TileAnswer where
  opcode : Nat
  seq : Nat
  txn : Nat
  status : Nat
  detail : Nat
  payload : List Word
  deriving DecidableEq, Repr

/-- Reads a reply packet (R52). -/
def TileAnswer.ofPacket (ws : List Word) : TileAnswer :=
  let h := Head.ofWord (nth ws 0 0)
  let w := nth ws 1 0
  ⟨h.opcode, h.seq, h.txn, Word.field w 0 16, Word.field w 16 16, (ws.drop 3).take h.len⟩

/-- A relay waits for this answer of a tile; the answer to a table push carries no SEQ of the host's. -/
def Relay.awaits (r : Relay) (t : Nat × Nat) (a : TileAnswer) : Bool :=
  r.waiting.contains t && r.opcode == a.opcode && (r.opcode == Op.tablePush.code || (r.seq % 65536 == a.seq && r.txn % 256 == a.txn))

/-- A tile has answered a relay, or fallen silent. -/
def Relay.heard (r : Relay) (t : Nat × Nat) (answer : Option Bool) : Relay :=
  { r with
    waiting := r.waiting.filter fun x => x != t
    okCnt := r.okCnt + (answer == some true).toNat
    badCnt := r.badCnt + (answer == some false).toNat
    holding := if answer = some true then r.holding ++ [t] else r.holding }

/-- Changes one part of a relayed command on one loop. -/
def Dev.onRelay (d : Dev) (x : Relay) (f : Relay → Relay) : Dev :=
  d.onHost fun h => { h with relays := h.relays.map fun r =>
    if r.ident == x.ident && r.loop == x.loop && r.part == x.part then f r else r }

/-- A write of FULL that the sender relays to its tiles (R518).
DEDUCED (unsafe): log 79. -/
def Relay.isFull (r : Relay) : Bool := r.own && nth r.payload 0 0 == Word.of R.KEEP_SVC_CTRL

/-- A tile has adopted a push (R277, R368, R518): its record follows, it may run, and in full service it gets FULL. -/
def Dev.pushAdopted (d : Dev) (t : Nat × Nat) (epoch : Nat) : Dev :=
  match d.tileRec t.1 t.2 with
  | none => d
  | some x =>
    let d := (d.setRecord t.1 t.2 x.uidLo x.uidHi epoch).onTileRec t.1 t.2 fun y => { y with epoch := epoch }
    let fits := !d.bit (F.LINK_LOOP_STAT_LAYOUT_BAD t.1) && compatible (nth d.img.fwHeader 1 0) (nth d.img.fwHeader 4 0) x.fwVer x.fwWin
    let d := if x.stale && fits then d.mark t.1 t.2 false else d
    if d.service = 2 && fits then d.commitFull t.1 t.2 else d

/-- The first refusal of a write on the sender's own account: the tile's reply comes before the sender's (R526).
DEDUCED (unsafe): log 79. -/
def Dev.ownRefused (d : Dev) (r : Relay) (t : Nat × Nat) (status detail : Nat) (payload : List Word) : Dev :=
  if (d.relayParts r.ident).any fun x => x.refused.isSome then d
  else (d.replyFrom r.cmd (d.tileAddr t) status detail true payload).onRelay r fun x => { x with refused := some (status, detail) }

/-- A transaction with one more write that a tile has taken (R81). -/
def Txn.held (x : Txn) (r : Relay) (t : Nat × Nat) : Txn :=
  { x with tiles := if x.tiles.contains t then x.tiles else x.tiles ++ [t], sent := x.sent ++ [(t, r.opcode, r.sends)] }

/-- A tile holds a write of an originator's transaction (R81). -/
def Dev.tileHolds (d : Dev) (r : Relay) (t : Nat × Nat) : Dev :=
  if r.txn != 0 && (r.opcode == Op.writeReg.code || r.opcode == Op.writeField.code) then
    d.onTxn r.orig fun x => if x.id == r.txn then x.held r t else x
  else d

/-- A tile's answer to a relayed command: passed on with the host's COOKIE (R66), unless it is an OK to a quiet broadcast (R67); of a
write on the sender's own account only a refusal is (R526).
DEDUCED (unsafe): log 79. -/
def Dev.relayAnswer (d : Dev) (r : Relay) (t : Nat × Nat) (a : TileAnswer) : Dev :=
  let ok := a.status == Status.ok.code
  let d := d.onRelay r fun x => x.heard t (some ok)
  let d := if ok && r.opcode == Op.tablePush.code then d.pushAdopted t (Word.field (nth a.payload 0 0) 0 32) else d
  if r.own then (if ok || r.isFull then d else d.ownRefused r t a.status a.detail a.payload)
  else
    let d := if ok then d.tileHolds r t else d
    if 10 ≤ r.orig || (r.bcast && r.quiet && ok) then d else d.replyFrom r.cmd (d.tileAddr t) a.status a.detail r.bcast a.payload

/-! ### A write on the sender's own account ends (R526, R518) -/

/-- The write is withdrawn from the tiles that hold it: each rolls the transaction back and is sent again what it held before.
DEDUCED (unsafe): log 79. -/
def Dev.withdraw (d : Dev) (r : Relay) (holding : List (Nat × Nat)) (t : Option Txn) : Dev :=
  let id := if r.implied then impliedTxn else r.txn
  holding.foldl (fun d x =>
    let before := ((t.map (·.sent)).getD []).filter fun w => w.1 == x
    before.foldl (fun d w => d.sendTileCommand x (if w.2.1 = Op.writeField.code then .writeField else .writeReg) 0 id w.2.2)
      (d.sendTileCommand x .txnRollback 0 id [])) d

/-- Every tile that is to hold the write does: the sender makes it itself. -/
def State.ownWrite (s : State) (r : Relay) (parts : List Relay) (holding : List (Nat × Nat)) (missed : Nat) : State :=
  let d := s.dev
  let q := r.cmd
  let ws := (writesOf q (r.opcode == Op.writeField.code)).filter fun w => shadowedReg w.1
  let refuse (t : Option Txn) (st : Status) : State := { s with dev := (d.withdraw r holding t).reply q st 0 [] }
  if r.implied then
    match d.shadowWrites ⟨q.orig, 256, [], false, holding, d.now, missed, []⟩ ws with
    | .error e => refuse none e
    | .ok t =>
      let x := s.impliedCommit q { t with id := 0 }
      match x.2 with
      | .now st det pl => { s with dev := (x.1.dev.withdraw r holding none).reply q st det pl }
      | _ => x.1
  else
    match d.txnOf q.orig with
    | none => refuse none .txn
    | some t =>
      if t.id ≠ q.txn then refuse none .txn
      else match d.shadowWrites t ws with
        | .error e =>
          let s' := refuse (some t) e
          if e = .txnFull then { s' with dev := s'.dev.onTxn q.orig fun t => { t with poisoned := true } } else s'
        | .ok t' =>
          let t' := parts.foldl (fun t p => p.holding.foldl (fun t x => t.held p x) t) t'
          { s with dev := (d.onTxn q.orig fun _ => { t' with missed := t'.missed + missed }).reply q .ok 0 [] }

/-- All tiles of a write on the sender's own account have answered or are silent. -/
def State.ownSettle (s : State) (ident : Nat) : State :=
  let rs := s.dev.relayParts ident
  match rs with
  | [] => s
  | r :: _ =>
    if !r.own || rs.any (fun x => !x.waiting.isEmpty) then s
    else
      let d := s.dev.dropRelay ident
      let holding := (rs.flatMap (·.holding)).eraseDups
      let all := (rs.map (·.addressed)).foldl (· + ·) 0
      match rs.findSome? (·.refused) with
      | some st =>
        let t := if r.implied then none else d.txnOf r.orig
        { s with dev := (d.withdraw r holding t).replyFrom r.cmd d.responder st.1 st.2 false [] }
      | none => { s with dev := d }.ownWrite r rs holding (if r.isFull then all - holding.length else 0)

/-- A relayed command is looked at again. -/
def State.relaySettle (s : State) (ident : Nat) : State :=
  let s := s.ownSettle ident
  { s with dev := s.dev.relaySettle ident }

/-! ### Replies and events of tiles -/

/-- No activation is in progress (R472). -/
def Dev.endRollout (d : Dev) : Dev :=
  (d.onImg fun i => { i with rollout := none }).setAll [(F.CTRL_BOOT_STAT_ROLL_POS, 0x7F), (F.CTRL_BOOT_STAT_ROLL_LOOP, 0), (F.CTRL_BOOT_STAT_ROLL_SELF, 0)]

/-- A tile's reply packet: an answer of R89, or to a relayed command. -/
def State.tileReply (s : State) (t : Nat × Nat) (ws : List Word) : State :=
  let a := TileAnswer.ofPacket ws
  match s.dev.host.relays.find? fun r => r.awaits t a with
  | some r =>
    let d := if a.opcode == Op.tileStatus.code && a.status == 0 then
        s.dev.onTileRec t.1 t.2 fun x => { x with status := nth a.payload 0 0, reversed := (nth a.payload 2 0).getLsbD F.LINK_TILE_STAT_REVERSED.lo }
      else if a.opcode == Op.imageActivate.code && a.status != 0 && s.dev.img.rollout.any fun x => x.1 == some t then s.dev.endRollout
      else s.dev
    State.relaySettle { s with dev := d.relayAnswer r t a } r.ident
  | none =>
    if a.opcode == Op.txnCommit.code && a.seq == 0 then
      let w := nth a.payload 0 0
      let orig := Word.field w 16 4
      let n := (nth a.payload 1 0).toNat
      if Word.field w 0 2 = 0 then { s with dev := s.dev.prepareAnswer t.1 t.2 orig a.txn n a.status (a.payload.drop 2) }
      else { s with dev := s.dev.applyAnswer t.1 t.2 orig a.txn n }
    else s

/-- The stream of an end reaches a position: the loop is closed, or the position lies before its first cut (R281). -/
def Dev.endReaches (d : Dev) (k e pos : Nat) : Bool :=
  d.bit (F.LINK_LOOP_STAT_CLOSED k) || (decide (pos ≤ d.get (F.LINK_LOOP_STAT_CUT_AFTER k)) == (e == 0))

/-- An event packet of a tile (R74): to the sender's subscribers, and what the sender itself learns from it (R198, R279, R281, R283).
`e` is the end by which it came.
DEDUCED (unsafe): log 107. -/
def Dev.tileEvent (d : Dev) (t : Nat × Nat) (e : Nat) (ws : List Word) : Dev :=
  match EvCode.ofCode (Word.field (nth ws 0 0) 0 16) with
  | none => d
  | some code =>
    let d := (d.subscribers code).foldl (fun d o => d.deliverEvent o ws) d
    let w2 := nth ws 5 0
    let w3 := nth ws 6 0
    let cause := Word.field w3 0 8
    let idx := Word.field w3 8 8
    match code with
    | .link =>
      if cause = 0x01 then d.loopCut t.1 (if e = 0 then t.2 else t.2 + 127)
      else if cause = 0x03 then
        let rev := ((d.tileRec t.1 t.2).map (·.reversed)).getD false
        let faces := if rev then 1 - idx else idx
        ((d.loopEnds t.1).filter fun x => x.1 == faces && d.endReaches t.1 faces t.2).foldl (fun d x => d.onPort x.2 fun p => { p with slow := true }) d
      else d
    | .tile =>
      let d := if cause = 0x08 then d.onTileRec t.1 t.2 fun x => { x with keyed := false } else d
      if cause = 0x06 || cause = 0x07 || cause = 0x08 then
        d.onTileRec t.1 t.2 fun x => { x with reversed := w2.getLsbD F.LINK_TILE_STAT_REVERSED.lo }
      else d
    | .picture =>
      if cause = 0x09 && decide (idx < 16) then (d.raiseFlag (F.COMPOSE_SREC_STAT_CHAIN_FAIL idx)).raiseFlag F.COMPOSE_STAT_CHECK_FAIL else d
    | _ => d

/-- An item a tile sent, whole: replies and events; the answers to ENUM and KEY have rows of their own. -/
def State.takeReply (s : State) (t : Nat × Nat) (e : Nat) (i : Item) : State :=
  if i.code != 0x10 then s
  else
    let h := Head.ofWord (nth i.body 0 0)
    let ws := i.body.take (h.len + 4)
    if h.kind = 1 then s.tileReply t ws
    else if h.kind = 2 then { s with dev := s.dev.tileEvent t e ws }
    else s

/-- The first good copy of a REPLY parcel within 1 s is kept, by position and reply counter (R268). -/
def Dev.firstCopy (d : Dev) (k pos cnt : Nat) : Option Dev :=
  let l := (d.loopSt k).replies.filter fun r => decide (d.now < r.2.2 + sPs)
  if l.any fun r => r.1 == pos && r.2.1 == cnt then none
  else some (d.onLoop k fun x => { x with replies := (pos, cnt, d.now) :: l })

/-- The port by which items of a loop's tiles are reassembled, whichever end they come to. -/
def Dev.replyPort (d : Dev) (k : Nat) : Nat := ((d.loopEnds k).map (·.2)).headD 0

/-- A REPLY parcel of a loop at the sender that handles it. -/
def State.replyParcel (s : State) (k e pos cnt : Nat) (payload : List Word) : State :=
  match s.dev.firstCopy k pos cnt with
  | none => s
  | some d =>
    let r := d.addFragment (d.replyPort k) (some pos) payload
    let s : State := { s with dev := r.1 }
    match r.2 with
    | some i => s.takeReply (k, pos) e i
    | none => s

/-- Words 0 to 30 of a REPLY parcel.
DEDUCED (unsafe): log 63. -/
def Dev.replyWords (d : Dev) (k pos cnt : Nat) (payload : List Word) : List Word :=
  parcelWords ⟨ptReply, false, 0, pos + cnt % 2 ^ 17 * 128, d.parcelFrame, d.senderNo, k, 0⟩ payload

/-- A standby passes on a REPLY parcel of its own end, or holds up to 256 while the pair link is down (R299). -/
def Dev.standbyReply (d : Dev) (k pos cnt : Nat) (payload : List Word) : Dev :=
  let ws := d.replyWords k pos cnt payload
  if d.pairUp then d.pairItem 0x26 ws
  else d.onTwin fun t => { t with held := if t.held.length < 256 then t.held ++ [(k, ws)] else t.held }

/-- REPLY_PARCEL_RX (R268, R299): words 1 to 30 of a REPLY parcel at an end, its position and reply counter. A former holder still
takes the answers to its own relays for 1 s (R306). -/
def execReplyParcelRx (port : Fin 8) (pos cnt : Nat) (payload : List Word) (s : State) : Host.Outcome State Fault Refusal :=
  let d := s.dev
  match d.portLoop port.val with
  | none => .next s
  | some (k, e) =>
    if !d.isSender || !d.linkRuns || !d.portActive port.val then .next s
    else if d.isStandby then
      let s : State := { s with dev := d.standbyReply k pos cnt payload }
      .next (if d.twin.formerUntil.any fun t => d.now < t then s.replyParcel k e pos cnt payload else s)
    else .next (s.replyParcel k e pos cnt payload)

/-- RELAY_REPLY_TIMEOUT (R67, R526): a tile has not replied within 20 ms, or 200 ms at col rate; the sender answers E_TIMEOUT for it. -/
def execRelayReplyTimeout (loop pos orig seq : Nat) (s : State) : Host.Outcome State Fault Refusal :=
  let d := s.dev
  let t := (loop, pos)
  match d.host.relays.find? fun r => r.loop == loop && r.orig == orig && r.seq == seq && r.waiting.contains t with
  | none => .next s
  | some r =>
    let d := (d.relayParts r.ident).foldl (fun d x => if x.waiting.contains t then d.onRelay x fun y => y.heard t none else d) d
    let d := if r.own then (if r.isFull then d else d.ownRefused r t Status.timeout.code 0 [])
      else if 10 ≤ r.orig then d
      else d.replyFrom r.cmd (d.tileAddr t) Status.timeout.code 0 r.bcast []
    .next (State.relaySettle { s with dev := d } r.ident)

end Sys2Proof.Machine
end

