-- ==== Sys2Proof/Machine/Images.lean ====
section
/-!
DEFINITION. Image commands and events (R452 to R479, R518, R520): loading, checking and activating images, attestation, data images
that load after boot.
-/
namespace Sys2Proof.Machine

open Sys2Proof

/-! ### IMAGE_LOAD (R452, R464, R473) -/

/-- Fields of the payload word of IMAGE_VERIFY and IMAGE_ACTIVATE: slot, class, the flag in bit 16. -/
def imgWord (w : Word) : Nat × Nat × Bool := (Word.field w 0 1, Word.field w 8 8, w.getLsbD 16)

/-- Why a load is refused before its header is seen.
DEDUCED (unsafe): log 113. -/
def Dev.loadRefusal (d : Dev) (c slot : Nat) : Option Status :=
  if !classKnown c then some .range
  else if c = icTables then some .perm
  -- the stills of SLATE are for INGEST, which this variant lacks
  else if c = icSlate && !d.variant.full then some .absent
  else if !d.classRole c then some .role
  else
    let k := d.cls c
    if k.active == some slot || k.pending == some slot || d.img.jobs.any fun j => j.cls == c && !j.recheck then some .busy else none

/-- What the header of a load says: why it is refused, or the block to write from; none where the image is there already (R473). -/
def Dev.judgeLoad (d : Dev) (c slot bytes : Nat) (ws : List Word) : Except (Status × Nat) (Option Nat) :=
  let x := (d.cls c).slot slot
  let same := x.words.take 16 == ws.take 16
  if bytes != 8 * imgWords (isCode c) (imgBlocks ws) || x.size < bytes then .error (.range, 0)
  else if !headerRules c ws || !d.admits ws then .error (.invalid, 0x0484)
  else if same && (x.state == isLoaded || x.state == isVerified) then .ok none
  else .ok (some (if same && x.state == isLoading then x.done else 0))

/-- A load is taken in: the slot reads LOADING. -/
def Dev.startLoad (d : Dev) (c slot start : Nat) (ws : List Word) : Dev :=
  d.onClass c fun k => { k with
    last := slot
    slots := modifyNth k.slots slot fun x => { x with state := isLoading, words := ws, done := start, hashOk := false, sigOk := false, failBlock := 0 } }

/-- IMAGE_LOAD of the device's own: the image is in its DRAM. -/
def State.loadHere (s : State) (c slot src bytes : Nat) : State × Answer :=
  let d := s.dev
  let ws := memWords s.mem src (bytes / 8)
  match d.judgeLoad c slot bytes ws with
  | .error e => (s, .now e.1 e.2 [])
  | .ok none => (s, .ok [0])
  | .ok (some start) =>
    let d := (d.startLoad c slot start ws).onImg fun i => { i with jobs := i.jobs ++ [⟨c, slot, false, (src, bytes), false, ws, none⟩] }
    ({ s with dev := d }, .ok [Word.of (imgBlocks ws - start)])

/-- The transfer of an image to the tiles of a loop, as IMAGE items of up to 28 words. -/
def Dev.sendImageWords (d : Dev) (k c : Nat) (ws : List Word) : Dev :=
  let parts := chunksOf 28 (ws.length / 28 + 1) ws
  (List.range parts.length).foldl (fun d i =>
    let p := nth parts i []
    d.loopItem k 0x0B (Word.pack [(0, 32, 28 * i), (32, 8, p.length), (40, 8, c)] :: p)) d

/-- The block of an image at an address that a burst of it lies in. -/
def imgBlockAt (src b : Nat) (ws : List Word) : Nat := (b - (src + 8 * (16 + imgTableWords (imgBlocks ws)))) / 4096

/-- IMAGE_LOAD to tiles: the command is relayed and the image follows it, header and check table first. A poisoned burst of the source
fails the load before anything is sent (R135).
DEDUCED (unsafe): log 104. -/
def State.loadThere (s : State) (q : QCmd) (t : Target) (c slot src bytes : Nat) : State × Answer :=
  let d := s.dev
  match d.relayRefusal t, d.poisonIn 17 src bytes with
  | some st, _ => (s, .refuse st)
  | none, some b =>
    ({ s with dev := (d.clearPoison 17).eventImage 0x02 c slot irBlock (imgBlockAt src b (memWords s.mem src (bytes / 8))) .warning },
      .now .invalid 0x0200 [Word.of b])
  | none, none =>
    let ws := memWords s.mem src (bytes / 8)
    let ident := d.host.relayIds
    let d := d.relay q t false
    let d := (d.targetLoops t).foldl (fun d k => d.sendImageWords k c ws) d
    let d := if c = icFw then d.onImg fun i => { i with transferred := ws.take 16 :: i.transferred } else d
    if (d.targetTiles t).isEmpty then ({ s with dev := d.dropRelay ident }, .ok [0]) else ({ s with dev := d }, .later)

/-- IMAGE_LOAD. -/
def bodyImageLoad (s : State) (q : QCmd) : State × Answer :=
  let d := s.dev
  let slot := Word.field (nth q.payload 0 0) 0 1
  let c := Word.field (nth q.payload 1 0) 0 8
  let src := (nth q.payload 2 0).toNat
  let bytes := (nth q.payload 3 0).toNat
  let t := Target.ofNat q.target
  let away := d.isSender && t.scope != 0
  if d.isTile && q.orig = 9 then
    match d.loadRefusal c slot with
    | some st => (s, .refuse st)
    | none => ({ s with dev := d.onImg fun i => { i with jobs := i.jobs ++ [⟨c, slot, false, (0, 0), true, [], some q⟩] } }, .later)
  else if src % 64 ≠ 0 || bytes % 8 ≠ 0 then (s, .refuse .range)
  else match d.memRefusal src bytes with
    | some st => (s, .refuse st)
    | none =>
      if away then s.loadThere q t c slot src bytes
      else match d.loadRefusal c slot with
        | some st => (s, .refuse st)
        | none => s.loadHere c slot src bytes

/-- IMAGE_LOAD as a command. -/
def execImageLoad (h : Hdr) (slot cls : Word) (src bytes : Nat) (s : State) :=
  runRow h .imageLoad [slot, cls, Word.of src, Word.of bytes] bodyImageLoad s

/-- Changes the relayed load of a class. -/
def Dev.onGather (d : Dev) (c : Nat) (f : ImgJob → Option ImgJob) : Dev :=
  d.onImg fun i => { i with jobs := i.jobs.filterMap fun j => if j.cls == c && j.relayed && !j.recheck then f j else some j }

/-- Header and check table of a relayed load are in: the tile answers from them. -/
def Dev.gathered (d : Dev) (j : ImgJob) (q : QCmd) : Dev :=
  match d.judgeLoad j.cls j.slot (nth q.payload 3 0).toNat j.words with
  | .error e => (d.onGather j.cls fun _ => none).reply q e.1 e.2 []
  | .ok none => (d.onGather j.cls fun _ => none).reply q .ok 0 [0]
  | .ok (some start) =>
    ((d.startLoad j.cls j.slot start j.words).onGather j.cls fun _ => some { j with cmd := none }).reply q .ok 0
      [Word.of (imgBlocks j.words - start)]

/-- IMAGE_ITEM_RX (R464): words of a relayed image, from an offset. -/
def execImageItemRx (end_ : Fin 2) (off cls : Nat) (words : List Word) (s : State) : Host.Outcome State Fault Refusal :=
  let _ := end_
  s.onDev fun d =>
    match d.img.jobs.find? fun j => j.cls == cls && j.relayed && !j.recheck with
    | none => d
    | some j =>
      if !d.isTile || j.words.length < off then d
      else
        let ws := j.words.take off ++ words ++ j.words.drop (off + words.length)
        let j := { j with words := if 16 ≤ ws.length then ws.take (imgWords (isCode cls) (imgBlocks ws)) else ws }
        let d := d.onGather cls fun _ => some j
        match j.cmd with
        | some q => if 16 ≤ j.words.length && 16 + imgTableWords (imgBlocks j.words) ≤ j.words.length then d.gathered j q else d
        | none => d.onSlot cls j.slot fun x => { x with words := j.words }

/-- IMAGE_LOAD_DONE (R464): writing and checking end; `flashOk` is the outcome of the flash, the others that of the cryptographic checks.
A poisoned burst of the source counts as a failed block check (R135).
DEDUCED (unsafe): log 41. -/
def execImageLoadDone (cls : Nat) (flashOk hashOk sigOk : Bool) (s : State) : Host.Outcome State Fault Refusal :=
  let d := s.dev
  match d.img.jobs.find? fun j => j.cls == cls && !j.recheck && j.cmd.isNone with
  | none => .next s
  | some j =>
    let bad := d.poisonIn 17 j.src.1 j.src.2
    let d := (d.onImg fun i => { i with jobs := i.jobs.filter fun x => x != j }).onMc fun m =>
      { m with poisoned := m.poisoned.filter fun b => !(b.1 == 17 && overlaps j.src.1 j.src.2 b.2 64) }
    let r := if !flashOk || j.words.length < imgWords (isCode cls) (imgBlocks j.words) then (irFlash, 0)
      else if bad.isSome then (irBlock, imgBlockAt j.src.1 (bad.getD 0) j.words)
      else if isCode cls then checkImage d s.otp cls j.words hashOk sigOk else (0, 0)
    if r.1 = 0 then
      let d := d.onSlot cls j.slot fun x => { x with
        state := if isCode cls then isVerified else isLoaded, words := j.words, done := imgBlocks j.words, reason := 0, failBlock := 0
        hashOk := hashOk, sigOk := sigOk }
      .next { s with dev := d.eventImage 0x01 cls j.slot 0 0 .info }
    else .next { s with dev := (d.failSlot cls j.slot r.1 r.2).eventImage 0x02 cls j.slot r.1 r.2 .warning }

/-! ### IMAGE_VERIFY (R465) -/

/-- IMAGE_VERIFY.
DEDUCED (unsafe): log 104. -/
def bodyImageVerify (s : State) (q : QCmd) : State × Answer :=
  let d := s.dev
  let (slot, c, again) := imgWord (nth q.payload 0 0)
  if !classKnown c then (s, .refuse .range)
  else if !d.classRole c then (s, .refuse .role)
  else if again && !isCode c then (s, .now .invalid 0x0485 [])
  else
    let x := (d.cls c).slot slot
    let whole := x.state == isLoaded || x.state == isVerified || x.state == isBad
    if again && (d.img.jobs.any fun j => j.cls == c) then (s, .refuse .busy)
    else if again && !whole then (s, .refuse .state)
    else
      let d := if again then
          (d.onSlot c slot fun x => { x with checking := true }).onImg fun i => { i with jobs := i.jobs ++ [⟨c, slot, true, (0, 0), false, [], none⟩] }
        else d
      let k := d.cls c
      let x := k.slot slot
      ({ s with dev := d }, .ok [Word.pack [(0, 3, k.shown slot), (8, 8, x.reason), (16, 32, x.failBlock)],
        if x.state == isEmpty then 0 else imgVersion x.words])

/-- IMAGE_VERIFY as a command. -/
def execImageVerify (h : Hdr) (w : Word) (s : State) := runRow h .imageVerify [w] bodyImageVerify s

/-- IMAGE_RECHECK_DONE (R465). -/
def execImageRecheckDone (cls : Nat) (hashOk sigOk : Bool) (s : State) : Host.Outcome State Fault Refusal :=
  let d := s.dev
  match d.img.jobs.find? fun j => j.cls == cls && j.recheck with
  | none => .next s
  | some j =>
    let d := (d.onImg fun i => { i with jobs := i.jobs.filter fun x => x != j }).onSlot cls j.slot fun x =>
      { x with checking := false, hashOk := hashOk, sigOk := sigOk }
    let r := checkImage d s.otp cls ((d.cls cls).slot j.slot).words hashOk sigOk
    if r.1 = 0 then
      let d := d.onSlot cls j.slot fun x => { x with state := isVerified, reason := 0, failBlock := 0 }
      .next { s with dev := d.eventImage 0x03 cls j.slot 0 0 .info }
    else .next { s with dev := (d.failSlot cls j.slot r.1 r.2).eventImage 0x04 cls j.slot r.1 r.2 .warning }

/-! ### IMAGE_ACTIVATE (R466, R467, R471, R472) -/

/-- Every enumerated tile of a sender is compatible with a CTRL_FW image (R471). -/
def Dev.tilesFit (d : Dev) (ws : List Word) : Bool :=
  (List.range d.loops).all fun k => (d.loopSt k).tiles.all fun t => t.left || compatible (nth ws 1 0) (nth ws 4 0) t.fwVer t.fwWin

/-- The image and the twin partner's firmware lie in each other's PAIR windows (R471): the partner's version is the one of its report, where
it gave one; no message brings its window.
DESIGN CHOICE (unsafe): log 76. -/
def Dev.partnerFits (d : Dev) (ws : List Word) : Bool :=
  (d.twin.partnerFw == 0 || Machine.inWindow (nth ws 6 0) d.twin.partnerFw) && Config.partnerFits d.free (nth ws 1 0)

/-- Why an activation of the device's own image is refused, in the table's order.
DESIGN CHOICE (unsafe): log 76.
DEDUCED (unsafe): log 104. -/
def activateRefusal (d : Dev) (o : Otp) (c slot : Nat) (reset : Bool) : Option (Status × Nat) :=
  let x := (d.cls c).slot slot
  let ws := x.words
  if x.checking || x.state != (if isCode c then isVerified else isLoaded) then some (.state, 0x0486)
  else if isCode c && (decide (imgSvn ws < minSvn o c) || !keyOk o c ws) then some (.auth, 0)
  else if c = icFw && d.isSender &&
      (!d.tilesFit ws || (d.pairUp && !d.partnerFits ws)) then some (.invalid, 0x0480)
  else if d.isSender && reset && d.img.rollout.isSome then some (.busy, 0x0481)
  else if c = icLprog then (lprogCheck (bodyWords ws) (imgBytes ws)).map fun detail => (.invalid, detail)
  else none

/-- The boot record marks a slot pending; the active slot clears what is pending. -/
def Dev.markPending (d : Dev) (c slot : Nat) : Dev :=
  d.onClass c fun k => { k with pending := if k.active == some slot then none else some slot, trials := 0 }

/-- The activation of the device's own image, with its reset. -/
def State.activateHere (s : State) (q : QCmd) (c slot : Nat) (reset : Bool) : State × Answer :=
  let d := s.dev
  let active := (d.cls c).active == some slot
  match (if active then none else activateRefusal d s.otp c slot reset) with
  | some e => ({ s with dev := d.draw }, .now e.1 e.2 [])
  | none =>
    let d := d.draw.markPending c slot
    if reset then
      let d := if d.isSender then d.set F.CTRL_BOOT_STAT_ROLL_SELF 1 else d.ledgerMark
      (State.resetByCommand { s with dev := d.reply q .ok 0 [] }, .nothing)
    else ({ s with dev := d }, .ok [])

/-- The activation of tiles' images, relayed (R466, R471, R472). -/
def State.activateThere (s : State) (q : QCmd) (t : Target) (c : Nat) (reset : Bool) : State × Answer :=
  let d := s.dev
  let fw := d.img.fwHeader
  let ts := d.targetTiles t
  match d.relayRefusal t with
  | some st => (s, .refuse st)
  | none =>
    let fits (h : List Word) : Bool := compatible (nth fw 1 0) (nth fw 4 0) (nth h 1 0) (nth h 5 0)
    if c = icFw && (d.img.transferred.head?).any (fun h => !fits h) then (s, .now .invalid 0x0480 [])
    else if reset && (d.img.rollout.isSome || decide (1 < ts.length)) then (s, .now .busy 0x0481 [])
    else if reset && (d.targetLoops t).any fun k => !d.bit (F.LINK_LOOP_STAT_CLOSED k) then (s, .now .state 0x0482 [])
    else if c = icFw && d.img.transferred.isEmpty then (s, .now .invalid 0x0483 [])
    else
      let ident := d.host.relayIds
      let d := d.relay q t false
      let d := match (if reset then ts.head? else none) with
        | some x => (d.onImg fun i => { i with rollout := some (some x, d.now) }).setAll
            [(F.CTRL_BOOT_STAT_ROLL_POS, x.2), (F.CTRL_BOOT_STAT_ROLL_LOOP, x.1), (F.CTRL_BOOT_STAT_ROLL_SELF, 0)]
        | none => d
      if ts.isEmpty then ({ s with dev := d.dropRelay ident }, .ok [0]) else ({ s with dev := d }, .later)

/-- IMAGE_ACTIVATE.
DEDUCED (unsafe): log 105. -/
def bodyImageActivate (s : State) (q : QCmd) : State × Answer :=
  let d := s.dev
  let (slot, c, reset) := imgWord (nth q.payload 0 0)
  let t := Target.ofNat q.target
  if !classKnown c then (s, .refuse .range)
  else if d.isSender && t.scope != 0 then s.activateThere q t c reset
  else if !d.classRole c then (s, .refuse .role)
  else if d.img.jobs.any fun j => j.cls == c && !j.recheck then (s, .refuse .busy)
  else s.activateHere q c slot reset

/-- IMAGE_ACTIVATE as a command. -/
def execImageActivate (h : Hdr) (w : Word) (s : State) := runRow h .imageActivate [w] bodyImageActivate s

/-- ROLLOUT_STALL (R472): 10 s without a rejoin. -/
def execRolloutStall (s : State) : Host.Outcome State Fault Refusal :=
  s.onDev fun d =>
    if d.img.rollout.isSome then
      (d.raiseFlag F.CTRL_BOOT_STAT_STALL).eventImage 0x09 icFw ((d.cls icFw).active.getD 0) 0 0 .warning
    else d

/-- ROLLOUT_END (R472): the device has rejoined with its trial confirmed, or 60 s have passed. -/
def execRolloutEnd (s : State) : Host.Outcome State Fault Refusal := s.onDev fun d => if d.img.rollout.isSome then d.endRollout else d

/-! ### ATTEST (R475, R477) -/

/-- ATTEST: a report over the nonce. -/
def bodyAttest (s : State) (q : QCmd) : State × Answer :=
  match s.report (q.payload.take 4) [] with
  | some r => (r.1, .ok r.2)
  | none => (s, .now .state 0x0487 [])

/-- ATTEST as a command. -/
def execAttest (h : Hdr) (n0 n1 n2 n3 : Word) (s : State) := runRow h .attest [n0, n1, n2, n3] bodyAttest s

/-! ### Data images after boot (R463, R468, R520) -/

/-- The frames of a SLATE body go to DRAM.
DEDUCED (unsafe): log 105. -/
def State.placeSlate (s : State) (body : List Word) : State :=
  let a := (nth body 0 0).toNat
  let n := (nth body 1 0).toNat
  if a % 4096 = 0 && s.dev.memRefusal a n == none then
    { s with mem := memPutBytes s.mem a (((body.drop 2).flatMap Word.bytes).take n), dev := s.dev.stored a n }
  else s

/-- A tile takes its TABLES image.
DEDUCED (unsafe): log 105. -/
def Dev.takeTables (d : Dev) (ws : List Word) : Dev :=
  let d := d.setAll [(F.LAMP_TBL_EPOCH_EPOCH, imgEpoch ws), (F.LAMP_TBL_EPOCH_FLASH_EPOCH, imgEpoch ws)]
  let d := (d.loadTables (bodyWords ws)).factorsBoot
  if d.isTile then d.tileLoads.refreshKload else d

/-- DATA_IMAGE_LOAD_DONE (R468): SLATE on a sender or TABLES on a tile is in, its blocks checked as they were read.
DEDUCED (unsafe): log 105. -/
def execDataImageLoadDone (cls : Nat) (s : State) : Host.Outcome State Fault Refusal :=
  let d := s.dev
  if d.boot != .up || !(if d.isTile then cls == icTables && !d.img.tablesLoaded else cls == icSlate) then .next s
  else
    let d := d.useLate s.otp cls
    let d := if cls = icTables then d.onImg fun i => { i with tablesLoaded := true } else d
    match d.inUse cls with
    | none => .next { s with dev := d.refreshWhyTables }
    | some ws => if cls = icTables then .next { s with dev := d.takeTables ws } else .next (State.placeSlate { s with dev := d } (bodyWords ws))

/-- The calibration database as CALDB and the records in flash give it.
DEDUCED (unsafe): log 67. -/
def dbOf (body : List Word) (epoch : Nat) (records : List (Nat × Nat × Word × Word × Nat)) : List DbPos :=
  let rs := caldbRecords body.length body
  let keys := ((rs.map fun r => (r.1, r.2.1)) ++ records.map fun r => (r.1, r.2.1)).eraseDups
  keys.map fun k =>
    let cs := (rs.filter fun r => r.1 == k.1 && r.2.1 == k.2).map fun r => (r.2.2.1, r.2.2.2)
    match records.find? fun r => r.1 == k.1 && r.2.1 == k.2 with
    | some r => ⟨k.1, k.2, r.2.2.1, r.2.2.2.1, r.2.2.2.2, cs⟩
    | none => ⟨k.1, k.2, 0, 0, epoch, cs⟩

/-- CALDB_LOAD_DONE (R520): the deferred judgements run. -/
def execCaldbLoadDone (s : State) : Host.Outcome State Fault Refusal :=
  let d := s.dev
  if d.boot != .up || d.isTile || d.img.caldbLoaded then .next s
  else
    let d := d.useLate s.otp icCaldb
    match d.inUse icCaldb with
    | none => .next { s with dev := d }
    | some ws =>
      let db := dbOf (bodyWords ws) (imgEpoch ws) d.flash.records
      let d := (d.onLink fun l => { l with db := db }).onImg fun i => { i with caldbLoaded := true }
      .next { s with dev := (List.range d.loops).foldl (fun d k => d.judgeLoop k (d.positions k)) d }

/-- TILE_FULL_CATCHUP (R518): the WHY_ fields of a tile left behind have cleared; a sender in full service commits FULL on it. -/
def execTileFullCatchup (loop pos : Nat) (s : State) : Host.Outcome State Fault Refusal :=
  s.onDev fun d =>
    if d.isSender && d.hasToken && d.service == 2 && d.loopRuns loop && (d.tileRec loop pos).any fun t => !t.full then d.commitFull loop pos else d

end Sys2Proof.Machine
end

