-- ==== Sys2Proof/Machine/TwinRows.lean ====
section
/-!
DEFINITION. Twin senders (R291 to R311): the lease, the token, mirrors, selections, digests, the items of the pair link; and what a
tile makes of a LEASE.
-/
namespace Sys2Proof.Machine

open Sys2Proof

/-- EV_TOKEN of this sender (R310). -/
def Dev.tokenEvent (d : Dev) (cause : Nat) (sev : Severity) (more : List Word := []) : Dev := d.eventToken d.uid cause sev more

/-! ### Sending the lease (R300, R302, R306) -/

/-- The body of the LEASE a sender sends: its own, or at a standby the holder's as last heard. Bit 35 says whether the holder is the
preferred sender of the two.
DEDUCED (unsafe): log 75. -/
def Dev.leaseWords (d : Dev) : List Word :=
  let own := d.hasToken
  let isB := d.role == .senderB
  let pref := if own then d.bit F.CTRL_PAIR_STAT_PREF else !d.bit F.CTRL_PAIR_STAT_PREF
  let uid := if own then d.uid else (d.twin.partnerLo, d.twin.partnerHi)
  [Word.pack [(0, 32, d.get F.CTRL_PAIR_TERM_TERM), (32, 1, d.isTwin.toNat), (33, 1, (isB == own).toNat), (34, 1, d.twin.yieldAt.isSome.toNat),
     (35, 1, pref.toNat)],
   Word.of (d.twin.yieldAt.getD 0),
   Word.pack [(0, 32, if own then d.get F.CTRL_PAIR_TERM_MIRROR_EPOCH else d.twin.partnerEpoch), (32, 32, d.twin.renewals)], uid.1, uid.2]

/-- A standby still hears its holder: its lease has not expired (R301). -/
def Dev.leaseFresh (d : Dev) : Bool := d.twin.renewed.any fun t => decide (d.now < t + 50 * msPs)

/-- A LEASE leaves on the pair link and every running loop (R300). A sender in the safe state sends no CTRL (R438). -/
def Dev.sendLease (d : Dev) : Dev :=
  if !d.isSender || d.boot != .up || !d.linkRuns || d.safeNow || !(d.hasToken || (d.pairState == psStandby && d.leaseFresh)) then d
  else
    let body := d.leaseWords
    let d := if d.pairUp then d.pairItem 0x08 body else d
    let d := ((List.range d.loops).filter d.loopRuns).foldl (fun d k => d.loopItem k 0x08 body) d
    if d.hasToken then d.onTwin fun t => { t with renewals := (t.renewals + 1) % 2 ^ 32 } else d

/-- A commit that holds tile writes is pending (R306). -/
def Dev.tileCommitPending (d : Dev) : Bool := d.commits.any fun c => !c.tiles.isEmpty

/-- A handover starts (R306): the first frame whose latch is at least 2 ms ahead is named, on every path.
DEDUCED (unsafe): log 77. -/
def Dev.startYield (d : Dev) (cmd : Option QCmd) : Dev :=
  let n := d.frameFrom (d.time.wall + 2000000 * nsU + d.saddleNow * 10737418240) + 2
  (d.onTwin fun t => { t with yieldAt := some n, yieldCmd := cmd, asked := false }).sendLease

/-- A token asked for passes once nothing stands in the way (R307). -/
def Dev.answerAsked (d : Dev) : Dev :=
  if d.twin.asked && d.pairState == psHolder && d.twin.yieldAt.isNone && d.pairUp && !d.tileCommitPending then d.startYield none else d

/-- LEASE_SEND: 10 ms have passed. -/
def execLeaseSend (s : State) : Host.Outcome State Fault Refusal := s.onDev fun d => d.answerAsked.sendLease

/-! ### Receiving the lease (R293, R297, R301 to R303) -/

/-- Both straps read the same (R293): the device strapped SENDER acts as the preferred sender. -/
def Dev.prefJudge (d : Dev) (own pref : Bool) : Dev :=
  let mine := d.bit F.CTRL_PAIR_STAT_PREF
  if (if own then pref == mine else pref != mine) then d
  else
    let d := d.setBit F.CTRL_PAIR_STAT_PREF (d.role == .sender)
    if d.twin.prefClash then d
    else ((d.raiseFlag F.CTRL_PAIR_STAT_PREF_CONFLICT).onTwin fun t => { t with prefClash := true }).tokenEvent 0x0A .warning

/-- IN_SYNC at a standby follows the mirror epochs (R295, R310).
DEDUCED (unsafe): log 78. -/
def Dev.syncJudge (d : Dev) : Dev :=
  let agree := d.twin.partnerEpoch == d.get F.CTRL_PAIR_TERM_MIRROR_EPOCH
  let was := d.bit F.CTRL_PAIR_STAT_IN_SYNC
  if !agree then d.set F.CTRL_PAIR_STAT_IN_SYNC 0
  else if was || d.twin.resync then d
  else (d.set F.CTRL_PAIR_STAT_IN_SYNC 1).tokenEvent 0x0C .info

/-- A standby's mute follows a LEASE (R297): epochs that differ, or a LEASE over a loop while the pair link is down. -/
def Dev.muteJudge (d : Dev) (viaPair : Bool) : Dev :=
  let agree := d.twin.partnerEpoch == d.get F.CTRL_PAIR_TERM_MIRROR_EPOCH
  if !d.bit F.CTRL_PAIR_CFG_MUTE_EN then d
  else if !d.pairUp && !viaPair then (d.setMuted true).onTwin fun t => { t with muteLink := true, unmute := false }
  else if !agree then (d.setMuted true).onTwin fun t => { t with unmute := false }
  else if d.twin.muteLink && d.pairUp then d.onTwin fun t => { t with unmute := d.bit F.CTRL_PAIR_STAT_MUTED, muteLink := false }
  else d

/-- A standby renews its lease (R301). -/
def Dev.renew (d : Dev) (term n epoch renewals : Nat) (yielding : Bool) (uid : Word × Word) (viaPair : Bool) : Dev :=
  let d := (d.set F.CTRL_PAIR_TERM_TERM term).onTwin fun t => { t with
    renewed := some d.now, renewals := renewals, partnerLo := uid.1, partnerHi := uid.2, partnerEpoch := epoch
    yieldAt := if yielding then some n else none }
  d.syncJudge.muteJudge viaPair

/-- The device becomes the standby (R302, R306). Its time comes from its partner now (R327). -/
def Dev.becomeStandby (d : Dev) : Dev :=
  ((d.set F.CTRL_PAIR_STAT_STATE psStandby).onTwin fun t => { t with
    yieldAt := none, asked := false, renewed := some d.now, diverging := 0, matching := 0 }).refreshSource

/-- A LEASE at a sender of a pair.
DEDUCED (unsafe): log 78. -/
def Dev.leaseAtSender (d : Dev) (port term : Nat) (yielding pref : Bool) (n epoch renewals : Nat) (uid : Word × Word) : Dev :=
  let own := uid == d.uid
  let viaPair := port == d.pairPort
  let d := d.prefJudge own pref
  if own then d
  else if d.pairState = psSeeking then d.becomeStandby.renew term n epoch renewals yielding uid viaPair
  else if d.pairState = psStandby then
    let known := (d.twin.partnerLo == 0 && d.twin.partnerHi == 0) || uid == (d.twin.partnerLo, d.twin.partnerHi)
    if known && decide (d.get F.CTRL_PAIR_TERM_TERM ≤ term) then d.renew term n epoch renewals yielding uid viaPair else d
  else if d.pairState = psHolder then
    let mine := d.get F.CTRL_PAIR_TERM_TERM
    if mine < term || (mine = term && !d.bit F.CTRL_PAIR_STAT_PREF) then
      -- DUAL_HOLDER: it yields at once
      let d := ((d.raiseFlag F.CTRL_PAIR_STAT_DUAL_HOLDER).tokenEvent 0x08 .fault).rollbackAll
      d.becomeStandby.renew term n epoch renewals yielding uid viaPair
    else d
  else d

/-- A LEASE at a tile (R303): recorded for the end it comes from; TERM shows the highest accepted. -/
def Dev.leaseAtTile (d : Dev) (port term : Nat) : Dev :=
  let e := d.tileEnd port
  let d := d.onTileLink fun t => { t with leases := modifyNth t.leases e fun _ => some (term, d.now) }
  d.set F.CTRL_PAIR_TERM_TERM (max ((d.leaseOf 0).getD 0) ((d.leaseOf 1).getD 0))

/-- LEASE_RX: the words of R300 but for TWIN. -/
def execLeaseRx (port : Fin 8) (term : Nat) (yielding pref : Bool) (n epoch renewals : Nat) (uidLo uidHi : Word) (s : State) :
    Host.Outcome State Fault Refusal :=
  s.onDev fun d =>
    if d.boot != .up || !d.linkRuns || !d.portActive port.val then d
    else if d.isTile then (if port.val < 2 then d.leaseAtTile port.val (term % 2 ^ 32) else d)
    else if d.isTwin then d.leaseAtSender port.val (term % 2 ^ 32) yielding pref n (epoch % 2 ^ 32) (renewals % 2 ^ 32) (uidLo, uidHi)
    else d

/-- LEASE_EXPIRY (R301): 50 ms after the last renewal. -/
def execLeaseExpiry (s : State) : Host.Outcome State Fault Refusal :=
  s.onDev fun d =>
    if d.isTwin && d.pairState == psStandby && d.boot == .up then (d.raiseFlag F.CTRL_PAIR_STAT_EXPIRED).tokenEvent 0x03 .warning else d

/-! ### Taking the token (R302, R304 to R306) -/

/-- A mirrored commit at a sender that takes the token (R304 step 4): one with tile writes goes on if its decision is held, else it gets
DROP; one without applies at its latch. -/
def Dev.settleMirror (d : Dev) (c : Commit) : Dev :=
  let ts := d.ownTiles
  if c.stage = .mirroring then (d.dropCommit c).txnItem { c with tiles := ts } 2
  else if c.stage = .decided then
    let c := { c with tiles := ts, await := ts }
    (d.putCommit c).txnItem c 1
  else d

/-- The steps of R304: the TERM, the lease, the time source, the mirrored commits, the replies held; a handover drops no commit
(R306). With the state go the commits continued and dropped. -/
def State.takeToken (s : State) (term : Nat) (handover : Bool := false) : State × Nat × Nat :=
  let d := (s.dev.setMuted false).setAll [(F.CTRL_PAIR_STAT_STATE, psHolder), (F.CTRL_PAIR_TERM_TERM, term % 2 ^ 32), (F.TIME_STAT_HOPS, 0)]
  let d := d.onTwin fun t => { t with yieldAt := none, yieldCmd := none, asked := false, formerUntil := none }
  -- a holder follows no side
  let d := (List.range 2).foldl (fun d i => d.setReg (R.TIME_LOOP_SIDE i) (regReset (R.TIME_LOOP_SIDE i))) d
  let d := d.sendLease.refreshSource
  let mirrors := d.commits.filter fun c => decide (16 ≤ c.orig)
  let settled := mirrors.filter fun c => !(handover && c.stage == .mirroring)
  let dropped := (settled.filter fun c => c.stage == .mirroring).length
  let d := settled.foldl Dev.settleMirror d
  let held := d.twin.held
  let d := (List.range d.loops).foldl Dev.loopAdvance (d.onTwin fun t => { t with held := [] })
  let own (k : Nat) : Nat := ((d.loopEnds k).map (·.1)).headD 0
  let s : State := held.foldl (fun s h =>
    let i := (ParcelHead.ofWord (nth h.2 0 0)).index
    s.replyParcel h.1 (own h.1) (i % 128) (i / 128) (h.2.drop 1)) { s with dev := d }
  (s, mirrors.length - dropped, dropped)

/-- A sender of a pair may take the token: it is in neither service state BOOT nor SAFE (R301). -/
def Dev.mayTake (d : Dev) : Bool := d.isTwin && d.boot == .up && !d.safeNow && d.service != 0

/-- TAKEOVER (R301, R304, R305): 70 ms after the last renewal. -/
def execTakeover (s : State) : Host.Outcome State Fault Refusal :=
  if !s.dev.mayTake || s.dev.pairState != psStandby then .next s
  else
    let stale := decide (s.dev.get F.CTRL_PAIR_TERM_MIRROR_EPOCH < s.dev.twin.partnerEpoch)
    let r := s.takeToken (s.dev.get F.CTRL_PAIR_TERM_TERM + 1)
    r.1.onDev fun d =>
      let d := (d.raiseFlag F.CTRL_PAIR_STAT_TAKEOVER).bump F.CTRL_PAIR_CNT_TAKEOVERS
      let d := d.tokenEvent 0x01 .warning [Word.pack [(0, 16, r.2.1), (16, 16, r.2.2)]]
      if stale then (d.raiseFlag F.CTRL_PAIR_STAT_STALE_TAKEOVER).tokenEvent 0x09 .fault else d

/-- SEEK_TIMEOUT (R302): no LEASE has been heard; TERM 1. -/
def execSeekTimeout (s : State) : Host.Outcome State Fault Refusal :=
  if !s.dev.mayTake || s.dev.pairState != psSeeking then .next s else .next (s.takeToken 1).1

/-- HANDOVER on either sender (R306).
DEDUCED (unsafe): log 77. -/
def Dev.handedOver (d : Dev) : Dev :=
  ((d.raiseFlag F.CTRL_PAIR_STAT_HANDOVER).bump F.CTRL_PAIR_CNT_HANDOVERS).tokenEvent 0x02 .info

/-- TOKEN_HANDOVER (R306): at the latch named, the holder becomes the standby and the standby the holder. -/
def execTokenHandover (s : State) : Host.Outcome State Fault Refusal :=
  let d := s.dev
  if !d.isTwin || d.twin.yieldAt.isNone then .next s
  else if d.pairState = psHolder then
    let cmd := d.twin.yieldCmd
    let d := (d.rollbackAll).becomeStandby
    let d := d.onTwin fun t => { t with
      formerUntil := some (d.now + sPs), yieldCmd := none
      partnerLo := d.reg (R.LINK_OVL_PEER d.pairPort), partnerHi := (d.port d.pairPort).peerHi }
    let d := d.handedOver
    .next { s with dev := match cmd with
      | some q => d.reply q .ok 0 []
      | none => d }
  else if d.pairState = psStandby && d.mayTake then
    (s.takeToken (d.get F.CTRL_PAIR_TERM_TERM + 1) true).1.onDev Dev.handedOver
  else .next s

/-- The standby is healthy (R307).
DEDUCED (unsafe): log 77. -/
def Dev.healthy (d : Dev) : Bool :=
  d.service == 2 && d.bit F.CTRL_PAIR_STAT_IN_SYNC && d.pairUp && d.timeState != tsHold &&
  (List.range d.loops).all fun k => (d.loopEnds k).all fun e => decide (lsCol ≤ d.portState e.2)

/-- TOKEN_REQUEST (R307): HOLDOFF_S have passed on a healthy preferred standby, which asks; at the holder the request arrives. The item
that carries it is the model's own. -/
def execTokenRequest (s : State) : Host.Outcome State Fault Refusal :=
  s.onDev fun d =>
    if d.isTwin && d.pairState == psStandby && d.bit F.CTRL_PAIR_STAT_PREF && d.get F.CTRL_PAIR_CFG_HOLDOFF_S != 0 && d.healthy then
      d.pairItem 0x28 [Word.of (d.get F.CTRL_PAIR_TERM_TERM)]
    else if d.isTwin && d.pairState == psHolder && d.pairUp then (d.onTwin fun t => { t with asked := true }).answerAsked
    else d

/-- HANDOVER_RELAY_TIMEOUT (R306): a former holder's relays end with E_TIMEOUT. -/
def execHandoverRelayTimeout (s : State) : Host.Outcome State Fault Refusal :=
  if s.dev.twin.formerUntil.isNone then .next s
  else
    let d := s.dev.onTwin fun t => { t with formerUntil := none }
    let owed := d.host.relays.flatMap fun r => r.waiting.map fun t => (r, t)
    let d := owed.foldl (fun d x =>
      let d := d.onRelay x.1 fun r => r.heard x.2 none
      if x.1.own then d.ownRefused x.1 x.2 Status.timeout.code 0 []
      else if 10 ≤ x.1.orig then d
      else d.replyFrom x.1.cmd (d.tileAddr x.2) Status.timeout.code 0 x.1.bcast []) d
    .next ((owed.map fun x => x.1.ident).eraseDups.foldl State.relaySettle { s with dev := d })

/-! ### TOKEN_STATUS, TOKEN_YIELD -/

/-- When the last renewal came in (R301): a sender's own, or at a tile the newer of its two ends' (R303).
DEDUCED (unsafe): log 19. -/
def Dev.lastRenewal (d : Dev) : Option Nat :=
  if d.isTile then (d.link.tile.leases.filterMap fun x => x.map (·.2)).foldl (fun m t => some (max t (m.getD 0))) none
  else d.twin.renewed

/-- TOKEN_STATUS (R309). Before any renewal its age is a free value: the rule states none.
DEDUCED (unsafe): log 19. -/
def bodyTokenStatus (s : State) (_q : QCmd) : State × Answer :=
  let d := s.dev
  let words (age : Nat) : List Word :=
    [d.reg R.CTRL_PAIR_STAT, d.reg R.CTRL_PAIR_TERM, Word.pack [(0, 16, age), (16, 32, d.twin.partnerEpoch)]]
  if d.hasToken then (s, .ok (words 0))
  else match d.lastRenewal with
    | some t => (s, .ok (words (satTo 0xFFFF ((d.now - t) / msPs))))
    | none => ({ s with dev := d.draw }, .ok (words (Config.noRenewal d.free)))

/-- TOKEN_STATUS as a command. -/
def execTokenStatus (h : Hdr) (s : State) := runRow h .tokenStatus [] bodyTokenStatus s

/-- TOKEN_YIELD (R306): the reply comes with the handover. -/
def bodyTokenYield (s : State) (q : QCmd) : State × Answer :=
  let d := s.dev
  if !d.isTwin then (s, .refuse .role)
  else if d.pairState != psHolder then (s, .refuse .token)
  else if !d.pairUp || !d.bit F.CTRL_PAIR_STAT_IN_SYNC then (s, .refuse .state)
  else if d.tileCommitPending || d.twin.yieldAt.isSome then (s, .refuse .busy)
  else ({ s with dev := d.startYield (some q) }, .later)

/-- TOKEN_YIELD as a command. -/
def execTokenYield (h : Hdr) (s : State) := runRow h .tokenYield [] bodyTokenYield s

/-! ### Mirrors (R295) -/

/-- The mirrored commit a later MIRROR names.
DEDUCED (unsafe): log 75. -/
def Dev.mirrored (d : Dev) (orig txn latch : Nat) : Option Commit :=
  (d.commits.filter fun c => c.orig == 16 + orig && c.txn == txn && (latch == 0 || c.frame == latch)).getLast?

/-- MIRROR_RX: a commit accepted (kind 0), its APPLY decision (1), or its withdrawal (2), with the fields of R294; or a POWER_STATE (3),
its target in `mode` (R311).
DEDUCED (unsafe): log 75. -/
def execMirrorRx (msg kind orig txn mode latch : Nat) (tiles : Bool) (entries : List (Nat × Word)) (s : State) :
    Host.Outcome State Fault Refusal :=
  s.onDev fun d =>
    if !d.pairUp || d.pairState != psStandby then d
    else if kind = 0 then
      let ack (d : Dev) (st : Status) (detail : Nat) : Dev :=
        d.pairItem 0x21 [Word.of msg, Word.pack [(0, 16, st.code), (16, 16, detail), (32, 32, d.get F.CTRL_PAIR_TERM_MIRROR_EPOCH)]]
      let m : CommitMode := if mode = 0 then .saddle else if mode = 1 then .now else .atTime
      let c : Commit := { orig := 16 + orig, opcode := 0, seq := msg, txn := txn, cookie := 0, check := 0, mode := m, converted := false
                          frame := latch, entries := entries, left := entries, stage := if tiles then .mirroring else .queued
                          latches := 0, tiles := [], await := [], missed := 0 }
      match d.validateAt (d.lastSaddle c) entries with
      | some f => ack d f.status f.reason
      | none => ack { d with commits := d.commits ++ [c] } .ok 0
    else if kind = 3 then (if d.powerMoves then d else d.powerGo mode none)
    else match d.mirrored orig txn latch with
      | none => d
      | some c => if kind = 1 then d.putCommit { c with stage := .decided } else d.dropCommit c

/-- MIRROR_ACK_RX: MSG of the MIRROR, STATUS and DETAIL of the standby's validation, its mirror epoch. -/
def execMirrorAckRx (msg status detail epoch : Nat) (s : State) : Host.Outcome State Fault Refusal :=
  s.onDev fun d =>
    if !d.isTwin || d.pairState != psHolder then d
    else
      let d := d.onTwin fun t => { t with partnerEpoch := epoch }
      match d.commits.find? fun c => c.mirror == some msg with
      | none => d
      | some c =>
        if status = Status.ok.code then
          let c' := { c with mirror := none }
          if c.stage = .mirroring then (d.putCommit c').commitOn c' else d.putCommit c'
        else
          let st := (Status.ofCode status).getD .state
          ((d.failCommit c { status := st, reason := detail, tile := 0xFFFFFFFF }).raiseFlag F.CTRL_PAIR_STAT_MIRROR_FAIL).tokenEvent 0x0B .warning

/-- MEMCOPY_RX: mirrored words go to the same address of the standby's DRAM.
DEDUCED (unsafe): log 77. -/
def execMemcopyRx (addr : Nat) (words : List Word) (s : State) : Host.Outcome State Fault Refusal :=
  if s.dev.isStandby && s.dev.pairUp && s.dev.memRefusal addr (8 * words.length) == none then .next (s.writeDram addr (words.flatMap Word.bytes))
  else .next s

/-- MIRROR_RESYNC_DONE (R310): the registers and stills of the holder are at the standby, the mirror epochs agree. `regs` are the mirrored
registers as the standby receives them, `epoch` the holder's mirror epoch. -/
def execMirrorResyncDone (regs : List (Nat × Word)) (epoch : Nat) (s : State) : Host.Outcome State Fault Refusal :=
  s.onDev fun d =>
    if !d.pairUp || !(d.pairState == psHolder || d.pairState == psStandby) then d
    else
      let d := if d.pairState == psStandby then
          (((regs.filter fun e => mirroredReg e.1).foldl Dev.latchEntry d).set F.CTRL_PAIR_TERM_MIRROR_EPOCH epoch).onTwin fun t =>
            { t with partnerEpoch := epoch }
        else d.onTwin fun t => { t with partnerEpoch := d.get F.CTRL_PAIR_TERM_MIRROR_EPOCH }
      ((d.onTwin fun t => { t with resync := false }).set F.CTRL_PAIR_STAT_IN_SYNC 1).tokenEvent 0x0C .info

/-! ### Selections and digests (R296, R297) -/

/-- A selection that came after the latch: the source's frame for frame N and the layers that show it follow the holder's. -/
def Dev.reselect (d : Dev) (n src : Nat) (f : StoredFrame) : Dev :=
  let before := (d.source src).frames.find? fun g => decide (g.serial < f.serial)
  let two := d.enabledLayers.any fun l => d.layerBlends l && d.get (F.LAYER_SRC_SOURCE l) == src
  let picks := (n, f) :: match (if two then before else none) with
    | some g => [(n, g)]
    | none => []
  let d := d.onSource src fun s => { s with last := some f, picks := picks ++ s.picks.filter fun p => p.1 != n }
  match d.compose.next with
  | none => d
  | some set =>
    if set.frame ≠ n then d
    else
      let layers := (List.range 32).map fun l => match nth set.layers l none with
        | some sh => if sh.src == src && !sh.slate then d.sourceShown src n (d.layerBlends l) (d.latchPs n) else some sh
        | none => none
      let areas := layers.filterMap fun x => x.map fun s => (s.base, strideOf s.store s.w * s.h, n)
      d.onCompose fun c => { c with next := some { set with layers := layers }, reading := areas ++ c.reading }

/-- SELECT_RX (R296): N, and for each source the key of the frame selected; the key of the frame before it follows from the first. -/
def execSelectRx (n : Nat) (picks : List (Nat × Nat)) (s : State) : Host.Outcome State Fault Refusal :=
  s.onDev fun d =>
    if !d.pairUp || d.pairState != psStandby then d
    else
      let d := d.onTwin fun t => { t with selects := (n, picks) :: (t.selects.filter fun x => x.1 != n).take 7 }
      if d.compose.next.any fun c => c.frame == n then
        picks.foldl (fun d p => match d.sameFrame p.1 p.2 with
          | some f => if isLive p.1 then d.reselect n p.1 f else d
          | none => d) d
      else d

/-- DIGEST_RX (R297): N, and for each loop the partner's digest and whether its copy was aborted.
DEDUCED (unsafe): log 78. -/
def execDigestRx (n : Nat) (sums : List (Nat × Bool)) (s : State) : Host.Outcome State Fault Refusal :=
  s.onDev fun d =>
    if !d.isTwin then d
    else
      let mine := d.twin.digests.filter fun x => x.1 == n && !x.2.2.2
      let pairs := mine.filterMap fun x => match sums[x.2.1]? with
        | some (c, false) => some (x.2.2.1, c)
        | _ => none
      let bad := (pairs.filter fun p => p.1 != p.2).length
      if pairs.isEmpty then d
      else if bad = 0 then
        let d := d.onTwin fun t => { t with diverging := 0, matching := t.matching + 1 }
        if d.bit F.CTRL_PAIR_STAT_MUTED && !d.twin.muteLink && 16 ≤ d.twin.matching then d.onTwin fun t => { t with unmute := true } else d
      else
        let first := d.twin.diverging = 0
        let d := (d.onTwin fun t => { t with diverging := t.diverging + 1, matching := 0, unmute := false }).raiseFlag F.CTRL_PAIR_STAT_DIVERGE
        let d := d.bump F.CTRL_PAIR_CNT_DIVERGE_CNT bad
        let d := if first then d.tokenEvent 0x06 .warning else d
        if d.pairState == psStandby && d.bit F.CTRL_PAIR_CFG_MUTE_EN && d.get F.CTRL_PAIR_CFG_DIVERGE_LIMIT ≤ d.twin.diverging then d.setMuted true
        else d

/-! ### Copies over the pair link (R298, R299) -/

/-- CTRL_COPY_RX (R299): words 0 to 30 of a CTRL parcel of the holder's go out at the standby's own end, bit for bit. RATE trains its
port too (R282), and a wrapped key that passes tells it which tiles hold it (R285). -/
def execCtrlCopyRx (words : List Word) (s : State) : Host.Outcome State Fault Refusal :=
  s.onDev fun d =>
    if !d.pairUp || !d.isStandby then d
    else
      let k := (ParcelHead.ofWord (nth words 0 0)).loop
      let code := Word.field (nth words 1 0) 0 8
      let w := nth words 2 0
      let d := (d.loopEnds k).foldl (fun d e => d.queueCtrl e.2 (words.take 31)) d
      if code = 0x06 then d.retrainLoop k (modeOf (Word.field w 0 2))
      else if code = 0x07 && Word.field w 8 2 == 2 then d.onTileRec k (Word.field w 0 7) fun t => { t with keyed := true }
      else d

/-- REPLY_FWD_RX (R299): a REPLY parcel of the standby's end reaches the holder. -/
def execReplyFwdRx (loop pos cnt : Nat) (payload : List Word) (s : State) : Host.Outcome State Fault Refusal :=
  let d := s.dev
  if d.isTwin && d.pairState == psHolder && decide (loop < d.loops) then
    .next (s.replyParcel loop (if d.role = .senderB then 0 else 1) pos cnt payload)
  else .next s

/-- PAIR_KEY_RX (R298): a loop key for a selector, wrapped under Kpair, and whether the item came whole; a standby without the key
mutes. -/
def execPairKeyRx (loop selector : Nat) (ok : Bool) (wrapped : List Word) (s : State) : Host.Outcome State Fault Refusal :=
  s.onDev fun d =>
    if !d.pairUp || d.pairState != psStandby || d.loops ≤ loop then d
    else match (if ok && !d.twin.kpair.isEmpty then keyUnwrap d.twin.kpair wrapped else none) with
    | some key =>
      let l := d.loopSt loop
      if l.key.isEmpty then d.onLoop loop fun l => { l with key := key, selector := selector % 4 }
      else if l.key == key && l.selector == selector % 4 then d
      else d.onLoop loop fun l => { l with nextKey := some (selector % 4, key), tiles := l.tiles.map fun t => { t with keyed := false } }
    | none => if d.bit F.CTRL_PAIR_CFG_MUTE_EN then d.setMuted true else d

/-! ### Items at a tile -/

/-- CHAIN_ITEM_RX (R198): records (r, N, V) of the sender's supervised rectangles. -/
def execChainItemRx (end_ : Fin 2) (records : List (Nat × Nat × Nat)) (s : State) : Host.Outcome State Fault Refusal :=
  let _ := end_
  s.onDev fun d =>
    if d.isTile && d.linkRuns then d.onTileLink fun t => { t with chain := (records ++ t.chain).take 64 } else d

end Sys2Proof.Machine
end

