-- ==== Sys2Proof/Machine/Commands.lean ====
section
/-!
DEFINITION. The meaning of each opcode in one table (R69), the COMMAND item a tile receives (R57), and the order in which queued
commands run (R47).
-/
namespace Sys2Proof.Machine

open Sys2Proof

/-- What a command with an opcode does (R69). The bytes a DMA_IN reads from the host come with its own row; a command that did not
come over PCIe is refused before it needs them (R70). -/
def bodyOf : Op → State → QCmd → State × Answer
  | .ping => bodyPing
  | .getCaps => bodyGetCaps
  | .getState => bodyGetState
  | .readReg => bodyReadReg
  | .writeReg => bodyWriteReg
  | .writeField => bodyWriteField
  | .memRead => bodyMemRead
  | .memWrite => bodyMemWrite
  | .dmaIn => bodyDmaIn []
  | .dmaOut => bodyDmaOut
  | .txnBegin => bodyTxnBegin
  | .txnCommit => bodyTxnCommit
  | .txnRollback => bodyTxnRollback
  | .txnStatus => bodyTxnStatus
  | .eventSubscribe => bodyEventSubscribe
  | .cvRun => bodyCvRun
  | .resetRegion => bodyResetRegion
  | .resetDevice => bodyResetDevice
  | .powerState => bodyPowerState
  | .locate => bodyLocate
  | .loopEnum => bodyLoopEnum
  | .tileStatus => bodyTileStatus
  | .tablePush => bodyTablePush
  | .tokenStatus => bodyTokenStatus
  | .tokenYield => bodyTokenYield
  | .imageLoad => bodyImageLoad
  | .imageVerify => bodyImageVerify
  | .imageActivate => bodyImageActivate
  | .attest => bodyAttest
  | .bootLock => bodyBootLock
  | .calRun => bodyCalRun
  | .ledgerSave => bodyLedgerSave
  | .timeGet => bodyTimeGet

/-! ### COMMAND items (R57, R524) -/

/-- The tile is addressed by a relayed packet (R57). -/
def Dev.addressed (d : Dev) (t : Target) : Bool :=
  match t.scope with
  | 1 => t.toNat == d.responder
  | 2 => t.loop == d.get F.LINK_TILE_STAT_LOOP
  | 3 => true
  | _ => false

/-- What a COMMAND item's body holds (R524): word 0 and the LEN + 2 words that follow it. -/
def itemReceipt (body : List Word) : Receipt :=
  let len := (Head.ofWord (nth body 0 0)).len
  if 1021 < len then .refuse (readCmd 9 [nth body 0 0, nth body 1 0] 0) .len [nth body 0 0, nth body 1 0]
  else
    let ws := (List.range (len + 2)).map fun i => nth body i 0
    checkPacket 9 1021 true ws (nth body (len + 2) 0)

/-- COMMAND_ITEM_RX: a relayed command from an end a tile accepts joins the queue of originator LOOP (R46, R57, R66, R303, R524). One
that does not address the tile is ignored.
DEDUCED (unsafe): log 62. -/
def execCommandItemRx (end_ : Fin 2) (words : List Word) (s : State) : Host.Outcome State Fault Refusal :=
  let d := s.dev
  if !d.isTile || !d.answers then .next s
  else if !d.endAccepted end_ then .next { s with dev := d.fromEnd end_ id }
  else
    let t := Target.ofNat (Word.field (nth words 1 0) 0 32)
    if !t.zerosOk || !d.addressed t then .next s
    else .next { s with dev := d.receive (itemReceipt words) }

/-! ### The queues (R46, R47) -/

/-- The oldest queued command of each originator, in the order of the queue. -/
def queueHeads : List QCmd → List Nat → List QCmd
  | [], _ => []
  | q :: qs, seen => if seen.contains q.orig then queueHeads qs seen else q :: queueHeads qs (q.orig :: seen)

/-- A DMA_IN that is about to write waits for its own row, which brings the host's bytes; one that is refused does not. -/
def State.waitsBytes (s : State) (q : QCmd) : Bool :=
  q.opcode == Op.dmaIn.code && (s.dev.frontRefusal q .dmaIn).isNone &&
  (s.dev.isTile || (Target.ofNat q.target).scope == 0) &&
  (match (bodyDmaIn [] s q).2 with
   | .now .ok _ _ => true
   | _ => false)

/-- The command that runs next (R47): a TXN_COMMIT that no earlier command of its originator precedes, else the oldest. -/
def State.nextQueued (s : State) : Option QCmd :=
  let heads := (queueHeads s.dev.host.queue []).filter fun q => !s.dev.commitWaits q.orig q.opcode
  match heads.find? fun q => q.opcode == Op.txnCommit.code with
  | some q => some q
  | none => heads.find? fun q => !s.waitsBytes q

/-- The next queued command leaves its queue and runs.
DESIGN CHOICE (unsafe): log 1.
DEDUCED (unsafe): log 9.
DEDUCED (unsafe): log 10. -/
def State.runQueued (s : State) : State :=
  if !s.dev.answers then s
  else match s.nextQueued with
    | none => s
    | some q =>
      let s := { s with dev := s.dev.onHost fun h => { h with queue := dequeue q.orig h.queue } }
      match Op.ofCode q.opcode with
      | none => s
      | some op => s.runCommand q op (bodyOf op)

/-- What happens when nothing is commanded: the next queued command runs, and one TCLK edge passes (R312): vectors held back for their
2 µs (R60), feeds of the check-value units (R92), the lamp rails' clock, FSYNC_IN's presence and the ages of DRAM requests follow it. -/
def State.idle (s : State) : State :=
  let s := s.runQueued
  { s with dev := s.dev.tick.msixTick.cvuTick.railTick.fsyncTick.memTick }

end Sys2Proof.Machine
end

