-- ==== Sys2Proof/Machine/Clock.lean ====
section
/-!
DEFINITION. The clock root (R94 to R109) and the reset pins (R113, R115, R493): the meanings of the rows of ch. 3 that no
host command asks for.
-/
namespace Sys2Proof.Machine

open Sys2Proof

/-- PORST_N low (R113): nothing is kept but OTP and flash; the device is held in reset.
DEDUCED (unsafe): log 32.
DEDUCED (unsafe): log 109. -/
def execPorstAssert (s : State) : Host.Outcome State Fault Refusal :=
  let deep := s.dev.power == .deep || s.dev.power == .wakeWait || (s.dev.porst && s.dev.deepPorst)
  let d := s.dev.cleared (regReset R.KEEP_RST_CAUSE) false
  .next { s with mem := [], dev := { d with porst := true, deepPorst := deep, boot := .held }.emit (.reset 1) }

/-- KEEP_RST_CAUSE after PORST_N: DEEP_WAKE with it where it woke the device from deep sleep (R118).
DEDUCED (unsafe): log 32. -/
def porstCause (deep : Bool) : Word :=
  if deep then Word.setField (regReset R.KEEP_RST_CAUSE) F.KEEP_RST_CAUSE_DEEP_WAKE.lo F.KEEP_RST_CAUSE_DEEP_WAKE.width 1
  else regReset R.KEEP_RST_CAUSE

/-- PORST_N released (R1, R115): the straps are sampled and the sequence runs, unless a supply is still out of range.
DEDUCED (unsafe): log 32. -/
def execPorstRelease (x : BootInputs) (s : State) : Host.Outcome State Fault Refusal :=
  if !s.dev.porst then .next s
  else
    let cause := porstCause s.dev.deepPorst
    let s := { s with straps := x.straps, dev := { s.dev with porst := false, deepPorst := false, env := some x } }
    if s.dev.supplyLow then .next s else .next (s.deviceReset cause x)

/-- KEEP_RST_CAUSE after a reset by the internal supply monitor.
DEDUCED (unsafe): log 33. -/
def brownoutCause : Word := Word.of 2

/-- The internal supply monitor trips (R113, R493): the device is held in reset with BROWNOUT recorded.
DEDUCED (unsafe): log 33. -/
def execBrownout (s : State) : Host.Outcome State Fault Refusal :=
  let d := s.dev.cleared brownoutCause false
  .next { s with mem := [], dev := { d with supplyLow := true, boot := .held }.emit (.reset 2) }

/-- The supplies return (R493): the held reset ends and the sequence runs, unless PORST_N is low.
DESIGN CHOICE (unsafe): log 108. -/
def execSupplyMonitorRelease (x : BootInputs) (s : State) : Host.Outcome State Fault Refusal :=
  if !s.dev.supplyLow then .next s
  else
    let s := { s with dev := { s.dev with supplyLow := false } }
    if s.dev.porst then .next s else .next (s.deviceReset brownoutCause x)

/-- HKO is stable (R98, R109). -/
def execHkoStable (s : State) : Host.Outcome State Fault Refusal :=
  if s.dev.boot = .hko then .next (s.bootFromHko s.dev.bootEnv) else .next s

/-- HKO was not stable in 1 ms (R98): the device stays in reset until PORST_N. -/
def execHkoStartTimeout (s : State) : Host.Outcome State Fault Refusal :=
  s.onDev fun d => if d.boot = .hko then { d with boot := .hkoFailed } else d

/-- A window of 65,536 REFCLK cycles ends (R100). -/
def execRefclkQualWindow (count : Nat) (s : State) : Host.Outcome State Fault Refusal :=
  if s.dev.boot = .refclk then
    let good := decide (16056 ≤ count) && decide (count ≤ 16712)
    let near := match s.dev.clk.lastGood with
      | some p => decide (p ≤ count + 16) && decide (count ≤ p + 16)
      | none => false
    if good && near then
      .next (({ s with dev := s.dev.onClk fun c => { c with lastGood := none, late := false } } : State).bootFromRef s.dev.bootEnv)
    else s.onDev fun d => d.onClk fun c => { c with lastGood := if good then some count else none }
  else .next s

/-- REFCLK has not qualified 100 ms after HKO became stable (R100): FAULT_N low. -/
def execRefclkQualTimeout (s : State) : Host.Outcome State Fault Refusal :=
  s.onDev fun d => if d.boot = .refclk then d.onClk fun c => { c with late := true } else d


/-- Causes of EV_CLOCK, as the model numbers them. -/
abbrev ecRefStop : Nat := 1
abbrev ecRefGlitch : Nat := 2
abbrev ecRefRate : Nat := 3
abbrev ecRelock : Nat := 4
abbrev ecHoldLong : Nat := 5
abbrev ecRpll : Nat := 6

/-- REFCLK is qualified and the device not in holdover: what the faults of R104 and R108 presuppose. -/
def Dev.refQualified (d : Dev) : Bool :=
  d.bit F.KEEP_CLK_STAT_REF_QUAL && !d.bit F.KEEP_CLK_STAT_HOLDOVER && d.power != .deep && d.power != .wakeWait

/-- The clock monitor watches REFCLK (R102, R103): from the first lock of the RPLL on, which it measures by.
DEDUCED (unsafe): log 34. -/
def Dev.clockWatched (d : Dev) : Bool := d.refQualified && d.boot != .rpll

/-- REFCLK's 1,024th edge in a row has come with the phase error inside ±2 DCO periods: the RPLL is locked (R101). At the start the reset
sequence goes on from there (R115).
DEDUCED (unsafe): log 34. -/
def execRpllLock (s : State) : Host.Outcome State Fault Refusal :=
  let d := s.dev
  if !d.refQualified then .next s
  else if d.boot = .rpll then .next (s.bootFromLock d.bootEnv)
  else if d.bit F.KEEP_CLK_STAT_RPLL_LOCK then .next s
  else s.onDev fun d => (d.set F.KEEP_CLK_STAT_RPLL_LOCK 1).onClk fun c => { c with rateInit := (0, 0) }

/-- A clock fault is declared (R96, R104): the DCO runs on the held word, PLLs are in hold mode, the flag and EV_CLOCK. The count a
requalification window is held to follows from the rate reference (R105), rounded down; until the first 16 windows have set a reference
it is the nominal 24,576 counts, or after a relock the one before.
DEDUCED (unsafe): log 34. -/
def Dev.clockFault (d : Dev) (flag : Fld) (cause : Nat) : Dev :=
  if d.clockWatched then
    let d := d.setAll [(flag, 1), (F.KEEP_CLK_STAT_HOLDOVER, 1), (F.KEEP_CLK_STAT_REF_QUAL, 0), (F.KEEP_CLK_STAT_RPLL_LOCK, 0)]
    let d := (d.onClk fun c => { c with pllHold := true, lastGood := none, heldWord := some (Config.controlWord d.free)
                                        expected := 402653184 * 32768 / c.rateRef }).draw
    d.eventClock cause .warning
  else d

/-- The edge-interval checker's classes (R102), of an interval in DCO periods: edges tolerated, or the fault. -/
inductive RefEdge where
  | normal | missing | stop | glitch
  deriving DecidableEq, Repr

/-- The class of an interval (R102). -/
def refEdge (n : Nat) : RefEdge :=
  if 40 ≤ n ∧ n ≤ 56 then .normal
  else if (88 ≤ n ∧ n ≤ 104) ∨ (136 ≤ n ∧ n ≤ 152) then .missing
  else if 152 < n then .stop else .glitch

/-- One REFCLK interval measured (R102).
DEDUCED (unsafe): log 34. -/
def Dev.refInterval (d : Dev) (n : Nat) : Dev :=
  if !d.clockWatched then d
  else match refEdge n with
    | .normal => d
    | .missing => d.bump F.KEEP_CLK_MON_MISSED_EDGES
    | .stop => d.clockFault F.KEEP_CLK_STAT_REF_STOP ecRefStop
    | .glitch => d.clockFault F.KEEP_CLK_STAT_REF_GLITCH ecRefGlitch

/-- REFCLK's edges have stopped: the 153rd DCO period without one declares REF_STOP (R102). -/
def execRefStop (s : State) : Host.Outcome State Fault Refusal := s.onDev fun d => d.refInterval 153

/-- A REFCLK edge comes too early, or away from the places R102 tolerates: REF_GLITCH. -/
def execRefGlitch (s : State) : Host.Outcome State Fault Refusal := s.onDev fun d => d.refInterval 0

/-- The rate reference follows a count (R103): a first-order filter with a time constant of 32,768 windows.
DESIGN CHOICE (unsafe): log 37. -/
def rateFilter (reference count : Nat) : Nat :=
  let num : Int := (count : Int) * 32768 - reference
  ((reference : Int) + num / 32768 + (num % 32768 != 0 && Config.rateUp num 32768).toNat).toNat

/-- The phase error has left ±2 DCO periods: the lock holds only while it stays inside (R101).
DEDUCED (unsafe): log 34. -/
def Dev.phaseLeft (d : Dev) : Dev := if d.clockWatched then d.set F.KEEP_CLK_STAT_RPLL_LOCK 0 else d

/-- The count of a rate window (R103): from lock on the first 16 set the reference, later ones are compared with it. A difference between
12 and 13 counts, which only a fractional reference can give, is no fault.
DESIGN CHOICE (unsafe): log 37. -/
def Dev.rateCount (d : Dev) (count : Nat) : Dev :=
  if !d.clockWatched then d
  else if d.clk.rateInit.1 < 16 then
    let n := d.clk.rateInit.1 + 1
    let sum := d.clk.rateInit.2 + count
    d.onClk fun c => { c with rateInit := (n, sum), rateRef := if n = 16 then sum * 2048 else c.rateRef }
  else
    let dev : Int := (count * 32768 : Nat) - (d.clk.rateRef : Int)
    let d := d.setInt F.KEEP_CLK_MON_RATE_DEV (dev / 32768)
    if 13 * 32768 ≤ dev.natAbs then d.clockFault F.KEEP_CLK_STAT_REF_RATE ecRefRate
    else d.onClk fun c => { c with rateRef := rateFilter c.rateRef count }

/-- A rate window ends (R101 to R103): each interval that was not plain is judged, then the phase, then the count.
DESIGN CHOICE (unsafe): log 37. -/
def execRateWindow (seen : RateWindow) (s : State) : Host.Outcome State Fault Refusal :=
  s.onDev fun d =>
    let d := seen.intervals.foldl Dev.refInterval d
    (if seen.inside then d else d.phaseLeft).rateCount seen.count

/-- A requalification window ends in holdover with a count of HKO cycles (R105, R106). -/
def execRequalWindow (count : Nat) (s : State) : Host.Outcome State Fault Refusal :=
  s.onDev fun d =>
    if !d.bit F.KEEP_CLK_STAT_HOLDOVER || d.bit F.KEEP_CLK_STAT_SLEWING then d
    else
      let e := d.clk.expected
      if decide (e ≤ count + 8) && decide (count ≤ e + 8) then
        match d.clk.lastGood with
        | none => d.onClk fun c => { c with lastGood := some count }
        | some p =>
          if p ≤ count + 4 ∧ count ≤ p + 4 then
            (d.onClk fun c => { c with lastGood := none }).setAll [(F.KEEP_CLK_STAT_REF_QUAL, 1), (F.KEEP_CLK_STAT_SLEWING, 1)]
          else (d.onClk fun c => { c with lastGood := some count }).raiseFlag F.KEEP_CLK_STAT_REQUAL_FAIL
      else (d.onClk fun c => { c with lastGood := none }).raiseFlag F.KEEP_CLK_STAT_REQUAL_FAIL

/-- The slew ends (R105): holdover clears, the PLLs leave hold mode, EV_CLOCK RELOCK.
DEDUCED (unsafe): log 34. -/
def execRelockDone (s : State) : Host.Outcome State Fault Refusal :=
  s.onDev fun d =>
    if d.bit F.KEEP_CLK_STAT_HOLDOVER && d.bit F.KEEP_CLK_STAT_SLEWING then
      let d := d.setAll [(F.KEEP_CLK_STAT_HOLDOVER, 0), (F.KEEP_CLK_STAT_SLEWING, 0), (F.KEEP_CLK_STAT_RPLL_LOCK, 1)]
      (d.onClk fun c => { c with pllHold := false, rateInit := (0, 0), heldWord := none }).eventClock ecRelock .info
    else d

/-- Holdover has lasted HOLD_LIMIT_MS (R106). -/
def execClockHoldLong (s : State) : Host.Outcome State Fault Refusal :=
  s.onDev fun d =>
    if d.bit F.KEEP_CLK_STAT_HOLDOVER then (d.raiseFlag F.KEEP_CLK_STAT_HOLD_LONG).eventClock ecHoldLong .fault else d

/-- A mux switches by force (R107): state is kept, FORCED is set. -/
def execMuxForceSwitch (s : State) : Host.Outcome State Fault Refusal :=
  s.onDev fun d => if d.keepRuns && d.power != .deep then d.raiseFlag F.KEEP_CLK_STAT_FORCED else d

/-- An RPLL fault (R108): CCLK and PCLK on HKO, every other domain gated, the safe state.
DEDUCED (unsafe): log 34. -/
def execRpllFault (s : State) : Host.Outcome State Fault Refusal :=
  s.onDev fun d =>
    if d.refQualified then
      let d := d.setAll [(F.KEEP_CLK_STAT_RPLL_FAULT, 1), (F.KEEP_CLK_STAT_RPLL_LOCK, 0)]
      let d := (d.onClk fun c => { c with onHko := true }).onTime fun t => { t with running := false }
      ((d.eventClock ecRpll .fault).linkReset).enterSafe scRpll 0
    else d


/-- A wake event in DEEP (R118, R494): WAKE_N low, or signal detect on the port KEEP_GATE_DEEP names. DEEP_N goes high and the
supplies are awaited. -/
def execWakeEvent (port : Option Nat) (s : State) : Host.Outcome State Fault Refusal :=
  s.onDev fun d =>
    let wakes := match port with
      | none => true
      | some n => (d.get F.KEEP_GATE_DEEP_OVL).testBit n
    if d.power = .deep && wakes then
      -- a tile wakes the next one on its other port (R282)
      let d := match port with
        | some n => if d.isTile then d.emit (.square (1 - n)) else d
        | none => d
      { d with power := .wakeWait }
    else d

/-- Supplies are in range (R494): R115 runs from step 1 with DEEP_WAKE recorded; DRAM contents are kept (R113). -/
def execDeepWakeSupplyOk (x : BootInputs) (s : State) : Host.Outcome State Fault Refusal :=
  if s.dev.power = .wakeWait then
    .next (s.deviceReset (s.dev.causeWith F.KEEP_RST_CAUSE_DEEP_WAKE) { x with estopLow := s.dev.safe.estop } true)
  else .next s

/-- Supplies are not in range 20 ms after the wake (R494). -/
def execDeepWakeSupplyTimeout (s : State) : Host.Outcome State Fault Refusal :=
  s.onDev fun d => if d.power = .wakeWait then { d with wakeLate := true } else d

end Sys2Proof.Machine
end

