-- ==== Sys2Proof/Machine/Fabric.lean ====
section
/-!
DEFINITION. The fabric inside the regions and the stored words behind it (R21 to R25, R29, R30, R33): parity, arbiters, replay
buffers, replays and repeated reads, and where a fourth failure goes.
-/
namespace Sys2Proof.Machine

open Sys2Proof

/-! ### Parity and replays (R21, R23, R24) -/

/-- The parity bit of a word (R21). -/
def parityBit (w : Word) : Bool := popCount 64 w.toNat % 2 == 1

/-- A copy of a word with its parity bit, some bits flipped on the way: bit 64 is the parity bit. -/
def copyOf (w : Word) (flips : Nat) : Word × Bool := (w ^^^ Word.of flips, parityBit w != flips.testBit 64)

/-- The consumer's check of a copy. -/
def copyBad (c : Word × Bool) : Bool := parityBit c.1 != c.2

/-- Failures in a row of a word's copies, at most four: the first and three replays or repeated reads (R23, R24). -/
def failures (w : Word) (flips : List Nat) : Nat := min 4 ((flips.takeWhile fun f => copyBad (copyOf w f)).length)

/-! ### Arbiters (R25, R29) -/

/-- A unit of a basin arbitrates by age and turn, any other link by class. -/
def blockSite : FaultSite → Bool
  | .region _ => false
  | _ => true

/-- The class's place in R29's table, and its grants of a round of 15. -/
def classRank : FabricClass → Nat
  | .lt => 0 | .rt => 1 | .bk => 2 | .ct => 3
/-- Here: the weight. -/
def classWeight : FabricClass → Nat
  | .lt => 8 | .rt => 4 | .bk => 2 | .ct => 1

/-- The first request under an order. -/
def firstReq (before : FabricReq → FabricReq → Bool) (l : List FabricReq) : Option FabricReq :=
  l.foldl (fun best r => match best with
    | none => some r
    | some b => if before r b then some r else some b) none

/-- Engines after the one granted last, in turn. -/
def turnOf (last engine : Nat) : Nat := (engine % 16 + 15 - last % 16) % 16

/-- The request of a basin's pool or port that is granted (R25): the oldest; of equal age, the next in turn.
DESIGN CHOICE (unsafe): log 117. -/
def FabricLink.byTurn (l : FabricLink) : Option FabricReq :=
  firstReq (fun a b => decide (a.since < b.since) || (a.since == b.since && decide (turnOf l.last a.engine < turnOf l.last b.engine))) l.waiting

/-- The request a region's fabric grants (R29): of the first class with its weight not used up in the round, else of the first class
that has one; within it the oldest.
DESIGN CHOICE (unsafe): log 117. -/
def FabricLink.byClass (l : FabricLink) : Option FabricReq :=
  let pending := [FabricClass.lt, .rt, .bk, .ct].filter fun c => l.waiting.any fun r => r.cls == c
  match (match pending.find? fun c => decide (nth l.round (classRank c) 0 < classWeight c) with
    | some c => some c
    | none => pending.head?) with
  | none => none
  | some c => firstReq (fun a b => decide (a.since < b.since)) (l.waiting.filter fun r => r.cls == c)

/-- Grants until nothing waits or sixteen words are unacknowledged (R22). The fuel is the number of requests.
DESIGN CHOICE (unsafe): log 117. -/
def FabricLink.grant : Nat → FabricLink → FabricLink
  | 0, l => l
  | n + 1, l =>
    match (if 16 ≤ l.unacked then none else if blockSite l.site then l.byTurn else l.byClass) with
    | none => l
    | some r =>
      let round := modifyNth l.round (classRank r.cls) (· + 1)
      FabricLink.grant n { l with
        waiting := l.waiting.erase r, sent := (r.word :: l.sent).take 16, unacked := l.unacked + 1, last := r.engine
        round := if round.foldl (· + ·) 0 = 15 then [0, 0, 0, 0] else round }

/-- The link of a site. -/
def Fabric.link (f : Fabric) (x : FaultSite) : FabricLink := (f.links.find? fun l => l.site == x).getD { site := x }

/-- A link takes what an arrival brings.
DESIGN CHOICE (unsafe): log 117. -/
def FabricLink.take (l : FabricLink) (a : FabricArrival) : FabricLink :=
  let l := { l with waiting := l.waiting ++ a.requests, unacked := l.unacked - a.acks }
  l.grant l.waiting.length

/-! ### Where a failure goes (R23, R24, R30, R33) -/

/-- The region whose counter takes a site's corrected words. -/
def siteRegion : FaultSite → Nat
  | .region r => r
  | _ => 4

/-- The safety cause of a fault a region passes up (R439). -/
def regionCause (r : Nat) : Nat :=
  if r = 0 then scKeep else if r = 6 then scLamp else if r = 2 then scMem else if r = 7 then scTime else scCtrl

/-- Fourth failures of one cycle go where R30 sends them: to the basins, and to the safety monitor. -/
def State.siteFaults (s : State) (xs : List FaultSite) : State :=
  let engines := xs.filterMap fun x => match x with
    | .engine g => some g
    | _ => none
  let basins := xs.filterMap fun x => match x with
    | .pool b | .basinPort b => some b
    | _ => none
  let regions := xs.filterMap fun x => match x with
    | .region r => some (r, regionCause r)
    | _ => none
  ({ s with dev := if engines.isEmpty && basins.isEmpty then s.dev else s.dev.engineFaults engines basins } : State).passUpAll regions

/-- A word was corrected: COMPOSE counts in COMPOSE_KERR, the other regions have a counter without a register (R23). -/
def Dev.countCorrected (d : Dev) (r : Nat) : Dev :=
  if r = 4 then d.bump F.COMPOSE_KERR_CORRECTED
  else { d with fabric := { d.fabric with corrected := modifyNth d.fabric.corrected r (· + 1) } }

/-- Words of sites that failed a number of times in a row in one cycle. -/
def State.wordFailures (s : State) (xs : List (FaultSite × Nat)) : State :=
  let live := xs.filter fun x => s.dev.keepRuns && !s.dev.safe.inReset.contains (siteRegion x.1)
  let d := (live.filter fun x => decide (0 < x.2) && decide (x.2 < 4)).foldl (fun d x => d.countCorrected (siteRegion x.1)) s.dev
  ({ s with dev := d } : State).siteFaults ((live.filter fun x => decide (4 ≤ x.2)).map (·.1))

/-- Stored words read in one cycle (R24): a fourth failure marks the word as corrupt. -/
def State.readStored (s : State) (rs : List StoredRead) : State :=
  let xs := rs.map fun r => (r, failures 0 r.flips)
  let bad := (xs.filter fun x => decide (4 ≤ x.2) && s.dev.keepRuns && !s.dev.safe.inReset.contains (siteRegion x.1.site)).map fun x => (x.1.site, x.1.addr)
  let d : Dev := { s.dev with fabric := { s.dev.fabric with corrupt := bad ++ s.dev.fabric.corrupt.filter fun c => !bad.contains c } }
  ({ s with dev := d } : State).wordFailures (xs.map fun x => (x.1.site, x.2))

/-- Words of one cycle arrive over fabric links, some of them broken (R21 to R23): the links take their requests and acknowledgements,
and a word still in its replay buffer is replayed up to three times. -/
def execFabricParityMismatch (arrival : FabricArrival) (more : List FabricArrival) (s : State) : Host.Outcome State Fault Refusal :=
  let r := (arrival :: more).foldl (fun (r : Fabric × List (FaultSite × Nat)) a =>
    let l := (r.1.link a.site).take a
    ({ r.1 with links := l :: r.1.links.filter fun x => x.site != a.site },
      r.2 ++ ((l.sent[a.place]?).map fun w => (a.site, failures w a.flips)).toList)) (s.dev.fabric, [])
  let s' : State := { s with dev := { s.dev with fabric := r.1 } }
  .next (if s.dev.keepRuns then s'.wordFailures r.2 else s)

/-- Stored words read with bad parity (R24). -/
def execStoredWordParity (read : StoredRead) (more : List StoredRead) (s : State) : Host.Outcome State Fault Refusal :=
  .next (s.readStored (read :: more))

end Sys2Proof.Machine
end

