-- ==== Sys2Proof/Machine/Compose.lean ====
section
/-!
DEFINITION. Composition (R185, R186, R196 to R199, R264, R267): the window, the lines of a pipe, checkpoints and the deadline;
and the basins' rows (R21 to R31, R218 to R231). The latch of a frame is in Machine/ComposeLatch.lean.
-/
namespace Sys2Proof.Machine

open Sys2Proof

/-! ### The window (R185, R186, R267) -/

/-- Ends of a loop with a port in service in ONE or FULL. -/
def Dev.liveEnds (d : Dev) (k : Nat) : List (Nat × Nat) := (d.loopEnds k).filter fun e => decide (lsOne ≤ d.portState e.2)

/-- The device composes at all: a sender in service and awake, outside the safe state, its regions running (R201, R438). -/
def Dev.composes (d : Dev) : Bool :=
  d.boot == .up && d.isSender && !d.safeNow && d.awake && d.safe.stopCause.isNone &&
  !d.safe.inReset.contains 4 && !d.safe.inReset.contains 5 && decide (d.compose.resumeAt ≤ d.time.wall)

/-- A loop gets frames: brought up, running in ONE or FULL with a port in service (R186). -/
def Dev.loopComposes (d : Dev) (set : Dev) (k : Nat) : Bool :=
  set.bit (F.LINK_LOOP_CFG_EN k) && decide (lsOne ≤ d.loopState k) && !(d.liveEnds k).isEmpty


/-- Slots of a set whose pixels travel: COMPOSED and not darkened by the mask (R244). -/
def Dev.sentSlots (d : Dev) (s : ComposeSet) : List Nat := (d.atSet s).composedSlots.filter fun i => s.mask.testBit i

/-- Pixel parcels of a slot on a loop under a set. -/
def Dev.setSlotParcels (d : Dev) (s : ComposeSet) (k : Nat) : Nat :=
  slotParcels (d.loopTiles k) (codeBits ((d.atSet s).loopCode k s.plain))

/-- FRAME_OPEN of a frame on a loop (R267). -/
def Dev.frameOpenWords (d : Dev) (s : ComposeSet) (k : Nat) : List Word :=
  let c := d.atSet s
  let slots := c.composedSlots
  let w3 := Word.pack [(0, 8, s.mask), (8, 4, slots.length), (12, 2, c.loopCode k s.plain),
    (14, 1, (c.get (F.COMPOSE_PIPE_CFG_OUT_LUT k) == 0).toNat), (15, 1, (c.bit (F.LINK_LOOP_CFG_ENC k)).toNat),
    (16, 2, (d.loopSt k).selector), (24, 8, slots.foldl (fun m i => m + 2 ^ i) 0)]
  parcelWords ⟨ptCtrl, false, 0, 0, s.frame, d.senderNo, k, 0⟩
    [itemHead 0x01 true true 0 s.frame, Word.of s.frame, w3, Word.of ((d.sentSlots s).length * d.setSlotParcels s k)]

/-- The first tile of a slot: the parcel INDEX it starts at counts every COMPOSED slot before it (R264). -/
def Dev.slotIndex (d : Dev) (s : ComposeSet) (k slot : Nat) : Nat :=
  (((d.atSet s).composedSlots.takeWhile fun i => i != slot).length) * d.setSlotParcels s k

/-- The checkpoint C_i of tile i of a frame's order in a slot, in ps (R186): bits that follow, at the loop's fastest port. -/
def Dev.checkpoint (d : Dev) (s : ComposeSet) (k slot tile : Nat) : Int :=
  let bits := codeBits ((d.atSet s).loopCode k s.plain)
  let ts := d.loopTiles k
  let after := slotParcels (ts.drop (tile + 1)) bits +
    ((d.sentSlots s).filter fun i => decide (slot < i)).length * slotParcels ts bits
  let p := (d.fastest k).getD 1
  d.framePs ((s.frame : Int) - 1) - 25000000 - (after * 1920 * sPs / p : Nat)

/-- Where a layer's part in a tile begins in the crop. -/
def Dev.partStart (d : Dev) (l : Nat) (t : LayoutTile) : Nat × Nat :=
  let c := d.effCrop l
  let r := d.layerDst l
  let m := Rect.meet r t.rect
  (if r.2.2.1 = 0 then 0 else (m.1 - r.1) * c.1 / r.2.2.1, if r.2.2.2 = 0 then 0 else (m.2.1 - r.2.1) * c.2 / r.2.2.2)

/-- Blocks of 32 x 16 pixels of a part, cut off at its edges: first column and row, columns, rows. -/
def blocksOf (x y w h : Nat) : List (Nat × Nat × Nat × Nat) :=
  (List.range (ceilDiv h 16)).flatMap fun j => (List.range (ceilDiv w 32)).map fun i =>
    (x + 32 * i, y + 16 * j, min 32 (w - 32 * i), min 16 (h - 16 * j))

/-- Stage items of a frame on a loop (R218): blocks of 32 x 16 source pixels of each staged layer's part in each tile.
DEDUCED (unsafe): log 115. -/
def Dev.stageItems (d : Dev) (s : ComposeSet) (k : Nat) : List WorkItem :=
  let c := d.atSet s
  let ts := d.loopTiles k
  (d.sentSlots s).flatMap fun slot => (List.range ts.length).flatMap fun i =>
    (c.stagedLayers.filter fun l => (nth s.layers l none).isSome && (c.get (F.COMPOSE_SLOT_CFG_LAYERS slot)).testBit l &&
      s.blocks.any fun b => b.1 == c.layerStage l).flatMap fun l =>
      match ts[i]? with
      | none => []
      | some t =>
        let z := c.partSpan l t
        let j := c.layerStage l
        let g := 2 * c.get (F.COMPOSE_KSTAGE_CFG_MARGIN j)
        let o := c.partStart l t
        (blocksOf o.1 o.2 z.1 z.2).map fun a =>
          { kernel := c.get (F.COMPOSE_KSTAGE_CFG_KERNEL_ID j), units := (a.2.2.1 + g) * (a.2.2.2 + g), deadline := d.checkpoint s k slot i
            frame := s.frame, loop := k, slot := slot, tile := i, layer := l, params := j, area := a, margin := g / 2 }

/-- A key that every tile of the loop has been given comes into force with the next frame composed (R285). -/
def Dev.adoptKey (d : Dev) (k : Nat) : Dev :=
  match (d.loopSt k).nextKey with
  | some (sel, key) =>
    if (d.loopSt k).tiles.all fun t => t.keyed || t.left then
      d.onLoop k fun l => { l with key := key, selector := sel, nextKey := none }
    else d
  | none => d

/-- A pipe starts a frame. -/
def Dev.openPipe (d : Dev) (s : ComposeSet) (k : Nat) : Dev :=
  let d := d.adoptKey k
  -- a standby without the key of an encrypted loop mutes (R298)
  let d := if d.isStandby && d.bit F.CTRL_PAIR_CFG_MUTE_EN && (d.atSet s).bit (F.LINK_LOOP_CFG_ENC k) && (d.loopSt k).key.isEmpty then d.setMuted true
    else d
  let slots := d.sentSlots s
  let first := slots.headD 0
  let open_ := d.frameOpenWords s k
  let all := slots.length * d.setSlotParcels s k
  let work := !slots.isEmpty && decide (0 < all)
  let d := if d.bit F.CTRL_PAIR_STAT_MUTED then d else
    (d.liveEnds k).foldl (fun d e => d.onPort e.2 fun p =>
      { p with stream := p.stream ++ [open_], frame := some s.frame, pixSent := 0, pixAll := all, tags := [] }) d
  let d := d.onPipe k fun _ =>
    { opened := some s.frame, composing := work, slot := first, index := d.slotIndex s k first }
  d.releaseItems (d.stageItems s k)

/-- DRIVE follows every FRAME_OPEN once one has been sent (R407); a standby's comes to its end as the holder's copy (R299). -/
def Dev.repeatDrive (d : Dev) (k : Nat) : Dev :=
  match d.cap.sent with
  | some (cap, blank, from_) => if d.hasToken then d.loopItem k 0x0A (driveBody cap blank from_) else d
  | none => d

/-- The frame picked of a source for a display frame is not the one a key names. -/
def Dev.pickMissed (d : Dev) (n : Nat) (x : Nat × Nat) : Bool :=
  match (d.source x.1).picks.find? fun p => p.1 == n with
  | some p => !d.keyNames x.1 x.2 p.2
  | none => true

/-- At W_N a standby has kept its own selection for some source (R296): SEL_MISS. -/
def Dev.selectJudge (d : Dev) (n : Nat) : Dev :=
  if !d.isTwin || d.pairState != psStandby || !d.enabledSources.any isLive then d
  else
    let sel := d.twin.selects.find? fun x => x.1 == n
    let d' := d.onTwin fun t => { t with selects := t.selects.filter fun x => decide (n < x.1) }
    if sel.all fun x => x.2.any (d.pickMissed n) then (d'.raiseFlag F.CTRL_PAIR_STAT_SEL_MISS).bump F.CTRL_PAIR_CNT_DIVERGE_CNT else d'

/-- W_N (R185, R267): the pipes start composing frame N. -/
def execCompositionWindowStart (n : Nat) (s : State) : Host.Outcome State Fault Refusal :=
  s.onDev fun d =>
    let d := if d.compose.relatch == some n then d.onCompose fun c => { c with relatch := none } else d
    match d.compose.next with
    | none => d
    | some set =>
      if set.frame ≠ n || !d.composes then d
      else
        let c := d.atSet set
        let d := d.selectJudge n
        let d := if d.twin.unmute then d.setMuted false else d
        let d := d.onCompose fun z => { z with cur := some set, next := none }
        let ks := (List.range d.loops).filter fun k => d.loopComposes c k && d.clocked (guBlend + k)
        let d := ks.foldl (fun d k => (d.openPipe set k).repeatDrive k) d
        let d := d.frameEnded n
        if ks.isEmpty then d else d.set F.COMPOSE_SLOT_STAT_MASK set.mask

/-! ### Supervised rectangles (R196 to R199) -/

/-- EV_PICTURE of a failed rectangle. -/
def Dev.rectEvent (d : Dev) (r cause k frame action : Nat) : Dev :=
  d.eventPicture (R.COMPOSE_SREC_STAT r) cause r (2 ^ k) 0 frame (if action = 2 then .safety else .fault)

/-- A rectangle's row passes: its lamps' codes are fed. -/
def Dev.rectRow (d : Dev) (c : Dev) (r : Nat) (codes : List (Nat × Px)) : Dev :=
  let b := c.srecRect r
  d.onCompose fun z => { z with rects := modifyNth z.rects r fun x =>
    let acc := if x.rows = 0 then rectInit b.1 b.2.1 else x.acc
    let mine := codes.filter fun p => decide (b.1 ≤ p.1) && decide (p.1 < b.1 + b.2.2.1)
    { x with acc := rectFeed acc (mine.flatMap fun p => codeFeed p.2), rows := x.rows + 1 } }

/-- The rectangle's tile is complete: C and V, EXPECT and FROZEN, the record of CHAIN. The answer says whether the frame is to
be aborted (R199, R444), and whether the wall is to be blanked (R444). -/
def Dev.rectDone (d : Dev) (c : Dev) (r k frame : Nat) : Dev × Bool × Bool :=
  let run := nth d.compose.rects r {}
  let cc := rectResult run.acc
  let vv := rectFrameCheck run.acc frame
  let action := c.get (F.COMPOSE_SREC_CFG_ACTION r)
  let hold := c.get (F.COMPOSE_SREC_CFG_HOLD r)
  let d := d.setAll [(F.COMPOSE_SREC_VAL_C r, cc), (F.COMPOSE_SREC_VAL_V r, vv), (F.COMPOSE_SREC_FRAME_FRAME r, frame)]
  let d := d.onCompose fun z => { z with rects := modifyNth z.rects r fun x => { x with acc := 0, rows := 0, done := some cc } }
  let miss := c.bit (F.COMPOSE_SREC_CFG_EXPECT_EN r) && cc != c.get (F.COMPOSE_SREC_EXPECT_EXPECT r)
  let frozen := c.bit (F.COMPOSE_SREC_CFG_FROZEN_EN r) && decide (hold ≤ run.history.length) && (run.history.take hold).all (· == cc)
  let d := if miss then ((d.raiseFlag (F.COMPOSE_SREC_STAT_MISMATCH r)).raiseFlag F.COMPOSE_STAT_CHECK_FAIL).rectEvent r 0x07 k frame action else d
  let d := if frozen then ((d.raiseFlag (F.COMPOSE_SREC_STAT_FROZEN r)).raiseFlag F.COMPOSE_STAT_FROZEN).rectEvent r 0x08 k frame action else d
  let d := if miss || frozen then d.bump (F.COMPOSE_SREC_STAT_FAIL_CNT r) else d
  let d := if c.bit (F.COMPOSE_SREC_CFG_CHAIN_EN r) && d.hasToken then
      d.loopItem k 0x04 [Word.pack [(0, 4, r), (32, 32, vv)], Word.of frame] else d
  (d, miss && (action == 1 || action == 2), (miss || frozen) && action == 2)

/-! ### Lines (R34, R185, R264, R284) -/

/-- The 30 payload words of 1,920 bits. -/
def payloadOf (v : Nat) : List Word := (List.range 30).map fun i => Word.of (bitsOf v (64 * i) 64)

/-- A pixel parcel goes to the loop's ends, its words into the digest and, encrypted, into the tile's tag. -/
def Dev.sendPixel (d : Dev) (s : ComposeSet) (k v : Nat) : Dev :=
  let c := d.atSet s
  let p := d.pipe k
  let enc := c.bit (F.LINK_LOOP_CFG_ENC k)
  let l := d.loopSt k
  let pl := payloadOf v
  let pl := if enc then cipherPayload l.key s.frame p.index (loopId k d.senderNo) pl else pl
  let ws := parcelWords ⟨ptPixel, enc, if enc then l.selector else 0, p.index, s.frame, d.senderNo, k, 0⟩ pl
  let d := d.onPipe k fun p => { p with
    index := p.index + 1, digest := crcBytes 32 0x1EDC6F41 true p.digest (ws.flatMap Word.bytes)
    tagged := if enc then p.tagged ++ [(p.tile, ws)] else [] }
  if d.bit F.CTRL_PAIR_STAT_MUTED then d
  else (d.liveEnds k).foldl (fun d e => d.onPort e.2 fun q =>
    if q.frame == some s.frame then { q with stream := q.stream ++ [ws] } else q) d

/-- Parcels that wait in a loop's transmit queue: the longer of its ends. -/
def Dev.queued (d : Dev) (k : Nat) : Nat := ((d.liveEnds k).map fun e => (d.port e.2).stream.length).foldl max 0

/-- TAG parcels of a loop's tiles, 14 to a parcel (R284). -/
def Dev.tagParcels (d : Dev) (s : ComposeSet) (k : Nat) (tags : List (Word × Word)) : List (List Word) :=
  let groups := chunksOf 14 (tags.length / 14 + 1) tags
  (List.range groups.length).map fun i =>
    let g := nth groups i []
    parcelWords ⟨ptTag, false, 0, i, s.frame, d.senderNo, k, 0⟩
      (Word.pack [(0, 7, 14 * i), (7, 4, g.length)] :: g.flatMap fun t => [t.1, t.2])

/-- The tag of each tile of a loop over its parcels sent (R284). -/
def Dev.frameTags (d : Dev) (s : ComposeSet) (k : Nat) : List (Word × Word) :=
  let ts := d.loopTiles k
  (List.range ts.length).map fun i =>
    let words := ((d.pipe k).tagged.filter fun x => x.1 == i).flatMap (·.2)
    frameTag (d.loopSt k).key s.frame (loopId k d.senderNo) ((ts[i]?.map (·.pos)).getD 0) words

/-- The pipe has the frame whole: tags leave, history and status follow, and memory is free once no pipe needs it. -/
def Dev.pipeDone (d : Dev) (s : ComposeSet) (k : Nat) : Dev :=
  let c := d.atSet s
  let p := d.pipe k
  let d := if c.bit (F.LINK_LOOP_CFG_ENC k) && !d.bit F.CTRL_PAIR_STAT_MUTED then
      (d.liveEnds k).foldl (fun d e => d.onPort e.2 fun q =>
        if q.frame == some s.frame then { q with tags := q.tags ++ d.tagParcels s k (d.frameTags s k) } else q) d
    else d
  let us (x : Int) : Int := clampInt (-32767) 32767 (x / (usPs : Int))
  let d := d.setAll [(F.COMPOSE_PIPE_STAT_MARGIN_US k, toSigned 16 (us (p.margin.getD 0))), (F.COMPOSE_PIPE_STAT_DEPTH_MAX k, p.depth)]
  let d := d.onTwin fun t => { t with digests := (s.frame, k, crcResult 32 true true p.digest, false) :: t.digests.take 31 }
  let d := d.onPipe k fun p => { p with composing := false }
  d.frameEnded s.frame

/-- The place after a tile: the next tile, the next slot's first, or none. -/
def Dev.nextPlace (d : Dev) (s : ComposeSet) (k slot tile : Nat) : Option (Nat × Nat) :=
  if tile + 1 < (d.loopTiles k).length then some (slot, tile + 1)
  else ((d.sentSlots s).find? fun i => decide (slot < i)).map fun i => (i, 0)

/-- A tile of the frame is complete in the pipe: its last parcel, its tag, its rectangles, its checkpoint's margin. The answer
is as `Dev.rectDone`. -/
def Dev.tileDone (d : Dev) (s : ComposeSet) (k : Nat) (t : LayoutTile) : Dev × Bool × Bool :=
  let c := d.atSet s
  let p := d.pipe k
  let d := if 0 < p.bits.1 then d.sendPixel s k p.bits.2 else d
  let left : Int := d.checkpoint s k p.slot p.tile - (d.wallPs : Int)
  let d := d.onPipe k fun q => { q with bits := (0, 0), margin := some (match q.margin with
    | some m => if left < m then left else m
    | none => left) }
  let lowest := c.composedSlots.head? == some p.slot
  (List.range 16).foldl (fun x r =>
    if lowest && c.bit (F.COMPOSE_SREC_CFG_EN r) && c.srecOwner r == some t then
      let y := x.1.rectDone c r k s.frame
      (y.1, x.2.1 || y.2.1, x.2.2 || y.2.2)
    else x) (d, false, false)

/-- One composition line of a pipe (R185): a row of its tile enters the transmit queue. -/
def State.compositionLine (s : State) (k : Nat) : State :=
  let d := s.dev
  let p := d.pipe k
  match d.compose.cur with
  | none => s
  | some set =>
    match (d.loopTiles k)[p.tile]? with
    | none => s
    | some t =>
      let c := d.atSet set
      let code := c.loopCode k set.plain
      let b := codeBits code
      let total := p.bits.1 + t.w * b
      let last := p.row + 1 == t.h
      let full := total / 1920 + (if last && total % 1920 != 0 then 1 else 0)
      let waits := d.itemsLeft.any fun i => !i.background && i.frame == set.frame && i.loop == k && i.slot == p.slot && i.tile == p.tile
      if !p.composing || p.opened != some set.frame || (d.liveEnds k).isEmpty || waits || decide (8192 < d.queued k + full) then s
      else
        let cy := t.y + p.row
        let codes := (List.range t.w).map fun x =>
          let cx := t.x + x
          (cx, lampCodes code (c.applyPost (c.get (F.COMPOSE_PIPE_CFG_OUT_LUT k)) (c.lampColour s.mem set k p.slot cx cy)))
        let depth := ((List.range t.w).map fun x => (c.lampLayers set k p.slot (t.x + x) cy).length).foldl max p.depth
        let v := (List.range t.w).foldl (fun v x => v + packCodes code (nth codes x (0, 0, 0, 0, 0)).2 * 2 ^ (p.bits.1 + x * b)) p.bits.2
        let lowest := c.composedSlots.head? == some p.slot
        let d := (List.range 16).foldl (fun d r =>
          let q := c.srecRect r
          if lowest && c.bit (F.COMPOSE_SREC_CFG_EN r) && c.srecOwner r == some t && decide (q.2.1 ≤ cy) && decide (cy < q.2.1 + q.2.2.2) then
            d.rectRow c r codes
          else d) d
        let d := (List.range (total / 1920)).foldl (fun d i => d.sendPixel set k (bitsOf v (1920 * i) 1920)) d
        let rest := total % 1920
        let d := d.onPipe k fun p => { p with row := p.row + 1, depth := depth, bits := (rest, v >>> (1920 * (total / 1920))) }
        if !last then { s with dev := d }
        else
          let r := d.tileDone set k t
          let d := if r.2.1 then r.1.abortPipe k 5 else r.1
          let d := if r.2.2 then (d.set F.CTRL_CAP_CTRL_BLANK 1).wallBlank true else d
          if (d.pipe k).opened != some set.frame then { s with dev := d }
          else match d.nextPlace set k p.slot p.tile with
            | some (slot, tile) =>
              let d := d.onPipe k fun q => { q with
                slot := slot, tile := tile, row := 0, index := if slot = p.slot then q.index else d.slotIndex set k slot }
              { s with dev := d }
            | none => { s with dev := d.pipeDone set k }

/-- A pipe composes one tile row (R34, R185). -/
def execCompositionLine (k : Fin 4) (s : State) : Host.Outcome State Fault Refusal :=
  if s.dev.composes && decide (k.val < s.dev.loops) then .next (s.compositionLine k) else .next s

/-- Tile i of loop k is not complete at its checkpoint (R186, R187): PACE. The slot is given with the tile. -/
def execCheckpointMiss (k : Fin 4) (slot tile : Nat) (s : State) : Host.Outcome State Fault Refusal :=
  s.onDev fun d =>
    let p := d.pipe k
    if p.composing && (decide (p.slot < slot) || (p.slot == slot && decide (p.tile ≤ tile))) && (d.fastest k).isSome then d.abortPipe k 1 else d

/-- D_N (R185, R269, R297): an end that has not sent its copy ends it with DRAIN; digests are exchanged. -/
def execFrameDeadline (n : Nat) (s : State) : Host.Outcome State Fault Refusal :=
  s.onDev fun d =>
    if !d.isSender then d
    else
      let late := (List.range d.loops).filter fun k => (d.pipe k).opened == some n && (d.pipe k).composing
      -- a loop with no port in service has nothing to abort (R186): its pipe just stops
      let d := late.foldl (fun d k => if (d.fastest k).isSome then d.abortPipe k 1 else d.dropPipe k n) d
      let d := (List.range d.loops).foldl (fun d k =>
        if (d.pipe k).opened != some n then d
        else
          let d := (d.loopEnds k).foldl (fun d e =>
            let q := d.port e.2
            if q.frame == some n && decide (q.pixSent < q.pixAll) && !d.bit F.CTRL_PAIR_STAT_MUTED then
              ((d.abortEnd k e.2 n 1 6).raiseFlag (F.LINK_LOOP_STAT_DRAIN_ABORT k)).eventLink (R.LINK_LOOP_STAT k) 0x06 k 0 .warning
            else d) d
          d.onPipe k fun p => { p with opened := none }) d
      let d := d.releaseReads n
      if d.pairUp then
        let mine (k : Nat) : Nat × Nat := ((d.twin.digests.find? fun x => x.1 == n && x.2.1 == k).map fun x => (x.2.2.1, x.2.2.2.toNat)).getD (0, 1)
        d.pairItem 0x24 (Word.of n :: (List.range d.loops).map fun k => Word.pack [(0, 32, (mine k).1), (32, 1, (mine k).2)])
      else d

/-! ### The basins' rows -/

/-- A waiting item is sent to a basin and engine (R220), unless COMPOSE is in reset (R33). -/
def execWorkItemDispatch (s : State) : Host.Outcome State Fault Refusal :=
  s.onDev fun d => if d.safe.inReset.contains 4 then d else d.dispatchItem

/-- BUSY_PERMILLE over the last second. -/
def Dev.countBusy (d : Dev) (cycles : Nat) : Dev :=
  let l := (d.now, cycles) :: d.compose.busy.filter fun x => decide (d.now < x.1 + sPs)
  let e := d.get F.KEEP_INSVC_ENGINES_IN
  let d := d.onCompose fun c => { c with busy := l }
  d.set F.COMPOSE_KLOAD_BUSY_PERMILLE (if e = 0 then 0 else satTo 65535 ((l.map (·.2)).foldl (· + ·) 0 * 1000 / (e * 1200000000)))

/-- A mesh displacement was clamped (R213, R232): CLAMPED of the item's slot, and an event at most once per slot per second. -/
def Dev.noteClamp (d : Dev) (i : WorkItem) : Dev :=
  let j := i.params
  let d := d.raiseFlag (F.COMPOSE_KSTAGE_STAT_CLAMPED j)
  if d.compose.clampedAt.any fun x => x.1 == j && decide (d.now < x.2 + sPs) then d
  else
    (d.onCompose fun c => { c with clampedAt := (j, d.now) :: c.clampedAt.filter fun x => x.1 != j }).eventPicture
      (R.COMPOSE_KSTAGE_STAT j) 0x0B j 0 0 i.frame .info

/-- WARP_MESH clamps some displacement of the item's pixels, with the block of the item's frame (R213). -/
def Dev.itemClamps (d : Dev) (i : WorkItem) : Bool :=
  match d.compose.cur with
  | some s =>
    let c := (d.atSet s).effCrop i.layer
    i.kernel == 0x0101 && s.frame == i.frame && (s.blocks.any fun b => b.1 == i.params &&
      (List.range i.area.2.2.2).any fun y => (List.range i.area.2.2.1).any fun x => warpClips b.2 c.1 c.2 (i.area.1 + x) (i.area.2.1 + y))
  | none => false

/-- The cycles an item may run (R222). -/
def WorkItem.ceiling (i : WorkItem) : Nat := 4 * kernelCost i.kernel * i.units + 2048

/-- The watchdog stops an item: the engine's fault, and WATCHDOG (R222). -/
def Dev.watchdog (d : Dev) (engine : Nat) : Dev :=
  (d.raiseFlag (F.COMPOSE_BASIN_STAT_WATCHDOG (engine / 16))).engineFault (engine / 16) (engine % 16)

/-- The item an engine runs. -/
def Dev.itemOn (d : Dev) (engine : Nat) : Option WorkItem :=
  ((d.basin (engine / 16)).running.find? fun r => r.1 == engine % 16).map (·.2)

/-- An item's output is released (R226): its engine is free, with what the item left in it (R203); a mesh may have been clamped. -/
def Dev.completeItem (d : Dev) (engine cycles : Nat) (i : WorkItem) : Dev :=
  let d := d.onBasin (engine / 16) fun x => { x with
    running := x.running.filter fun r => r.1 != engine % 16, left := modifyNth x.left (engine % 16) fun _ => d.free }
  let d : Dev := { d.countBusy cycles with free := d.free + 1 }
  (if d.itemClamps i then d.noteClamp i else d).startItems (engine / 16)

/-- An engine ends its item after a number of cycles (R226): a fault that passes up in the same cycle discards the output; an item past
its ceiling was stopped before (R222); a diagnostic run answers with what it found (R231). -/
def execWorkItemComplete (engine cycles : Nat) (fault : Bool) (s : State) : Host.Outcome State Fault Refusal :=
  match s.dev.itemOn engine with
  | none => .next s
  | some i =>
    if i.ceiling < cycles then s.onDev fun d => d.watchdog engine
    else if fault then s.onDev fun d => d.engineFault (engine / 16) (engine % 16)
    else
      let d := s.dev.completeItem engine cycles i
      let d := if i.kernel = kDiagEngine && !i.passes then d.engineFault (engine / 16) (engine % 16) else d
      .next (({ s with dev := d } : State).readStored (if i.kernel = kDiagPool then i.reads else []))

/-- An engine's item has run past its ceiling: it is stopped (R222). -/
def execItemWatchdog (engine : Nat) (s : State) : Host.Outcome State Fault Refusal :=
  s.onDev fun d =>
    match d.itemOn engine with
    | some _ => d.watchdog engine
    | none => d

/-- An engine has had no fault for one second (R26). -/
def execEngineSuspectExpiry (engine : Nat) (s : State) : Host.Outcome State Fault Refusal :=
  s.onDev fun d =>
    if d.basinActive (engine / 16) || (d.basin (engine / 16)).active then
      d.onBasin (engine / 16) fun x => { x with
        suspect := Sys2Proof.setBit x.suspect (engine % 16) false, faults := x.faults.filter fun f => f.1 != engine % 16 }
    else d

/-- A basin's loading ends (R230): set and blocks are in, those no latch could copy among them; `failed` engines failed DIAG_ENGINE; its
epoch is the record; a replacement is reported. Without a library in use it has no kernels to load, and goes on loading (R204). -/
def execBasinLoadDone (b : Nat) (failed : List Nat) (s : State) : Host.Outcome State Fault Refusal :=
  s.onDev fun d =>
    if (d.basin b).st ≠ 2 || !d.hasLibrary then d
    else
      let d := d.copyStale s.mem d.frameNow
      let d := d.engineFaults (failed.map fun e => 16 * b + e % 16) []
      if (d.basin b).st ≠ 2 then d
      else
        let rep := (d.basin b).replaces
        let set := d.kernelSet (d.service != 2 || d.lamp.working.isEmpty)
        let d := d.onBasin b fun x => { x with
          st := 3, epoch := d.compose.record, replaces := false, set := set, blocks := d.blocksFor set, next := none
          left := (List.range 16).map fun e => d.free + e }
        let d : Dev := { d with free := d.free + 16, fabric := { d.fabric with corrupt := d.fabric.corrupt.filter fun c => match c.1 with
          | .engine g => g / 16 != b
          | .pool p => p != b
          | _ => true } }
        if rep then d.eventCapacity 4 b .info else d

/-- A diagnostic run joins the items that wait (R231): BACKGROUND, for an engine or a pool in service of a basin that is ready. -/
def Dev.releaseDiag (d : Dev) (b : Nat) (i : WorkItem) : Dev :=
  if (d.basin b).st = 3 then d.releaseItems [{ i with background := true }] else d

/-- DIAG_ENGINE is due on an engine (R231): an item pinned to it, which `passes` or not when it ends. -/
def execDiagEngineRun (engine : Nat) (passes : Bool) (s : State) : Host.Outcome State Fault Refusal :=
  s.onDev fun d =>
    if (d.basin (engine / 16)).inService (engine % 16) then
      d.releaseDiag (engine / 16) { kernel := kDiagEngine, units := 1, pin := some engine, passes := passes }
    else d

/-- DIAG_POOL is due on 64 KiB of a pool (R231): an item of the basin, with the reads that mismatch. -/
def execDiagPoolRun (b : Nat) (reads : List StoredRead) (s : State) : Host.Outcome State Fault Refusal :=
  s.onDev fun d => d.releaseDiag b { kernel := kDiagPool, units := 1, basin := some b, reads := reads.map fun r => { r with site := .pool b } }

end Sys2Proof.Machine
end

