-- ==== Sys2Proof/Machine/Dram.lean ====
section
/-!
DEFINITION. The DRAM controller: checked words, drift, row disturbance, ports and urgency (ch. 4).
-/
namespace Sys2Proof.Machine

open Sys2Proof

/-- The tag of a word's check byte (R133). -/
def wordTag (addr : Nat) : Nat :=
  let w := addr / 8
  (bitsOf w 0 7) ^^^ (bitsOf w 7 7) ^^^ (bitsOf w 14 7) ^^^ (bitsOf w 21 7) ^^^ (bitsOf w 28 7) ^^^ (bitsOf w 35 7)

/-- The check byte of a word at an address (R133): even parity over the tag.
DEDUCED (unsafe): log 42. -/
def checkByte (addr : Nat) (w : Word) : Nat := popCount 64 w.toNat % 2 * 128 + wordTag addr

/-- A word read with the check bytes of its two beats passes (R133).
DEDUCED (unsafe): log 42. -/
def wordPasses (addr : Nat) (x : Word × Nat × Nat) : Bool :=
  let k := checkByte addr x.1
  x.2.1 == k && x.2.2 == 255 - k

/-- A burst read at an address passes.
DEDUCED (unsafe): log 42. -/
def burstPasses (addr : Nat) (b : BurstRead) : Bool :=
  (List.range b.length).all fun i => wordPasses (addr + 8 * i) (nth b i (0, 0, 255))

/-- Some word of a burst shows a tag mismatch (MEM_ERR_ADDR.TAG). -/
def burstTag (addr : Nat) (b : BurstRead) : Bool :=
  (List.range b.length).any fun i => (nth b i (0, 0, 255)).2.1 % 128 != wordTag (addr + 8 * i)

/-- A memory fault of a burst in a frame (R134, R136): counted once for a burst in one display frame. -/
def Dev.countFault (d : Dev) (port addr frame : Nat) (tag : Bool) : Dev :=
  if d.mc.faults.any fun f => f.1 == addr && f.2.2 == frame then d
  else
    let d := d.onMc fun m => { m with faults := (addr, d.now, frame) :: m.faults.filter fun f => decide (d.now < f.2.1 + 10 * sPs) }
    let d := (d.bump F.MEM_ERR_CNT_FAULTS).setAll
      [(F.MEM_ERR_ADDR_ADDR, addr), (F.MEM_ERR_ADDR_PORT, port), (F.MEM_ERR_ADDR_TAG, tag.toNat)]
    (d.raiseFlag F.MEM_STAT_MEM_FAULT).eventFault 0x03 2 .warning R.MEM_STAT

/-- The faults counted make a MEM fault that passes up (R136): a second one in a burst within 10 s, a 16th within 1 s. -/
def Dev.memEscalates (d : Dev) (addr : Nat) : Bool :=
  decide (2 ≤ (d.mc.faults.filter fun f => f.1 == addr && decide (d.now < f.2.1 + 10 * sPs)).length) ||
  decide (16 ≤ (d.mc.faults.filter fun f => decide (d.now < f.2.1 + sPs)).length)

/-- What a requester does with a poisoned burst (R135).
DEDUCED (unsafe): log 42. -/
def Dev.takePoison (d : Dev) (port addr frame : Nat) : Dev :=
  if port < 4 then d.abortPipe port 3
  else if port = 4 || port = 12 || port = 13 || port = 14 then d.poisonFrame frame
  else if port = 15 then d.poisonItem
  else if 16 ≤ port then d.onMc fun m => { m with poisoned := (port, addr) :: m.poisoned }
  else d

/-- A read of a burst makes a DRAM access, whose check bits are checked: its granule has been filled (R131) and no write of it is still
queued (R127).
DEDUCED (unsafe): log 42. -/
def Dev.readsDram (d : Dev) (addr : Nat) : Bool :=
  d.memOpen && d.isFilled addr && !d.memWaiting.any fun r => r.write && r.addr / 64 == addr / 64

/-- A DRAM read meets a check mismatch and is repeated (R134 to R136): `reads` are the reads of the burst in order.
DEDUCED (unsafe): log 42. -/
def execDramReadCheck (port addr frame : Nat) (reads : List BurstRead) (s : State) : Host.Outcome State Fault Refusal :=
  let d := s.dev
  if !d.memPort port || !d.readsDram addr then .next s
  else
    let pass (i : Nat) : Bool := decide (i < reads.length) && burstPasses addr (nth reads i [])
    if pass 0 then .next s
    else if pass 1 || pass 2 then
      .next { s with dev := (d.bump F.MEM_ERR_CNT_REPLAY_OK).raiseFlag F.MEM_STAT_REPLAYED }
    else
      let known := d.mc.faults.any fun f => f.1 == addr && f.2.2 == frame
      let d := (d.countFault port addr frame ((reads.take 3).any (burstTag addr))).takePoison port addr frame
      let s := { s with dev := d }
      if !known && d.memEscalates addr then .next (s.passUp 2 scMem) else .next s

/-- Every 32 ms the centres are measured again (R132): each lane's edge offset in 1/64 UI and its width in 1/64 UI.
DEDUCED (unsafe): log 38. -/
def execDriftUpdate (lanes : List (Int × Nat)) (s : State) : Host.Outcome State Fault Refusal :=
  s.onDev fun d => if d.memOpen then d.driftUpdate lanes else d

/-- A port activates the row of an address so many times, up to THRESH or past it (R139, R140).
DESIGN CHOICE (safe): log 39. -/
def execRhThreshold (port addr acts : Nat) (s : State) : Host.Outcome State Fault Refusal :=
  s.onDev fun d => if d.memPort port && d.memOpen then d.activate port addr acts else d

/-- The activation tables are cleared, and the window of R140 ends (R139). -/
def execRhTableClear (s : State) : Host.Outcome State Fault Refusal :=
  s.onDev fun d => d.onMc fun m =>
    { m with targeted := [], charges := List.replicate 19 0, throttled := List.replicate 19 false
             banks := m.banks.map fun b => { b with table := [] } }

/-- Every granule is filled (R131); the fill of a sender is suspended while it is in THROTTLE or above (R435). -/
def execBackgroundFillDone (s : State) : Host.Outcome State Fault Refusal :=
  s.onDev fun d =>
    if !d.memOpen || (d.isSender && decide (2 ≤ d.get F.KEEP_THERM_STAT_STATE)) then d
    else (d.onMc fun m => { m with filled := [], allFilled := true }).set F.MEM_STAT_FILL_DONE 1

/-- Requests come and age, and a port's urgency rises (R138). -/
def execPortUrgencyRise (event : MemEvent) (more : List MemEvent) (s : State) : Host.Outcome State Fault Refusal :=
  s.onDev fun d => d.memEvents (event :: more)

/-- Requests come and age, and one is older than its port's target (R138). -/
def execPortTargetMiss (events : List MemEvent) (s : State) : Host.Outcome State Fault Refusal := s.onDev fun d => d.memEvents events

end Sys2Proof.Machine
end

