-- ==== Sys2Proof/Machine/Heat.lean ====
section
/-!
DEFINITION. Temperatures, the housekeeping round, the orderly stop, the emergency stop and the monitors (ch. 15); the DRAM
temperature read of R141 and R433 stands here with them.
-/
namespace Sys2Proof.Machine

open Sys2Proof

/-- EV_THERMAL (R449). -/
def Dev.eventThermal (d : Dev) (cause sensor region state : Nat) (sev : Severity) : Dev :=
  d.event .thermal sev [d.reg R.KEEP_THERM_STAT, Word.pack [(0, 8, cause), (8, 4, sensor), (12, 3, region), (16, 2, state)],
    Word.of (d.get (F.KEEP_TSENS_READING sensor))]

/-- State of a region, from its flags: the highest level whose flag is set (R434). -/
def levelState (ls : List ThermLevel) : Nat :=
  if (nth ls 2 {}).flag then 3 else if (nth ls 1 {}).flag then 2 else if (nth ls 0 {}).flag then 1 else 0

/-- One level of a region in one round (R434), with the reading and the threshold in 1/16 °C; SHUT never falls. -/
def ThermLevel.round (l : ThermLevel) (k : Nat) (reading limit : Int) : ThermLevel :=
  let rise := if limit ≤ reading then min 3 (l.rise + 1) else 0
  let fall := if reading < limit - 64 then min 3 (l.fall + 1) else 0
  { rise := rise, fall := fall
    flag := if rise = 3 then true else if fall = 3 && k != 2 then false else l.flag }

/-- A sensor is judged (R430): a die sensor, or an external input of a tile set in EXT_EN. -/
def Dev.sensorJudged (d : Dev) (i : Nat) : Bool :=
  decide (i < 8) || (d.isTile && (d.get F.KEEP_THERM_CFG_EXT_EN).testBit (i - 8))

/-- The reading of a sensor: the higher diode of a die pair (R431). -/
def sensorValue (i : Nat) (x : SensorRead) : Int := if i < 8 then max x.a x.b else x.a

/-- Good, or how it is broken (R431). -/
def sensorBad (i : Nat) (x : SensorRead) : Nat :=
  let v := sensorValue i x
  if !x.done then 4
  else if 8 ≤ i && x.bias == 1 then 1
  else if 8 ≤ i && x.bias == 2 then 2
  else if v < -640 ∨ 2400 < v then 3
  else if i < 8 ∧ 80 < (x.a - x.b).natAbs then 5
  else 0

/-- A sensor takes its conversion of a round (R431): BAD, READING and PEAK, SENSOR_BAD and the events of a change. -/
def Dev.takeSensor (d : Dev) (i : Nat) (x : SensorRead) : Dev :=
  if !d.sensorJudged i then d.set (F.KEEP_TSENS_BAD i) 6
  else
    let was := d.get (F.KEEP_TSENS_BAD i)
    let bad := sensorBad i x
    let v := sensorValue i x
    let d := d.set (F.KEEP_TSENS_BAD i) bad
    let d := if x.done then d.setInt (F.KEEP_TSENS_READING i) v else d
    let d := if bad = 0 && (!d.safe.peaked.testBit i || decide (d.getInt (F.KEEP_TSENS_PEAK i) < v)) then
        (d.setInt (F.KEEP_TSENS_PEAK i) v).onSafe fun s => { s with peaked := Sys2Proof.setBit s.peaked i true }
      else d
    let region := if i < 8 then i else 6
    let st := d.get ⟨R.KEEP_THERM_STAT, 8 + 2 * region, 2⟩
    if bad != 0 && (was == 0 || was == 6) then (d.raiseFlag F.KEEP_THERM_STAT_SENSOR_BAD).eventThermal 0x06 i region st .fault
    else if bad == 0 && 1 ≤ was && was ≤ 5 then d.eventThermal 0x07 i region st .info
    else d

/-- The sensor a region is judged by in a round, its reading, and whether a broken sensor contributes (R432).
DEDUCED (unsafe): log 102. -/
def Dev.hottest (d : Dev) (r : Nat) : Nat × Int × Bool :=
  let ss := (r :: (if r = 6 then [8, 9, 10, 11] else [])).filter d.sensorJudged
  ss.foldl (fun acc i =>
    let broken := d.get (F.KEEP_TSENS_BAD i) != 0
    let v : Int := if broken then 100000 else d.getInt (F.KEEP_TSENS_READING i)
    if acc.2.1 < v then (i, v, broken) else acc) (r, -100000, false)

/-- The threshold of level k for a sensor, in 1/16 °C (R434). -/
def Dev.thermLimit (d : Dev) (sensor k : Nat) : Int :=
  ((Word.field (d.reg R.KEEP_THERM_LIM) ((if sensor < 8 then 0 else 24) + 8 * k) 8 * 16 : Nat) : Int)

/-- The device's state: the highest of any region (R434). -/
def Dev.refreshThermal (d : Dev) : Dev :=
  d.set F.KEEP_THERM_STAT_STATE (((List.range 8).map fun r => d.get ⟨R.KEEP_THERM_STAT, 8 + 2 * r, 2⟩).foldl max 0)

/-- A region's state changes: the flag of the state entered, and one EV_THERMAL (R435). -/
def Dev.regionState (d : Dev) (r new sensor : Nat) : Dev :=
  let f : Fld := ⟨R.KEEP_THERM_STAT, 8 + 2 * r, 2⟩
  let old := d.get f
  if old = new then d
  else
    let d := (d.set f new).refreshThermal
    if old < new then
      match new with
      | 1 => (d.raiseFlag F.KEEP_THERM_STAT_WARN).eventThermal 0x01 sensor r new .warning
      | 2 => (d.raiseFlag F.KEEP_THERM_STAT_THROTTLE).eventThermal 0x03 sensor r new .warning
      | _ => (d.raiseFlag F.KEEP_THERM_STAT_SHUTDOWN).eventThermal 0x05 sensor r new .safety
    else d.eventThermal (if old = 2 then 0x04 else 0x02) sensor r new .info

/-- The orderly stop begins (R437), unless one is under way or the device is in the safe state. -/
def Dev.startStop (d : Dev) (cause : Nat) : Dev :=
  if d.safeNow || d.safe.stopCause.isSome then d
  else
    let d := (d.abortAll 7)
    let d := d.onSafe fun s => { s with stopCause := some cause, blank := true
                                        stopBy := d.now + d.get F.KEEP_THERM_CFG_STOP_MS * msPs }
    -- the hardware blank path: every LGg_BLK high, every scan output off
    let d := if d.isTile then d.onLamp fun l => { l with line := none, slot := none, seqBlank := true } else d
    (d.set F.KEEP_THERM_STAT_STOPPING 1).ledgerMark.calAbandon.refreshLit

/-- A region is judged in a round (R432, R434). A region that reaches SHUTDOWN starts the orderly stop.
DEDUCED (unsafe): log 102. -/
def Dev.judgeRegion (d : Dev) (r : Nat) : Dev :=
  let (i, v, broken) := d.hottest r
  let ls := (List.range 3).map fun k => (nth (nth d.safe.therm r []) k {}).round k v (d.thermLimit i k)
  let d := d.onSafe fun s => { s with therm := modifyNth s.therm r fun _ => ls }
  let was := d.get ⟨R.KEEP_THERM_STAT, 8 + 2 * r, 2⟩
  let d := d.regionState r (levelState ls) i
  if was != 3 && levelState ls == 3 then d.startStop (if broken then scSensor else scThermal) else d

/-- Three reads above 95 °C put MEM in SHUTDOWN at once (R433). -/
def Dev.memShutdown (d : Dev) : Dev :=
  let d := d.onSafe fun s =>
    { s with therm := modifyNth s.therm 2 fun ls => modifyNth ls 2 fun l => { l with flag := true } }
  (d.regionState 2 3 2).startStop scThermal

/-- Every region reads below its warning threshold minus 4 °C, and every judged sensor is good (R443). -/
def Dev.coolNow (d : Dev) : Bool :=
  ((List.range 12).all fun i => !d.sensorJudged i || d.get (F.KEEP_TSENS_BAD i) == 0) &&
  (List.range 8).all fun r =>
    let h := d.hottest r
    decide (h.2.1 < d.thermLimit h.1 0 - 64)

/-- The codes HKO's trim passes from one code to another: one trim step each (R99). -/
def trimCodes (old new : Nat) : List Nat :=
  if old ≤ new then (List.range (new - old)).map (old + ·) else (List.range (old - new)).map (old - ·)

/-- The rate reference after one trim step (R99): HKO is faster by at most 100 ppm, and a window of its cycles shorter by as much. -/
def Dev.trimmed (d : Dev) (old new : Nat) : Dev :=
  let ppb := clampInt (-100000) 100000 (Config.trimStep old new)
  let num : Int := (d.clk.rateRef : Int) * 1000000000
  let den := (1000000000 + ppb).toNat
  d.onClk fun c => { c with rateRef := (num / den).toNat + (num % den != 0 && Config.rateUp num den).toNat }

/-- HKO's trim of a round, step by step (R99): none while the KEEP sensor is broken.
DESIGN CHOICE (safe): log 36. -/
def Dev.hkoRound (d : Dev) : Dev :=
  if d.get (F.KEEP_TSENS_BAD 0) != 0 then d
  else
    let old := d.get F.KEEP_CLK_MON_HKO_TRIM
    let new := Config.hkoTrim (d.getInt (F.KEEP_TSENS_READING 0)) % 65536
    (trimCodes old new).foldl (fun d c => d.trimmed c (if old ≤ new then c + 1 else c - 1)) (d.set F.KEEP_CLK_MON_HKO_TRIM new)

/-- The straps are compared with their sampled values (R496). -/
def Dev.strapRound (d : Dev) (sampled now : Straps) : Dev :=
  if sampled != now && !d.bit F.KEEP_STRAP_STAT_STRAP_CHANGED then
    (d.raiseFlag F.KEEP_STRAP_STAT_STRAP_CHANGED).eventFault 0x08 0 .warning R.KEEP_STRAP_STAT
  else d

/-- A housekeeping round (R416, R430 to R434, R441, R443, R496): sensors, thresholds, heartbeat, supplies, straps.
DEDUCED (unsafe): log 102. -/
def execHousekeepingRound (sensors : List SensorRead) (heartbeat suppliesOk : Bool) (straps : Straps) (rails : List (Nat × Nat))
    (s : State) : Host.Outcome State Fault Refusal :=
  if !s.dev.keepRuns || s.dev.power == .deep || s.dev.power == .wakeWait then .next s
  else
    let d := (List.range 12).foldl (fun d i => d.takeSensor i (nth sensors i ⟨0, 0, false, 0⟩)) s.dev
    let d := (List.range 8).foldl (fun d r => d.judgeRegion r) d
    let d := ((d.hkoRound.trimRound).railRound rails).strapRound s.straps straps
    let d := d.onSafe fun x => { x with
      noBeat := if heartbeat || d.boot != .up then 0 else x.noBeat + 1
      supplyBad := if suppliesOk then 0 else x.supplyBad + 1
      cool := if d.coolNow then min 3 (x.cool + 1) else 0 }
    let s := { s with dev := d }
    if 3 ≤ d.safe.supplyBad then
      ({ s with dev := d.onSafe fun x => { x with supplyBad := 0 } } : State).passUp 0 scSupply |> .next
    else if 3 ≤ d.safe.noBeat then
      ({ s with dev := d.onSafe fun x => { x with noBeat := 0 } } : State).passUp 1 scFwStall |> .next
    else if d.safeNow && d.bit F.KEEP_THERM_CFG_AUTO_RESET && d.get F.KEEP_SAFE_STAT_CAUSE == scThermal &&
        decide (3 ≤ d.safe.cool) then
      .next (s.resetBySafety scThermal)
    else .next s

/-- The orderly stop ends (R437): the safe state, with the stop's cause. -/
def execOrderlyStopEnd (s : State) : Host.Outcome State Fault Refusal :=
  s.onDev fun d =>
    match d.safe.stopCause with
    | some c => d.enterSafe c 0
    | none => d

/-- ESTOP_N is low (R440): the safe state through the hardware path. In reset and in DEEP only the level is kept.
DEDUCED (unsafe): log 102.
DEDUCED (unsafe): log 109. -/
def execEstopAssert (s : State) : Host.Outcome State Fault Refusal :=
  s.onDev fun d =>
    let d := (d.onSafe fun x => { x with estop := true, heldTrip := x.heldTrip || d.boot == .hko }).set F.KEEP_SAFE_STAT_ESTOP 1
    if d.keepRuns && d.power != .deep && d.power != .wakeWait then d.enterSafe scEstop 0 else d

/-- ESTOP_N is high again (R440): the safe state stays. -/
def execEstopRelease (s : State) : Host.Outcome State Fault Refusal :=
  s.onDev fun d => (d.onSafe fun x => { x with estop := false }).set F.KEEP_SAFE_STAT_ESTOP 0

/-- The copies of the safety monitor disagree (R441). -/
def execMonitorDisagree (s : State) : Host.Outcome State Fault Refusal :=
  s.onDev fun d => if d.keepRuns && d.power != .deep then d.enterSafe scMonitor 0 else d

/-- The control-core comparator flags a mismatch (R44, R439): a CTRL fault. -/
def execLockstepMismatch (s : State) : Host.Outcome State Fault Refusal := .next (s.passUp 1 scLockstep)

/-- A check of a detector failed (R448). -/
def Dev.latentFail (d : Dev) : Dev := (d.raiseFlag F.KEEP_SAFE_STAT_LATENT_FAIL).eventFault 0x07 0 .fault R.KEEP_SAFE_STAT

/-- A test mismatch is injected into the lockstep comparator (R448), which must flag it. -/
def execLatentLockstepTest (flagged : Bool) (s : State) : Host.Outcome State Fault Refusal :=
  s.onDev fun d => if flagged || d.boot != .up then d else d.latentFail

/-- The external diode inputs are checked against their bias tests (R448): the inputs that fail, as a mask. -/
def execLatentDiodeCheck (bad : Nat) (s : State) : Host.Outcome State Fault Refusal :=
  s.onDev fun d =>
    if d.boot = .up && [0, 1, 2, 3].any (fun i => bad.testBit i && d.sensorJudged (8 + i)) then d.latentFail else d

/-- The DRAM temperatures are read, in °C, one a DRAM (R141, R433). -/
def execDramTempRead (temps : List Int) (s : State) : Host.Outcome State Fault Refusal :=
  s.onDev fun d =>
    if d.mc.channels = 0 then d
    else
      let hot := temps.any fun t => decide (85 < t)
      let reads := (List.range temps.length).map fun i => if 95 < nth temps i 0 then nth d.mc.hotReads i 0 + 1 else 0
      let d := d.onMc fun m => { m with doubled := hot, hotReads := reads }
      let d := if hot then d.raiseFlag F.MEM_STAT_HOT else d
      if reads.any (· == 3) then d.memShutdown else d

end Sys2Proof.Machine
end

