-- ==== Sys2Proof/Machine/Sources.lean ====
section
/-!
DEFINITION. The rows of the sources (ch. 5): video ports, network flows, frame stores, audio.
-/
namespace Sys2Proof.Machine

open Sys2Proof

/-! ### Video ports (R148 to R151, R167) -/

/-- A link rate and its lanes are among those of R148 for the port's KIND, and within what VIN_CFG offers: LINK_MAX, and for
DisplayPort LANES_MAX.
DEDUCED (unsafe): log 130. -/
def Dev.linkOffered (d : Dev) (p : Nat) (m : VinMode) : Bool :=
  let top := d.get (F.INGEST_VIN_CFG_LINK_MAX p)
  let dp := d.get (F.INGEST_VIN_CFG_KIND p) == 0
  decide (m.link ≤ (if dp then 4 else 6)) && (top == 7 || decide (m.link ≤ top)) &&
  (if dp then [1, 2, 4].contains m.lanes && decide (m.lanes ≤ 2 ^ d.get (F.INGEST_VIN_CFG_LANES_MAX p))
   else m.lanes == if m.link ≤ 2 then 3 else 4)

/-- INGEST_VINp_MODE as a mode shows it. -/
def vinModeWord (m : VinMode) : Word :=
  Word.pack [(0, 16, m.w), (16, 16, m.h), (32, 16, m.rate), (48, 3, m.sampling), (51, 2, m.depth), (53, 2, m.colorimetry),
    (55, 2, m.tf), (57, 1, m.limited.toNat), (58, 1, m.interlaced.toNat), (59, 3, m.link), (63, 1, 1)]

/-- A port trains and receives: present, enabled, its hot-plug line high. -/
def Dev.vinOn (d : Dev) (p : Nat) : Bool :=
  d.ingestRuns && d.clocked (guVin + p) && decide (p < d.variant.vins) && d.bit (F.INGEST_VIN_CFG_EN p) && !nth d.ingest.hpdLow p false

/-- The mode a port receives from now on; unsupported video sets UNSUPPORTED. -/
def Dev.judgeMode (d : Dev) (p : Nat) (m : VinMode) : Dev :=
  let d := d.onIngest fun i => { i with vinModes := modifyNth i.vinModes p fun _ => some m }
  if vinSupported m then d
  else (d.raiseFlag (F.INGEST_VIN_STAT_UNSUPPORTED p)).eventSource (R.INGEST_VIN_STAT p) 0x14 p .warning

/-- VIN_LOCKED: a port trains and locks. -/
def execVinLocked (p : Fin 4) (m : VinMode) (s : State) : Host.Outcome State Fault Refusal :=
  s.onDev fun d =>
    if !d.vinOn p || !d.linkOffered p m || d.bit (F.INGEST_VIN_STAT_LOCK p) then d
    else
      let d := (d.setReg (R.INGEST_VIN_MODE p) (vinModeWord m)).set (F.INGEST_VIN_STAT_LOCK p) 1
      ((d.restartRate p).eventSource (R.INGEST_VIN_STAT p) 0x11 p .info).judgeMode p m

/-- VIN_LOCK_LOST: frames and audio stop coming. -/
def execVinLockLost (p : Fin 4) (s : State) : Host.Outcome State Fault Refusal :=
  s.onDev fun d => d.lockLost p

/-- VIN_MODE_CHANGE: a field of the mode changed while locked; the rate is measured anew (R157). -/
def execVinModeChange (p : Fin 4) (m : VinMode) (s : State) : Host.Outcome State Fault Refusal :=
  s.onDev fun d =>
    let w := vinModeWord m
    if !d.vinOn p || !d.linkOffered p m || !d.bit (F.INGEST_VIN_STAT_LOCK p) || nth d.ingest.vinModes p none == some m then d
    else if d.reg (R.INGEST_VIN_MODE p) = w then (d.restartRate p).judgeMode p m
    else
      let d := ((d.setReg (R.INGEST_VIN_MODE p) w).raiseFlag (F.INGEST_VIN_STAT_MODE_CHANGE p)).restartRate p
      (d.eventSource (R.INGEST_VIN_STAT p) 0x12 p .info).judgeMode p m

/-- HPD_PULSE_END: the line rises, and the source reads the port again. -/
def execHpdPulseEnd (p : Fin 4) (s : State) : Host.Outcome State Fault Refusal :=
  s.onDev fun d =>
    if d.ingest.asleep || !nth d.ingest.hpdLow p.val false then d
    else (d.onIngest fun i => { i with hpdLow := modifyNth i.hpdLow p.val fun _ => false }).emit (.edid p (d.edid p))

/-- HDCP_AUTH_CHANGE: authentication gained (0), lost (1) or failed (2). -/
def execHdcpAuthChange (p : Fin 4) (result : Fin 3) (type1 : Bool) (s : State) : Host.Outcome State Fault Refusal :=
  s.onDev fun d =>
    if !d.vinOn p || !d.bit (F.INGEST_VIN_CFG_HDCP_EN p) then d
    else match result.val with
      | 0 => (d.setAll [(F.INGEST_VIN_STAT_HDCP_AUTH p, 1), (F.INGEST_VIN_STAT_HDCP_TYPE1 p, type1.toNat)]).eventSource
          (R.INGEST_VIN_STAT p) 0x15 p .info
      | 1 => (d.setAll [(F.INGEST_VIN_STAT_HDCP_AUTH p, 0), (F.INGEST_VIN_STAT_HDCP_TYPE1 p, 0)]).eventSource
          (R.INGEST_VIN_STAT p) 0x15 p .warning
      | _ => ((d.setAll [(F.INGEST_VIN_STAT_HDCP_AUTH p, 0), (F.INGEST_VIN_STAT_HDCP_TYPE1 p, 0)]).raiseFlag
          (F.INGEST_VIN_STAT_HDCP_FAIL p)).eventSource (R.INGEST_VIN_STAT p) 0x15 p .warning

/-! ### Frame stores (R146, R147, R157 to R159) -/

/-- The port or flow of a live source delivers frames to its ring. -/
def Dev.sourceFed (d : Dev) (n : Nat) : Bool :=
  d.ingestRuns && d.bit (F.INGEST_SRC_CFG_EN n) &&
  (if n < 4 then d.vinOn n && d.bit (F.INGEST_VIN_STAT_LOCK n) && !d.vinBad n
   else decide (0 < d.variant.gbes) && d.bit (F.INGEST_FLOW_DST_EN (n - 4)) && d.get (F.INGEST_FLOW_FMT_TYPE (n - 4)) == 0)

/-- A flow's frames are as its FLOW_FMT.PARAM and its source's GEOM say (R152, INGEST_SRCn_GEOM).
DEDUCED (unsafe): log 130. -/
def Dev.flowAgrees (d : Dev) (n : Nat) (f : SrcFrame) : Bool :=
  let fmt := d.reg (R.INGEST_FLOW_FMT (n - 4))
  f.w == d.get (F.INGEST_SRC_GEOM_WIDTH n) && f.h == d.get (F.INGEST_SRC_GEOM_HEIGHT n) &&
  f.sampling == Word.field fmt 2 3 && f.depth == Word.field fmt 5 2 && f.colorimetry == Word.field fmt 7 2 &&
  f.tf == Word.field fmt 9 2 && f.limited == Word.bit fmt 11

/-- What a frame has to be for the source to take it (R149, R152, R153). -/
def Dev.frameFits (d : Dev) (n : Nat) (f : SrcFrame) : Bool :=
  decide (f.sampling ≤ 3) && decide (f.depth ≤ 2) && decide (f.colorimetry ≤ 2) && decide (f.w ≤ 7680) && decide (f.h ≤ 4320) &&
  (decide (n < 4) || d.flowAgrees n f)

/-- A video port's frames come under HDCP while it is authenticated (R151); a flow's never do. -/
def Dev.cameGuarded (d : Dev) (n : Nat) : Bool := decide (n < 4) && d.bit (F.INGEST_VIN_STAT_HDCP_AUTH n)

/-- A source's rate exceeds its reservation from now on, or fits again. -/
def Dev.judgeRate (d : Dev) (n : Nat) : Dev :=
  let s := d.source n
  if s.fits (d.get (F.INGEST_SRC_CFG_RES n)) then d.onSource n fun s => { s with noFit := false }
  else if s.noFit then d
  else ((d.onSource n fun s => { s with noFit := true }).raiseFlag (F.INGEST_SRC_STAT_NO_FIT n)).eventSource
    (R.INGEST_SRC_STAT n) 0x13 n .warning

/-- SOURCE_FRAME_COMPLETE: a live source's frame goes into the oldest slot that is not held, or is dropped. -/
def execSourceFrameComplete (src : Nat) (f : SrcFrame) (s : State) : Host.Outcome State Fault Refusal :=
  let d := s.dev
  if !isLive src || !d.sourceFed src then .next s
  else if !d.frameFits src f then
    .next { s with dev :=
      if src < 4 then
        (if d.bit (F.INGEST_VIN_STAT_UNSUPPORTED src) then d
         else (d.raiseFlag (F.INGEST_VIN_STAT_UNSUPPORTED src)).eventSource (R.INGEST_VIN_STAT src) 0x14 src .warning)
      else d.raiseFlag (F.INGEST_FLOW_STAT_FORMAT (src - 4)) }
  else
    let store := d.get (F.INGEST_SRC_CFG_STORE src)
    let d := d.onSource src fun x => { x with keys := (f.key :: x.keys).take 16, bits := f.w * f.h * 8 * pixelBytes store }
    let d := (d.judgeRate src).refreshBudget
    if 4 ≤ src && !(d.source src).slowEnough f.w f.h then
      .next { s with dev := d.raiseFlag (F.INGEST_FLOW_STAT_FORMAT (src - 4)) }
    else if (d.source src).noFit then .next { s with dev := d }
    else match d.ringSlot src with
      | none => .next { s with dev := (d.raiseFlag (F.INGEST_SRC_STAT_DROPPED src)).bump (F.INGEST_SRC_STAT_DROP_CNT src) }
      | some slot =>
        let base := d.get (F.INGEST_SRC_BASE_BASE src) + slot * d.slotBytes src
        let n := (d.source src).serial
        let kept (x : Source) : List StoredFrame := x.frames.filter fun g => g.slot != slot
        let guarded := d.cameGuarded src
        let d :=
          if f.whole then
            (d.onSource src fun x => { x with serial := n + 1, frames := ⟨n, slot, f.key, if src < 4 then f.began else f.key, f.w, f.h, f.tf, guarded⟩ :: kept x }).setAll
              [(F.INGEST_SRC_STAT_HAS_FRAME src, 1), (F.INGEST_SRC_STAT_PROTECTED src, guarded.toNat), (F.INGEST_SRC_STAT_TF src, f.tf)]
          else (d.onSource src fun x => { x with frames := kept x }).raiseFlag (F.INGEST_SRC_STAT_INCOMPLETE src)
        .next { s with mem := storeFrame s.mem base store f, dev := d.stored base (d.slotBytes src) }

/-! ### Flows (R152 to R155) -/

/-- A flow is received. -/
def Dev.flowOn (d : Dev) (f port : Nat) : Bool :=
  d.ingestRuns && d.clocked (guGbe + port) && decide (f < 40) && decide (port < d.variant.gbes) && d.bit (F.INGEST_FLOW_DST_EN f) &&
  (d.get (F.INGEST_FLOW_DST_PORTS f)).testBit port

/-- Sequence numbers from one to another, modulo 2^16. -/
def seqGap (from_ count : Nat) : List Nat := (List.range count).map fun i => (from_ + i) % 65536

/-- A packet joins its flow: the first copy of each sequence number is kept. A number missed for 10 ms of a pair, or at once of
a single path, is lost. -/
def Dev.flowSequence (d : Dev) (f port seq t : Nat) : Dev :=
  let x := d.flow f
  let paired := d.get (F.INGEST_FLOW_DST_PORTS f) == 3
  let next := x.next.getD seq
  let ahead := (seq + 65536 - next) % 65536
  let x1 : FlowSt :=
    if x.missing.any fun m => m.1 == seq then { x with missing := x.missing.filter fun m => m.1 != seq }
    else if ahead < 32768 then { x with next := some ((seq + 1) % 65536), missing := (seqGap next ahead).map (fun q => (q, t)) ++ x.missing }
    else x
  let gone := x1.missing.filter fun m => !paired || decide (m.2 + 10 * msPs < t)
  let d := d.onFlow f fun _ =>
    { x1 with missing := x1.missing.filter (fun m => paired && decide (t ≤ m.2 + 10 * msPs))
              lastAt := modifyNth x1.lastAt port fun _ => some t }
  let d := if gone.isEmpty then d else (d.raiseFlag (F.INGEST_FLOW_STAT_PKT_LOST f)).bump (F.INGEST_FLOW_STAT_LOST_CNT f) gone.length
  let alive (p : Nat) : Bool := (nth (d.flow f).lastAt p none).any fun a => decide (t < a + 100 * msPs)
  d.setAll [(F.INGEST_FLOW_STAT_RECEIVING f, 1), (F.INGEST_FLOW_STAT_PAIRED f, (paired && alive 0 && alive 1).toNat)]

/-- FLOW_PACKET_RX: the RTP sequence number, the arrival in ps of wall time, whether the packet agrees with FMT and lies in the
type W model. -/
def execFlowPacketRx (f port seq t : Nat) (fmtOk inModel : Bool) (s : State) : Host.Outcome State Fault Refusal :=
  s.onDev fun d =>
    if !d.flowOn f port then d
    else if !fmtOk then d.raiseFlag (F.INGEST_FLOW_STAT_FORMAT f)
    else
      let d := if inModel then d else d.raiseFlag (F.INGEST_FLOW_STAT_TIMING f)
      d.flowSequence f port (seq % 65536) t

/-- FLOW_LOST: no packet for 100 ms. -/
def execFlowLost (f : Nat) (s : State) : Host.Outcome State Fault Refusal :=
  s.onDev fun d =>
    if !d.bit (F.INGEST_FLOW_STAT_RECEIVING f) || 40 ≤ f then d
    else
      let d := d.setAll [(F.INGEST_FLOW_STAT_RECEIVING f, 0), (F.INGEST_FLOW_STAT_PAIRED f, 0)]
      ((d.raiseFlag (F.INGEST_FLOW_STAT_FLOW_LOST f)).onFlow f fun _ => {}).eventSource (R.INGEST_FLOW_STAT f) 0x16 f .warning

/-- ANC_PACKET_RX: one record in the ring, its words aligned to 64 bytes. -/
def execAncPacketRx (f sec ns len : Nat) (payload : List Word) (s : State) : Host.Outcome State Fault Refusal :=
  let d := s.dev
  let area := d.ancArea
  if !(d.flowOn f 0 || d.flowOn f 1) || d.get (F.INGEST_FLOW_FMT_TYPE f) != 2 || area.2 = 0 then .next s
  else
    let ws := Word.pack [(0, 32, d.ingest.ancCount), (32, 16, len), (48, 8, f)] :: Word.of sec :: Word.pack [(0, 30, ns)] :: payload
    let size := ceilDiv (8 * ws.length) 64 * 64
    let pos := if area.2 < d.ingest.ancAt + size then 0 else d.ingest.ancAt
    .next { s with
      mem := memPutWords s.mem (area.1 + pos) ws
      dev := (d.stored (area.1 + pos) (8 * ws.length)).onIngest fun i => { i with ancAt := pos + size, ancCount := (i.ancCount + 1) % 2 ^ 32 } }

/-! ### Audio (R162 to R166) -/

/-- The rate of the port a channel leaves on. -/
def Dev.outRate (d : Dev) (k : Nat) : Nat := audioRate (d.get (F.INGEST_AOUT_CFG_RATE (k / 2)))

/-- The delay wanted for a channel in ps (R165): the light latency of its video source plus the trim, within its bounds, and
whether the upper bound held it. -/
def Dev.wantedDelay (d : Dev) (k : Nat) : Int × Bool :=
  let v := d.get (F.INGEST_ACH_CFG_VIDEO_SRC k)
  let l := if v = 63 then 0 else d.lightLatency v
  let x := l + d.getInt F.INGEST_AUD_CFG_TRIM_US * (usPs : Int)
  let top : Int := ((2 ^ d.get F.INGEST_AUD_CFG_RING_LOG2 * sPs / d.outRate k : Nat) : Int) - 2 * (msPs : Int)
  if x < (msPs : Int) then (msPs, false) else if top < x then (top, true) else (x, false)

/-- AIN0's measured rate with clocks from outside is more than 1 % away from its configured one (R163). -/
def Dev.ainAway (d : Dev) (rate : Nat) : Bool :=
  let cfg := audioRate (d.get F.INGEST_AIN_CFG_RATE)
  d.bit F.INGEST_AIN_CFG_CLOCK_IN && decide (cfg < (rate - cfg + (cfg - rate)) * 100)

/-- A sample as an audio port of a SLOT code carries it: its top bits, as a word of so many bits (R162, R166). -/
def slotSample (slot sample : Nat) : Nat := sample % 2 ^ 32 / 2 ^ (32 - slotBits slot)

/-- A sample for one channel: into its ring, or discarded when the ring is full.
DESIGN CHOICE (safe): log 47. -/
def State.channelSample (s : State) (k stamp sample rate : Nat) (guarded : Bool) : State :=
  let d := s.dev
  let c := d.channel k
  let cap := 2 ^ d.get F.INGEST_AUD_CFG_RING_LOG2
  let ain := d.get (F.INGEST_ACH_CFG_KIND k) == 2
  let nominal := if ain then audioRate (d.get F.INGEST_AIN_CFG_RATE) else rate
  let slot := d.get F.INGEST_AIN_CFG_SLOT
  let v := if ain then slotSample slot sample * 2 ^ (32 - slotBits slot) else sample % 2 ^ 32
  if nominal != d.outRate k || (ain && d.ainAway rate) then
    { s with dev := (d.onChannel k fun c => { c with mismatch := true, ring := [] }).audioFlag F.INGEST_AUD_STAT_RATE_MISMATCH k }
  else if cap ≤ c.ring.length then { s with dev := d.audioFlag F.INGEST_AUD_STAT_OVERRUN k }
  else
    { s with
      mem := memPutBytes s.mem ((d.audioRing k).1 + 4 * (c.wr % cap)) ((Word.bytes (Word.of v)).take 4)
      dev := (d.stored ((d.audioRing k).1 + 4 * (c.wr % cap)) 4).onChannel k fun c =>
        { c with ring := c.ring ++ [⟨stamp, v, guarded⟩], wr := (c.wr + 1) % cap, mismatch := false } }

/-- The source of audio samples delivers: port audio needs a locked port with AUDIO_EN, flows and AIN0 their enables. -/
def Dev.audioFed (d : Dev) (kind index : Nat) : Bool :=
  d.ingestRuns && d.clocked guAudio && d.bit F.INGEST_AUD_CFG_EN &&
  match kind with
  | 0 => d.vinOn index && d.bit (F.INGEST_VIN_STAT_LOCK index) && d.bit (F.INGEST_VIN_CFG_AUDIO_EN index)
  | 1 => d.bit (F.INGEST_FLOW_DST_EN index) && d.get (F.INGEST_FLOW_FMT_TYPE index) == 1
  | 2 => d.bit F.INGEST_AIN_CFG_EN
  | _ => false

/-- AUDIO_SAMPLE_RX: a sample of a source channel, stamped in ps of wall time, left-aligned in 32 bits. -/
def execAudioSampleRx (kind index ch stamp sample rate : Nat) (compressed : Bool) (s : State) : Host.Outcome State Fault Refusal :=
  let d := s.dev
  if !d.audioFed kind index then .next s
  else if kind = 0 && compressed then
    .next { s with dev := (d.raiseFlag (F.INGEST_VIN_STAT_AUDIO_COMPRESSED index)).set (F.INGEST_VIN_STAT_AUDIO_PRESENT index) 0 }
  else
    let s := if kind = 0 then { s with dev := d.set (F.INGEST_VIN_STAT_AUDIO_PRESENT index) 1 } else s
    .next ((List.range 8).foldl (fun s k =>
      if s.dev.get (F.INGEST_ACH_CFG_KIND k) = kind && s.dev.get (F.INGEST_ACH_CFG_INDEX k) = index &&
          s.dev.get (F.INGEST_ACH_CFG_CH k) = ch then s.channelSample k stamp sample rate (kind == 0 && d.cameGuarded index)
      else s) s)

/-- The fill a channel's ring is meant to have: its delay in samples. -/
def Dev.targetFill (d : Dev) (k : Nat) : Nat := (((d.channel k).delay * (d.outRate k : Int)) / (sPs : Int)).toNat

/-- Two dividers of KEEP_AMCLK_CFG give frequencies no more than so many ppm apart. -/
def ppmWithin (a b : Word) (ppm : Nat) : Bool :=
  let num (w : Word) : Nat := Word.field w 0 9 * Word.field w 32 16 + Word.field w 16 16
  let x := num a * Word.field b 32 16
  let y := num b * Word.field a 32 16
  decide ((x - y + (y - x)) * 1000000 ≤ ppm * y)

/-- The divider the firmware goes to for a trim: a valid one within 10 ppm of the present one and 500 ppm of the one it started from;
it stays where its choice is none such. EN does not move.
DESIGN CHOICE (safe): log 47. -/
def amclkStep (base cur : Word) (total : Int) : Word :=
  let n := Config.amclkTrimmed base total
  let w := ((cur.setField 0 9 n.1).setField 16 16 n.2.1).setField 32 16 n.2.2
  if amclkOk w && ppmWithin w cur 10 && ppmWithin w base 500 then w else cur

/-- AUDIO_TRACK_TRIM (R163): at most 10 ppm a step and 500 ppm in all.
DESIGN CHOICE (safe): log 47. -/
def execAudioTrackTrim (s : State) : Host.Outcome State Fault Refusal :=
  s.onDev fun d =>
    if !d.ingestRuns || !d.bit F.INGEST_AUD_CFG_EN || !d.bit F.INGEST_AUD_CFG_TRACK then d
    else
      let k := d.get F.INGEST_AUD_CFG_MASTER_CH
      let step := clampInt (-10) 10 (Config.trackStep (d.channel k).ring.length (d.targetFill k))
      let total := clampInt (-500) 500 (d.ingest.trim + step)
      let base := d.ingest.trimBase.getD (d.reg R.KEEP_AMCLK_CFG)
      let w := amclkStep base (d.reg R.KEEP_AMCLK_CFG) total
      let d := d.onIngest fun i => { i with trim := total, trimBase := some base }
      let d := (d.setReg R.KEEP_AMCLK_CFG w).onClk fun c => { c with amclk := w.toNat }
      if total.natAbs = 500 then d.audioFlag F.INGEST_AUD_STAT_TRACK_LIMIT k else d

/-- AUDIO_PORT_ENABLE (R164): the port's EN is written 1, under the rules of the register. -/
def execAudioPortEnable (c : Fin 4) (s : State) : Host.Outcome State Fault Refusal :=
  .next (s.writeRow (R.INGEST_AOUT_CFG c) (s.dev.reg (R.INGEST_AOUT_CFG c) ||| 1))

/-- AUDIO_PORT_DISABLE (R164): the port's EN is written 0. -/
def execAudioPortDisable (c : Fin 4) (s : State) : Host.Outcome State Fault Refusal :=
  .next (s.writeRow (R.INGEST_AOUT_CFG c) (s.dev.reg (R.INGEST_AOUT_CFG c) &&& ~~~1))

/-- AUDIO_PORT_STOP_DONE (R164): after the 256 periods of zeros the clocks stop, low. -/
def execAudioPortStopDone (c : Fin 4) (s : State) : Host.Outcome State Fault Refusal :=
  s.onDev fun d => match d.stage c with
    | .zeros n => if n < 256 then d else (d.setStage c .off).refreshSilent
    | _ => d

/-- A sample is 0 or of the other sign than the one before: a zero crossing. -/
def crossing (prev cur : Nat) : Bool := cur == 0 || prev.testBit 31 != cur.testBit 31

/-- A 32-bit sample, signed, at a fade level of 64 (R164: linear).
DESIGN CHOICE (safe): log 47. -/
def fadeSample (v level : Nat) : Nat :=
  if level = 0 then 0 else if 64 ≤ level then v
  else toSigned 32 (roundFree 5 ((signed 32 v : Rat) * level / 64))

/-- The sample of one period: the oldest of the ring, or where samples before it never came, a missing one in their place (R165:
output is at T + D_k); a free value where the ring is empty.
DESIGN CHOICE (safe): log 47. -/
def AudioCh.take (c : AudioCh) (per : Nat) : AudioCh × Nat :=
  match c.ring with
  | [] => (c, Config.missingSample c.prev)
  | x :: rest =>
    match c.prevStamp with
    | some p =>
      if 2 * p + 3 * per < 2 * x.stamp then ({ c with prevStamp := some (p + per) }, Config.missingSample c.prev)
      else ({ c with ring := rest, prevStamp := some x.stamp }, x.value)
    | none => ({ c with ring := rest, prevStamp := some x.stamp }, x.value)

/-- One period of a fade-out (R164): data at one level less, and silence at the end of it. -/
def AudioCh.fadeOut (c : AudioCh) (per : Nat) : AudioCh × Nat :=
  if c.level = 0 then ({ c with running := false, prevStamp := none }, 0)
  else
    let r := c.take per
    let l := c.level - 1
    ({ r.1 with level := l, prev := r.2, running := decide (0 < l), prevStamp := if l = 0 then none else r.1.prevStamp }, fadeSample r.2 l)

/-- What a channel does in a word-select period: the channel after it, the sample put out, whether its ring ran empty, and how many
samples it repeated or dropped. -/
structure AudioPeriod where
  ch : AudioCh
  out : Nat
  empty : Bool := false
  slips : Nat := 0

/-- The sample a channel puts out in a word-select period at a time in ps of wall time. The fade level moves by one of 64; `moved` is
D_k's step of the period in samples, which repeats or drops one (R165), as does a fill that has departed by more than 32 (R163).
DESIGN CHOICE (safe): log 47. -/
def AudioCh.period (c : AudioCh) (on tracked : Bool) (moved t : Int) (per target : Nat) : AudioPeriod :=
  let at_ (x : AudioSample) : Int := (x.stamp : Int) + c.delay
  if !on then
    let r := c.fadeOut per
    { ch := r.1, out := r.2 }
  else if !c.running then
    match c.ring.dropWhile fun x => decide (at_ x + per ≤ t) with
    | x :: rest =>
      if at_ x ≤ t then
        { ch := { c with ring := rest, running := true, level := 1, prev := x.value, prevStamp := some x.stamp, away := 0 }
          out := fadeSample x.value 1 }
      else { ch := { c with ring := x :: rest }, out := 0 }
    | [] => { ch := { c with ring := [] }, out := 0 }
  else if c.ring.isEmpty then
    let r := c.fadeOut per
    { ch := r.1, out := r.2, empty := true }
  else
    let l := min 64 (c.level + 1)
    if 0 < moved then
      -- a longer delay: the last sample once more
      { ch := { c with level := l }, out := fadeSample c.prev l, slips := 1 }
    else
      let r := (if moved < 0 then (c.take per).1 else c).take per
      let fill := c.ring.length
      let far := !tracked && (decide (target + 32 < fill) || decide (fill + 32 < target))
      let away := if far then c.away + 1 else 0
      let slip := far && (crossing c.prev r.2 || decide (256 ≤ away))
      -- too full: one more leaves the ring; too empty: this one comes again
      let ch := if !slip then r.1 else if target < fill then (r.1.take per).1 else { r.1 with ring := c.ring, prevStamp := c.prevStamp }
      { ch := { ch with level := l, prev := r.2, away := if slip then 0 else away }, out := fadeSample r.2 l
        slips := slip.toNat + (decide (moved < 0)).toNat }

/-- D_k in force follows the wanted delay by one sample per 1,000 (R165), and by how many samples it moves now.
DESIGN CHOICE (safe): log 47. -/
def AudioCh.follow (c : AudioCh) (want : Int) (per : Nat) : AudioCh × Int :=
  if !c.running then ({ c with delay := want, sinceMove := 0 }, 0)
  else if c.sinceMove + 1 < 1000 then ({ c with sinceMove := c.sinceMove + 1 }, 0)
  else if c.delay + per ≤ want then ({ c with sinceMove := 0, delay := c.delay + per }, 1)
  else if want + per ≤ c.delay then ({ c with sinceMove := 0, delay := c.delay - per }, -1)
  else (c, 0)

/-- One channel's part of a word-select period. -/
def Dev.channelPeriod (d : Dev) (k t : Nat) (portOn : Bool) : Dev × Nat :=
  let per := sPs / d.outRate k
  let want := d.wantedDelay k
  let f := (d.channel k).follow want.1 per
  let on := portOn && d.ingestRuns && d.bit F.INGEST_AUD_CFG_EN && !d.bit (F.INGEST_ACH_CFG_MUTE k) && !f.1.mismatch
  let tracked := d.bit F.INGEST_AUD_CFG_TRACK && d.get F.INGEST_AUD_CFG_MASTER_CH == k
  let target := ((f.1.delay * (d.outRate k : Int)) / (sPs : Int)).toNat
  let r := f.1.period on tracked f.2 t per target
  let d := d.onChannel k fun _ => r.ch
  let d := if want.2 then d.audioFlag F.INGEST_AUD_STAT_DELAY_CLAMP k else d
  let d := if r.empty then d.audioFlag F.INGEST_AUD_STAT_UNDERRUN k else d
  (if 0 < r.slips then d.bump F.INGEST_AUD_STAT_SLIP_CNT r.slips else d, r.out)

/-- A port's two words of a period, in its format and slots (R162): samples are left-aligned, and a slot takes their top bits. -/
def Dev.audioOut (d : Dev) (c left right : Nat) : Dev :=
  let slot := d.get (F.INGEST_AOUT_CFG_SLOT c)
  d.emit (.i2s c (d.bit (F.INGEST_AOUT_CFG_FORMAT c)) (slotBits slot) (slotSample slot left) (slotSample slot right))

/-- AOUT_WORD_SELECT_PERIOD (R164 to R166): the port puts out one sample of each of its channels, or zeros. -/
def execAoutWordSelectPeriod (c : Fin 4) (t : Nat) (s : State) : Host.Outcome State Fault Refusal :=
  s.onDev fun d =>
    let n := c.val
    let both (d : Dev) (on : Bool) : Dev :=
      let l := d.channelPeriod (2 * n) t on
      let r := l.1.channelPeriod (2 * n + 1) t on
      (r.1.audioOut n l.2 r.2).refreshSilent
    if !d.clocked guAudio then d
    else match d.stage n with
    | .off => d
    | .starting k => (d.setStage n (if k + 1 < 256 then .starting (k + 1) else .run)).audioOut n 0 0
    | .run => both d true
    | .fading k =>
      -- enabled again during the fade: the start's zeros follow it
      let after : AudioStage := if d.bit (F.INGEST_AOUT_CFG_EN c) && !d.ingest.asleep then .starting 0 else .zeros 0
      both (d.setStage n (if k + 1 < 64 then .fading (k + 1) else after)) false
    | .zeros k => ((d.setStage n (.zeros (satTo 256 (k + 1)))).audioOut n 0 0).refreshSilent

end Sys2Proof.Machine
end

