-- ==== Sys2Proof/Machine/Time.lean ====
section
/-!
DEFINITION. The rows of wall time (R312 to R339): TIME parcels, PTP messages, the servo's timers, FSYNC.
-/
namespace Sys2Proof.Machine

open Sys2Proof

/-- What follows a step on a sender: the frame in composition is aborted and composition resumes 2 ms later (R318). -/
def Dev.steppedFrames (d : Dev) (stepped : Bool) : Dev :=
  if stepped && d.isSender then d.stepFrames else d

/-! ### Time on the loop (R322 to R327) -/

/-- The side a port's TIME parcels count for: the end a tile's port faces; on a twin standby the pair link is the first
side and its loop ends are the second (R327). A holder and a single sender measure nothing.
DEDUCED (unsafe): log 72. -/
def Dev.timeSide (d : Dev) (n : Nat) : Option Nat :=
  if d.isTile then some (d.tileEnd n)
  else if d.isStandby then some (if n = d.pairPort then 0 else 1)
  else none

/-- The side followed. -/
def Dev.followed (d : Dev) : Nat :=
  if d.isTile then d.get F.TIME_STAT_SIDE else if d.bit F.CTRL_PAIR_STAT_PAIR_UP then 0 else 1

/-- The loop followed is in COL (R326): the tile's port of that side, a standby's pair port or the loop port it shows. -/
def Dev.followsCol (d : Dev) : Bool :=
  (List.range 8).any fun n =>
    d.timeSide n == some d.followed && (d.isTile || n == d.pairPort || d.time.shown == some n) && d.portState n == lsCol

/-- A valid offset reaches the servo, with what a step brings. -/
def Dev.offset (d : Dev) (off : Int) : Dev :=
  let r := d.servoOffset d.followsCol off
  r.1.steppedFrames r.2

/-- The neighbour's HOPS and VALID are taken, and the side followed with them (R324, R327). -/
def Dev.takeHops (d : Dev) (side hops : Nat) (valid : Bool) : Dev :=
  let d := d.setAll [(F.TIME_LOOP_SIDE_HOPS side, hops), (F.TIME_LOOP_SIDE_VALID side, valid.toNat)]
  if d.isTile then d.refreshSide else d.set F.TIME_STAT_HOPS (satTo 127 (d.sideHops d.followed + 1))

/-- The loop port whose neighbour has the smaller HOPS is the one a standby shows as its B side (R327). -/
def Dev.showsPort (d : Dev) (n side hops : Nat) : Bool :=
  d.isTile || side == 0 || d.time.shown == some n || d.time.shown.isNone || decide (hops < d.sideHops 1)

/-- Units of 2^-32 ns as ps, rounded down. -/
def psOfUnits (u : Int) : Int := u * 1000 / (nsU : Int)

/-- One measurement of d and θ in ps joins the average of its port; the sixteenth is shown and drives the servo (R323). -/
def Dev.timeSample (d : Dev) (n side : Nat) (delay theta : Int) : Dev :=
  let t := nth d.time.sides n {}
  let put (t : TimeSide) : Dev := d.onTime fun x => { x with sides := modifyNth x.sides n fun _ => t }
  let mean := t.meanD.orElse fun _ =>
    if t.samples.isEmpty then none else some ((t.samples.map (·.1)).foldl (· + ·) 0 / (t.samples.length : Int))
  if mean.any fun m => decide (200 < (delay - m).natAbs) then put { t with dropped := t.dropped + 1 }
  else
    let ss := (delay, theta) :: t.samples
    if ss.length < 16 then put { t with samples := ss }
    else
      let dm := (ss.map (·.1)).foldl (· + ·) 0 / 16
      let tm := (ss.map (·.2)).foldl (· + ·) 0 / 16
      let d := put { t with samples := [], meanD := some dm }
      let d := (d.setInt (F.TIME_LOOP_SIDE_THETA_PS side) tm).set (F.TIME_LOOP_SIDE_DELAY_PS side) (satTo (2 ^ 24 - 1) dm.toNat)
      if d.followed = side && d.get F.TIME_STAT_SRC_IN_USE = 4 then d.offset tm else d

/-- TIME_PARCEL_RX (R322 to R325): the receiver keeps what it echoes and measures its side.
DEDUCED (unsafe): log 65. -/
def execTimeParcelRx (port : Fin 8) (p : TimeParcel) (s : State) : Host.Outcome State Fault Refusal :=
  s.onDev fun d =>
    let n := port.val
    if !d.time.running || d.portState n < lsCol then d
    else
      let sent := ((nth d.time.sides n {}).launches.find? fun l => l.1 == p.echoSeq).map (·.2)
      let d := d.onTime fun t => { t with sides := modifyNth t.sides n fun x => { x with echo := some (p.seq, p.arrival) } }
      match d.timeSide n with
      | none => d
      | some side =>
        if !d.showsPort n side p.hops then d
        else
          let d := if !d.isTile && side == 1 then d.onTime fun t => { t with shown := some n } else d
          let d := d.takeHops side p.hops p.valid
          let d := if d.followed = side then d.onTime fun t => { t with info := p.info } else d
          match p.echoValid, sent with
          | true, some t3 =>
            let a : Int := (p.arrival : Int) - p.t1
            let b : Int := (p.t4 : Int) - t3
            d.timeSample n side (psOfUnits ((a + b) / 2)) (psOfUnits ((b - a) / 2))
          | _, _ => d

/-! ### PTP (R319, R320) -/

def Dev.onPtp (d : Dev) (k : Nat) (f : PtpPath → PtpPath) : Dev := d.onTime fun t => { t with paths := modifyNth t.paths k f }

/-- The grandmaster in use changes when the path or its dataset does (R319): the servo keeps its rate. -/
def Dev.settleMaster (d : Dev) (oldPath : Option Nat) (oldId : Nat) : Dev :=
  let d := d.refreshSource.refreshPtpInfo
  let id := d.gmIdentity
  if oldPath.isSome && d.pathInUse.isSome && (oldPath != d.pathInUse || oldId != id) && oldId != 0 &&
      !(oldPath == some 2 && d.pathInUse != some 2 && oldId == id) then
    d.masterChange oldId id
  else d

/-- A completed Sync gives an offset once the path has been measured: reference minus counter. -/
def Dev.syncDone (d : Dev) (k : Nat) (ms : Int) : Dev :=
  let asym := d.getInt F.TIME_PTP_CFG_ASYM_PS
  let off := (d.ptp k).path.map fun p => p + asym - ms
  let oldPath := d.pathInUse
  let oldId := d.gmIdentity
  let d := d.onPtp k fun p => { p with ms := some ms, sync := none, offset := off }
  let d := d.settleMaster oldPath oldId
  match off with
  | some o =>
    if d.pathInUse = some k && (d.get F.TIME_STAT_SRC_IN_USE = 1 || d.get F.TIME_STAT_SRC_IN_USE = 2) then d.offset o else d
  | none => d

/-- PTP_SYNC_RX: one-step messages complete at once, two-step ones wait for their Follow_Up. -/
def execPtpSyncRx (path : Fin 3) (seq : Nat) (twoStep : Bool) (t1 corr t2 : Int) (s : State) : Host.Outcome State Fault Refusal :=
  s.onDev fun d =>
    if !d.ptpRuns path || (d.ptp path).master.isNone then d
    else if twoStep then d.onPtp path fun p => { p with sync := some (seq, t2 - corr) }
    else d.syncDone path (t2 - t1 - corr)

/-- PTP_FOLLOW_UP_RX. -/
def execPtpFollowUpRx (path : Fin 3) (seq : Nat) (t1 corr : Int) (s : State) : Host.Outcome State Fault Refusal :=
  s.onDev fun d =>
    if !d.ptpRuns path then d
    else match (d.ptp path).sync with
      | some (q, t2) => if q = seq then d.syncDone path (t2 - t1 - corr) else d
      | none => d

/-- PTP_DELAY_RESP_RX: the mean path delay, end to end. -/
def execPtpDelayRespRx (path : Fin 3) (seq : Nat) (t4 corr : Int) (s : State) : Host.Outcome State Fault Refusal :=
  s.onDev fun d =>
    if !d.ptpRuns path then d
    else match (d.ptp path).req, (d.ptp path).ms with
      | some (q, t3), some ms =>
        if q = seq then
          (d.onPtp path fun p => { p with req := none, path := some ((ms + (t4 - t3 - corr)) / 2) }).refreshPtpInfo
        else d
      | _, _ => d

/-- PTP_DELAY_REQ_TX: a path with a master asks, to it alone with UNICAST_DREQ = 1 (R320). -/
def execPtpDelayReqTx (path : Fin 3) (t3 : Int) (s : State) : Host.Outcome State Fault Refusal :=
  s.onDev fun d =>
    if !d.ptpRuns path || (d.ptp path).master.isNone then d
    else
      let q := (d.ptp path).nextReq
      (d.onPtp path fun p => { p with req := some (q, t3), nextReq := (q + 1) % 65536 }).emit
        (.ptp path q (d.bit F.TIME_PTP_CFG_UNICAST_DREQ) t3)

/-- PTP_ANNOUNCE_RX: the best master of the path by the BMCA comparison; a new one starts its measurements again. -/
def execPtpAnnounceRx (path : Fin 3) (a : Announce) (s : State) : Host.Outcome State Fault Refusal :=
  s.onDev fun d =>
    if !d.ptpRuns path || a.domain != d.get F.TIME_PTP_CFG_DOMAIN then d
    else
      let ds := [a.priority1, a.clockClass, a.accuracy, a.variance, a.priority2, a.identity, a.steps]
      let old := (d.ptp path).master
      let same := old.any fun m => nth m 5 0 == a.identity
      let wins := match old with
        | none => true
        | some m => same || betterMaster ds m
      if !wins then d
      else
        let oldPath := d.pathInUse
        let oldId := d.gmIdentity
        let d := d.onPtp path fun p =>
          let p := { p with master := some ds, utc := a.utc, utcValid := a.utcValid, leap61 := a.leap61, leap59 := a.leap59 }
          if same then p else { p with sync := none, ms := none, req := none, path := none, offset := none }
        d.settleMaster oldPath oldId

/-- PTP_MGMT_RX: delivered as EV_TIME SM_TLV, up to 16 words (R320, R338). -/
def execPtpMgmtRx (path : Fin 3) (tlv : List Word) (s : State) : Host.Outcome State Fault Refusal :=
  s.onDev fun d => if d.ptpRuns path then d.eventTime' 0x08 .info (tlv.take 16) else d

/-! ### Timers of the servo (R316 to R319) -/

/-- SERVO_REF_LOST: the reference in use is lost. A PTP path loses its master; a lost FSYNC_IN is no longer present. -/
def execServoRefLost (s : State) : Host.Outcome State Fault Refusal :=
  s.onDev fun d =>
    let src := d.get F.TIME_STAT_SRC_IN_USE
    let d := if src = 3 then
        (((d.set F.TIME_FSYNC_STAT_IN_PRESENT 0).onTime fun t => { t with fsMark := none }).raiseFlag F.TIME_STAT_FSYNC_LOST).eventTime' 0x06 .warning
      else match (if src = 1 || src = 2 then d.pathInUse else none) with
        | some k => d.onPtp k fun p => { p with master := none, sync := none, ms := none, req := none, path := none, offset := none }
        | none => d
    (if src = 0 then d else d.timeLost).refreshSource.refreshPtpInfo

/-- TIME_HOLD_LONG (R317). -/
def execTimeHoldLong (s : State) : Host.Outcome State Fault Refusal :=
  s.onDev fun d => if d.timeState = tsHold then (d.raiseFlag F.TIME_STAT_HOLD_LONG).eventTime' 0x09 .fault else d

/-- MASTER_CHANGE_HOLD_END (R319): the servo acquires the new offset.
DEDUCED (unsafe): log 73. -/
def execMasterChangeHoldEnd (s : State) : Host.Outcome State Fault Refusal :=
  s.onDev fun d =>
    if d.time.keepUntil.isNone then d
    else
      let d := d.onTime fun t => { t with keepUntil := none }
      if d.timeState = tsLocked then d.setTimeState tsAcquire else d

/-! ### FSYNC (R330 to R335) -/

/-- The frame whose start lies nearest to a time in ps: the later of two when both are as near. -/
def Dev.nearestFrame (d : Dev) (ps : Int) : Int :=
  let n := d.frameAt (ps * (nsU : Int) / 1000).toNat
  if ps - d.framePs10 n < d.framePs10 (n + 1) - ps then n else n + 1

/-- Where the reference says an FSYNC_IN edge that arrives near a time in ps belongs: a frame start plus OFFSET, or a
millisecond boundary. -/
def Dev.fsyncPlace (d : Dev) (ps : Int) : Int :=
  if d.get F.TIME_FSYNC_IN_CFG_MODE = 3 then (2 * ps + 1000000000) / 2000000000 * 1000000000
  else
    let off := d.getInt F.TIME_FSYNC_IN_CFG_OFFSET * 1000
    d.framePs10 (d.nearestFrame (ps - off)) + off

/-- Where an edge belongs by its seconds mark, in PHASE mode (R332, R333): k edges after a mark, k milliseconds after a second. Before a
mark has come, PHASE edges have no place. -/
def Dev.fsyncCoarse (d : Dev) (ps : Int) : Option Int :=
  if d.get F.TIME_FSYNC_IN_CFG_MODE = 3 then
    d.time.fsMark.map fun k =>
      let at_ : Int := (k : Int) * 1000000000
      (2 * (ps - at_) + 1000000000000) / 2000000000000 * 1000000000000 + at_
  else some (d.fsyncPlace ps)

/-- The coarse time's offset from the counter (R333): none while the path named by COARSE has none. -/
def Dev.coarseOffset (d : Dev) : Option Int :=
  match d.get F.TIME_CFG_COARSE with
  | 2 => some 0
  | c => match (if c = 0 then d.hwPort else some 2) with
    | some k => if d.ptpQualified k then (d.ptp k).offset else none
    | none => none

/-- An edge joins the mean over 256 that IN_OFFSET_PS shows (R332).
DEDUCED (unsafe): log 73. -/
def Dev.fsyncMean (d : Dev) (e : Int) : Dev :=
  let n := d.time.fsIn.1 + 1
  let sum := d.time.fsIn.2 + e
  if n < 256 then d.onTime fun t => { t with fsIn := (n, sum) }
  else (d.onTime fun t => { t with fsIn := (0, 0) }).setInt F.TIME_FSYNC_STAT_IN_OFFSET_PS (sum / 256)

/-- The seconds marks of PHASE mode: 1,000 edges after a mark the next must carry one (R332). -/
def Dev.fsyncMark (d : Dev) (mark : Bool) : Dev :=
  if d.get F.TIME_FSYNC_IN_CFG_MODE != 3 then d
  else if mark then d.onTime fun t => { t with fsMark := some 0 }
  else match d.time.fsMark with
    | none => d
    | some k =>
      if k < 999 then d.onTime fun t => { t with fsMark := some (k + 1) }
      else (d.raiseFlag F.TIME_FSYNC_STAT_IN_EDGE_ERR).onTime fun t => { t with fsMark := some 0 }

/-- FSYNC_IN_EDGE (R332, R333, R335): the stamp in ps, and whether the pulse is a seconds mark. -/
def execFsyncInEdge (stamp : Int) (mark : Bool) (s : State) : Host.Outcome State Fault Refusal :=
  s.onDev fun d =>
    let mode := d.get F.TIME_FSYNC_IN_CFG_MODE
    if mode = 0 || !d.time.running then d
    else
      let d := ((d.fsyncMark mark).onTime fun t => { t with fsAt := t.fsAt.max d.now }).set F.TIME_FSYNC_STAT_IN_PRESENT 1
      let e := stamp - (d.get F.TIME_FSYNC_IN_CFG_CABLE_PS : Int)
      let d := d.refreshSource
      let steers := d.get F.TIME_STAT_SRC_IN_USE = 3 && 2 ≤ mode && !d.isStandby
      if steers && d.timeState != tsLocked then
        match d.coarseOffset with
        | none => (d.raiseFlag F.TIME_STAT_FSYNC_LOST).eventTime' 0x06 .warning
        | some c => match d.fsyncCoarse (e + c) with
          | some t => d.offset (t - e)
          | none => d
      else
        let off := e - d.fsyncPlace e
        if 500000 < off.natAbs then d.raiseFlag F.TIME_FSYNC_STAT_IN_EDGE_ERR
        else
          let d := if mode = 3 then d else d.fsyncMean off
          if steers then d.offset (-off) else d

/-- FSYNC_OUT_PULSE (R330, R331): the output's pulse for frame n, or for millisecond n in PHASE mode. Edges are rounded to
10 ps and leave 1.25 ns after their nominal time. -/
def execFsyncOutPulse (o : Fin 2) (n : Nat) (s : State) : Host.Outcome State Fault Refusal :=
  s.onDev fun d =>
    let k := o.val
    let off := d.getInt (F.TIME_FSYNC_OUT_CFG_OFFSET k) * 1000
    let width := d.get (F.TIME_FSYNC_OUT_CFG_WIDTH k) * 10
    let low := d.bit (F.TIME_FSYNC_OUT_CFG_POL k)
    if !d.time.running then d
    else match d.get (F.TIME_FSYNC_OUT_CFG_MODE k) with
      | 1 =>
        if n % (d.get (F.TIME_FSYNC_OUT_CFG_DIV k) + 1) = d.get (F.TIME_FSYNC_OUT_CFG_PHASE k) then
          d.emit (.fsync k (d.framePs10 n + off + 1250) width low)
        else d
      | 2 =>
        let slot := d.get (F.TIME_FSYNC_OUT_CFG_SLOT k)
        if d.get (F.COMPOSE_SLOT_CFG_CONTENT slot) = 0 || d.bit (F.COMPOSE_SLOT_CFG_CLOSED slot) then
          d.emit (.fsync k ((d.framePs10 n + 2500 * (d.get (F.COMPOSE_SLOT_TIME_START slot) : Int)) + off + 1250) width low)
        else d
      | 3 =>
        if d.time.leftFree then d.emit (.fsync k ((n : Int) * 1000000000 + 1250) (if n % 1000 = 0 then 2000 else 1000) low) else d
      | _ => d

end Sys2Proof.Machine
end

