-- ==== Sys2Proof/Machine/Dispatch.lean ====
section
/-!
DEFINITION. Each command's meaning: one arm for each constructor, in the table's order.
-/
namespace Sys2Proof.Machine

open Sys2Proof

def exec (i : Instr) (s : State) : Host.Outcome State Fault Refusal :=
  match i with
  | .ping h => Sys2Proof.Machine.execPing h s
  | .getCaps h => Sys2Proof.Machine.execGetCaps h s
  | .getState h => Sys2Proof.Machine.execGetState h s
  | .readReg h addr count => Sys2Proof.Machine.execReadReg h addr count s
  | .writeReg h addr vals => Sys2Proof.Machine.execWriteReg h addr vals s
  | .writeField h addr mask value => Sys2Proof.Machine.execWriteField h addr mask value s
  | .memRead h addr count => Sys2Proof.Machine.execMemRead h addr count s
  | .memWrite h addr vals => Sys2Proof.Machine.execMemWrite h addr vals s
  | .dmaIn h hostAddr devAddr bytes flags data => Sys2Proof.Machine.execDmaIn h hostAddr devAddr bytes flags data s
  | .dmaOut h hostAddr devAddr bytes flags => Sys2Proof.Machine.execDmaOut h hostAddr devAddr bytes flags s
  | .txnBegin h => Sys2Proof.Machine.execTxnBegin h s
  | .txnCommit h mode time => Sys2Proof.Machine.execTxnCommit h mode time s
  | .txnRollback h => Sys2Proof.Machine.execTxnRollback h s
  | .txnStatus h => Sys2Proof.Machine.execTxnStatus h s
  | .eventSubscribe h mask => Sys2Proof.Machine.execEventSubscribe h mask s
  | .cvRun h unit addr len width => Sys2Proof.Machine.execCvRun h unit addr len width s
  | .resetRegion h idx => Sys2Proof.Machine.execResetRegion h idx s
  | .resetDevice h => Sys2Proof.Machine.execResetDevice h s
  | .powerState h target => Sys2Proof.Machine.execPowerState h target s
  | .locate h w => Sys2Proof.Machine.execLocate h w s
  | .loopEnum h loop => Sys2Proof.Machine.execLoopEnum h loop s
  | .tileStatus h => Sys2Proof.Machine.execTileStatus h s
  | .tablePush h mask => Sys2Proof.Machine.execTablePush h mask s
  | .tokenStatus h => Sys2Proof.Machine.execTokenStatus h s
  | .tokenYield h => Sys2Proof.Machine.execTokenYield h s
  | .imageLoad h slot cls src bytes => Sys2Proof.Machine.execImageLoad h slot cls src bytes s
  | .imageVerify h w => Sys2Proof.Machine.execImageVerify h w s
  | .imageActivate h w => Sys2Proof.Machine.execImageActivate h w s
  | .attest h n0 n1 n2 n3 => Sys2Proof.Machine.execAttest h n0 n1 n2 n3 s
  | .bootLock h => Sys2Proof.Machine.execBootLock h s
  | .calRun h mask => Sys2Proof.Machine.execCalRun h mask s
  | .ledgerSave h => Sys2Proof.Machine.execLedgerSave h s
  | .timeGet h => Sys2Proof.Machine.execTimeGet h s
  | .commitValidated o => Sys2Proof.Machine.execCommitValidated o s
  | .txnTimeout o => Sys2Proof.Machine.execTxnTimeout o s
  | .cqTailDoorbell q idx => Sys2Proof.Machine.execCqTailDoorbell q idx s
  | .pcieCommandSlot q words => Sys2Proof.Machine.execPcieCommandSlot q words s
  | .rqHeadUpdate q idx => Sys2Proof.Machine.execRqHeadUpdate q idx s
  | .eqHeadUpdate idx => Sys2Proof.Machine.execEqHeadUpdate idx s
  | .qReset q => Sys2Proof.Machine.execQReset q s
  | .pcieFlrLinkDown => Sys2Proof.Machine.execPcieFlrLinkDown s
  | .ethDatagramRx ip port bytes => Sys2Proof.Machine.execEthDatagramRx ip port bytes s
  | .ethSessionTimeout k => Sys2Proof.Machine.execEthSessionTimeout k s
  | .writePkt bytes => Sys2Proof.Machine.execWritePkt bytes s
  | .readStat => Sys2Proof.Machine.execReadStat s
  | .readPkt clocked => Sys2Proof.Machine.execReadPkt clocked s
  | .evLostDeliver o => Sys2Proof.Machine.execEvLostDeliver o s
  | .statusFlagClear addr mask hwSet => Sys2Proof.Machine.execStatusFlagClear addr mask hwSet s
  | .registerWrite space addr value => Sys2Proof.Machine.execRegisterWrite space addr value s
  | .cvuFeed unit width value => Sys2Proof.Machine.execCvuFeed unit width value s
  | .cvuInitLoad unit value => Sys2Proof.Machine.execCvuInitLoad unit value s
  | .cvuWidthWrite unit value => Sys2Proof.Machine.execCvuWidthWrite unit value s
  | .amclkCfgWrite value => Sys2Proof.Machine.execAmclkCfgWrite value s
  | .gateRunWrite value => Sys2Proof.Machine.execGateRunWrite value s
  | .railCfgWrite n value => Sys2Proof.Machine.execRailCfgWrite n value s
  | .audioPortEnable c => Sys2Proof.Machine.execAudioPortEnable c s
  | .audioPortDisable c => Sys2Proof.Machine.execAudioPortDisable c s
  | .audioPortStopDone c => Sys2Proof.Machine.execAudioPortStopDone c s
  | .ikeyEnrol slot => Sys2Proof.Machine.execIkeyEnrol slot s
  | .ikeyRevoke slot => Sys2Proof.Machine.execIkeyRevoke slot s
  | .ikeyAutolock => Sys2Proof.Machine.execIkeyAutolock s
  | .lampMapClear => Sys2Proof.Machine.execLampMapClear s
  | .faultResume => Sys2Proof.Machine.execFaultResume s
  | .fbClear => Sys2Proof.Machine.execFbClear s
  | .porstAssert => Sys2Proof.Machine.execPorstAssert s
  | .porstRelease x => Sys2Proof.Machine.execPorstRelease x s
  | .brownout => Sys2Proof.Machine.execBrownout s
  | .dataImageLoadDone cls => Sys2Proof.Machine.execDataImageLoadDone cls s
  | .caldbLoadDone => Sys2Proof.Machine.execCaldbLoadDone s
  | .hkoStable => Sys2Proof.Machine.execHkoStable s
  | .hkoStartTimeout => Sys2Proof.Machine.execHkoStartTimeout s
  | .refclkQualWindow count => Sys2Proof.Machine.execRefclkQualWindow count s
  | .refclkQualTimeout => Sys2Proof.Machine.execRefclkQualTimeout s
  | .rpllLock => Sys2Proof.Machine.execRpllLock s
  | .refStop => Sys2Proof.Machine.execRefStop s
  | .refGlitch => Sys2Proof.Machine.execRefGlitch s
  | .rateWindow seen => Sys2Proof.Machine.execRateWindow seen s
  | .requalWindow count => Sys2Proof.Machine.execRequalWindow count s
  | .relockDone => Sys2Proof.Machine.execRelockDone s
  | .clockHoldLong => Sys2Proof.Machine.execClockHoldLong s
  | .muxForceSwitch => Sys2Proof.Machine.execMuxForceSwitch s
  | .rpllFault => Sys2Proof.Machine.execRpllFault s
  | .sleepEntry => Sys2Proof.Machine.execSleepEntry s
  | .deepEntry => Sys2Proof.Machine.execDeepEntry s
  | .wakeEvent port => Sys2Proof.Machine.execWakeEvent port s
  | .deepWakeSupplyOk x => Sys2Proof.Machine.execDeepWakeSupplyOk x s
  | .deepWakeSupplyTimeout => Sys2Proof.Machine.execDeepWakeSupplyTimeout s
  | .regionResetDone r => Sys2Proof.Machine.execRegionResetDone r s
  | .dramReadCheck port addr frame reads => Sys2Proof.Machine.execDramReadCheck port addr frame reads s
  | .driftUpdate lanes => Sys2Proof.Machine.execDriftUpdate lanes s
  | .rhThreshold port addr acts => Sys2Proof.Machine.execRhThreshold port addr acts s
  | .rhTableClear => Sys2Proof.Machine.execRhTableClear s
  | .dramTempRead temps => Sys2Proof.Machine.execDramTempRead temps s
  | .backgroundFillDone => Sys2Proof.Machine.execBackgroundFillDone s
  | .portUrgencyRise event more => Sys2Proof.Machine.execPortUrgencyRise event more s
  | .portTargetMiss events => Sys2Proof.Machine.execPortTargetMiss events s
  | .vinLocked p m => Sys2Proof.Machine.execVinLocked p m s
  | .vinLockLost p => Sys2Proof.Machine.execVinLockLost p s
  | .vinModeChange p m => Sys2Proof.Machine.execVinModeChange p m s
  | .hpdPulseEnd p => Sys2Proof.Machine.execHpdPulseEnd p s
  | .hdcpAuthChange p result type1 => Sys2Proof.Machine.execHdcpAuthChange p result type1 s
  | .sourceFrameComplete src f => Sys2Proof.Machine.execSourceFrameComplete src f s
  | .flowPacketRx f port seq t fmtOk inModel => Sys2Proof.Machine.execFlowPacketRx f port seq t fmtOk inModel s
  | .flowLost f => Sys2Proof.Machine.execFlowLost f s
  | .ancPacketRx f sec ns len payload => Sys2Proof.Machine.execAncPacketRx f sec ns len payload s
  | .audioSampleRx kind index ch stamp sample rate compressed => Sys2Proof.Machine.execAudioSampleRx kind index ch stamp sample rate compressed s
  | .audioTrackTrim => Sys2Proof.Machine.execAudioTrackTrim s
  | .saddleLatch m => Sys2Proof.Machine.execSaddleLatch m s
  | .compositionWindowStart n => Sys2Proof.Machine.execCompositionWindowStart n s
  | .compositionLine k => Sys2Proof.Machine.execCompositionLine k s
  | .checkpointMiss k slot tile => Sys2Proof.Machine.execCheckpointMiss k slot tile s
  | .frameDeadline n => Sys2Proof.Machine.execFrameDeadline n s
  | .workItemDispatch => Sys2Proof.Machine.execWorkItemDispatch s
  | .workItemComplete engine cycles fault => Sys2Proof.Machine.execWorkItemComplete engine cycles fault s
  | .itemWatchdog engine => Sys2Proof.Machine.execItemWatchdog engine s
  | .fabricParityMismatch arrival more => Sys2Proof.Machine.execFabricParityMismatch arrival more s
  | .storedWordParity read more => Sys2Proof.Machine.execStoredWordParity read more s
  | .engineSuspectExpiry engine => Sys2Proof.Machine.execEngineSuspectExpiry engine s
  | .basinLoadDone b failed => Sys2Proof.Machine.execBasinLoadDone b failed s
  | .diagEngineRun engine pass => Sys2Proof.Machine.execDiagEngineRun engine pass s
  | .diagPoolRun b reads => Sys2Proof.Machine.execDiagPoolRun b reads s
  | .frameStart n => Sys2Proof.Machine.execFrameStart n s
  | .slotUpload n slot => Sys2Proof.Machine.execSlotUpload n slot s
  | .slotSwap n slot => Sys2Proof.Machine.execSlotSwap n slot s
  | .pwmCycleStart n slot cycle samples => Sys2Proof.Machine.execPwmCycleStart n slot cycle samples s
  | .lineBoundary n slot cycle line => Sys2Proof.Machine.execLineBoundary n slot cycle line s
  | .proofVisit t => Sys2Proof.Machine.execProofVisit t s
  | .waitEventReturn g => Sys2Proof.Machine.execWaitEventReturn g s
  | .laneNop g => Sys2Proof.Machine.execLaneNop g s
  | .laneShift g n => Sys2Proof.Machine.execLaneShift g n s
  | .laneShiftK g k n => Sys2Proof.Machine.execLaneShiftK g k n s
  | .lanePins g lat blk mask clken h => Sys2Proof.Machine.execLanePins g lat blk mask clken h s
  | .laneWait g event => Sys2Proof.Machine.execLaneWait g event s
  | .laneTPulse g pin level offset width => Sys2Proof.Machine.execLaneTPulse g pin level offset width s
  | .laneSetC g c value => Sys2Proof.Machine.execLaneSetC g c value s
  | .laneLoop g c target => Sys2Proof.Machine.execLaneLoop g c target s
  | .laneJump g target => Sys2Proof.Machine.execLaneJump g target s
  | .laneGclk g div => Sys2Proof.Machine.execLaneGclk g div s
  | .laneRdiag g flags => Sys2Proof.Machine.execLaneRdiag g flags s
  | .laneEnd g => Sys2Proof.Machine.execLaneEnd g s
  | .proofDue lamp em => Sys2Proof.Machine.execProofDue lamp em s
  | .coverageLow lamp em => Sys2Proof.Machine.execCoverageLow lamp em s
  | .railStart => Sys2Proof.Machine.execRailStart s
  | .railGood n => Sys2Proof.Machine.execRailGood n s
  | .railSeqTimeout n => Sys2Proof.Machine.execRailSeqTimeout n s
  | .railStop => Sys2Proof.Machine.execRailStop s
  | .railComparatorTrip n => Sys2Proof.Machine.execRailComparatorTrip n s
  | .railRestart n => Sys2Proof.Machine.execRailRestart n s
  | .railUndervoltage n => Sys2Proof.Machine.execRailUndervoltage n s
  | .capEvaluate => Sys2Proof.Machine.execCapEvaluate s
  | .driveItemRx end_ cap blank from_ => Sys2Proof.Machine.execDriveItemRx end_ cap blank from_ s
  | .wallOffEventRx => Sys2Proof.Machine.execWallOffEventRx s
  | .tileThermalReportRx loop pos thermal => Sys2Proof.Machine.execTileThermalReportRx loop pos thermal s
  | .photoFrameResult input lit dark hasLit sat shunts => Sys2Proof.Machine.execPhotoFrameResult input lit dark hasLit sat shunts s
  | .photoWindowEnd input => Sys2Proof.Machine.execPhotoWindowEnd input s
  | .calRunStart => Sys2Proof.Machine.execCalRunStart s
  | .calRunEnd => Sys2Proof.Machine.execCalRunEnd s
  | .parcelRx port words overflow => Sys2Proof.Machine.execParcelRx port words overflow s
  | .frameOpenRx port n o => Sys2Proof.Machine.execFrameOpenRx port n o s
  | .abortRx port n index reason => Sys2Proof.Machine.execAbortRx port n index reason s
  | .tagRx port n first tags => Sys2Proof.Machine.execTagRx port n first tags s
  | .commandItemRx end_ words => Sys2Proof.Machine.execCommandItemRx end_ words s
  | .txnPrepare end_ txn orig n => Sys2Proof.Machine.execTxnPrepare end_ txn orig n s
  | .txnApply end_ txn orig n => Sys2Proof.Machine.execTxnApply end_ txn orig n s
  | .txnDrop end_ txn orig n => Sys2Proof.Machine.execTxnDrop end_ txn orig n s
  | .chainItemRx end_ records => Sys2Proof.Machine.execChainItemRx end_ records s
  | .enumItemRx port hops fromB lid ml layout => Sys2Proof.Machine.execEnumItemRx port hops fromB lid ml layout s
  | .enumRespRx loop pos uidLo uidHi epoch status fwVer fwWin => Sys2Proof.Machine.execEnumRespRx loop pos uidLo uidHi epoch status fwVer fwWin s
  | .enumTimeout loop => Sys2Proof.Machine.execEnumTimeout loop s
  | .rateItemRx end_ mode => Sys2Proof.Machine.execRateItemRx end_ mode s
  | .keyItemRx end_ pos phase selector ok words => Sys2Proof.Machine.execKeyItemRx end_ pos phase selector ok words s
  | .keyRespRx loop pos ok pub => Sys2Proof.Machine.execKeyRespRx loop pos ok pub s
  | .leaseRx port term yielding pref n epoch renewals uidLo uidHi => Sys2Proof.Machine.execLeaseRx port term yielding pref n epoch renewals uidLo uidHi s
  | .tableData end_ pos cls off words => Sys2Proof.Machine.execTableData end_ pos cls off words s
  | .tableEnd end_ pos cls crc len => Sys2Proof.Machine.execTableEnd end_ pos cls crc len s
  | .tableCommit end_ pos epoch mask => Sys2Proof.Machine.execTableCommit end_ pos epoch mask s
  | .imageItemRx end_ off cls words => Sys2Proof.Machine.execImageItemRx end_ off cls words s
  | .replyParcelRx port pos cnt payload => Sys2Proof.Machine.execReplyParcelRx port pos cnt payload s
  | .linkParcelRx port uidLo uidHi lock lanes tile pport lid mode retire => Sys2Proof.Machine.execLinkParcelRx port uidLo uidHi lock lanes tile pport lid mode retire s
  | .timeParcelRx port p => Sys2Proof.Machine.execTimeParcelRx port p s
  | .parcelPositionTx port => Sys2Proof.Machine.execParcelPositionTx port s
  | .linkLockLost port => Sys2Proof.Machine.execLinkLockLost port s
  | .linkSignalDetect port => Sys2Proof.Machine.execLinkSignalDetect port s
  | .linkRejoin port mid => Sys2Proof.Machine.execLinkRejoin port mid s
  | .laneBlockLockLost port lane => Sys2Proof.Machine.execLaneBlockLockLost port lane s
  | .laneErrorWindow port errs => Sys2Proof.Machine.execLaneErrorWindow port errs s
  | .loopReturnTimeout loop => Sys2Proof.Machine.execLoopReturnTimeout loop s
  | .itemReassemblyTimeout port msg => Sys2Proof.Machine.execItemReassemblyTimeout port msg s
  | .relayReplyTimeout loop pos orig seq => Sys2Proof.Machine.execRelayReplyTimeout loop pos orig seq s
  | .loopBringup loop => Sys2Proof.Machine.execLoopBringup loop s
  | .tileCorrectionStart n => Sys2Proof.Machine.execTileCorrectionStart n s
  | .mirrorRx msg kind orig txn mode latch tiles entries => Sys2Proof.Machine.execMirrorRx msg kind orig txn mode latch tiles entries s
  | .mirrorAckRx msg status detail epoch => Sys2Proof.Machine.execMirrorAckRx msg status detail epoch s
  | .memcopyRx addr words => Sys2Proof.Machine.execMemcopyRx addr words s
  | .selectRx n picks => Sys2Proof.Machine.execSelectRx n picks s
  | .digestRx n sums => Sys2Proof.Machine.execDigestRx n sums s
  | .ctrlCopyRx words => Sys2Proof.Machine.execCtrlCopyRx words s
  | .replyFwdRx loop pos cnt payload => Sys2Proof.Machine.execReplyFwdRx loop pos cnt payload s
  | .pairKeyRx loop selector ok key => Sys2Proof.Machine.execPairKeyRx loop selector ok key s
  | .leaseSend => Sys2Proof.Machine.execLeaseSend s
  | .leaseExpiry => Sys2Proof.Machine.execLeaseExpiry s
  | .takeover => Sys2Proof.Machine.execTakeover s
  | .seekTimeout => Sys2Proof.Machine.execSeekTimeout s
  | .tokenHandover => Sys2Proof.Machine.execTokenHandover s
  | .tokenRequest => Sys2Proof.Machine.execTokenRequest s
  | .handoverRelayTimeout => Sys2Proof.Machine.execHandoverRelayTimeout s
  | .ptpSyncRx path seq twoStep t1 corr t2 => Sys2Proof.Machine.execPtpSyncRx path seq twoStep t1 corr t2 s
  | .ptpFollowUpRx path seq t1 corr => Sys2Proof.Machine.execPtpFollowUpRx path seq t1 corr s
  | .ptpDelayRespRx path seq t4 corr => Sys2Proof.Machine.execPtpDelayRespRx path seq t4 corr s
  | .ptpAnnounceRx path a => Sys2Proof.Machine.execPtpAnnounceRx path a s
  | .ptpMgmtRx path tlv => Sys2Proof.Machine.execPtpMgmtRx path tlv s
  | .ptpDelayReqTx path t3 => Sys2Proof.Machine.execPtpDelayReqTx path t3 s
  | .servoRefLost => Sys2Proof.Machine.execServoRefLost s
  | .timeHoldLong => Sys2Proof.Machine.execTimeHoldLong s
  | .masterChangeHoldEnd => Sys2Proof.Machine.execMasterChangeHoldEnd s
  | .fsyncInEdge stamp mark => Sys2Proof.Machine.execFsyncInEdge stamp mark s
  | .fsyncOutPulse o n => Sys2Proof.Machine.execFsyncOutPulse o n s
  | .tableRebuildDone => Sys2Proof.Machine.execTableRebuildDone s
  | .ledgerSaveTimer => Sys2Proof.Machine.execLedgerSaveTimer s
  | .ledgerSaveDone good => Sys2Proof.Machine.execLedgerSaveDone good s
  | .ledgerSaveRetry => Sys2Proof.Machine.execLedgerSaveRetry s
  | .ledgerMark => Sys2Proof.Machine.execLedgerMark s
  | .housekeepingRound sensors heartbeat suppliesOk straps rails => Sys2Proof.Machine.execHousekeepingRound sensors heartbeat suppliesOk straps rails s
  | .orderlyStopEnd => Sys2Proof.Machine.execOrderlyStopEnd s
  | .estopAssert => Sys2Proof.Machine.execEstopAssert s
  | .monitorDisagree => Sys2Proof.Machine.execMonitorDisagree s
  | .lockstepMismatch => Sys2Proof.Machine.execLockstepMismatch s
  | .latentLockstepTest flagged => Sys2Proof.Machine.execLatentLockstepTest flagged s
  | .latentDiodeCheck bad => Sys2Proof.Machine.execLatentDiodeCheck bad s
  | .imageLoadDone cls flashOk hashOk sigOk => Sys2Proof.Machine.execImageLoadDone cls flashOk hashOk sigOk s
  | .imageRecheckDone cls hashOk sigOk => Sys2Proof.Machine.execImageRecheckDone cls hashOk sigOk s
  | .rolloutStall => Sys2Proof.Machine.execRolloutStall s
  | .rolloutEnd => Sys2Proof.Machine.execRolloutEnd s
  | .tileFullCatchup loop pos => Sys2Proof.Machine.execTileFullCatchup loop pos s
  | .aoutWordSelectPeriod c t => Sys2Proof.Machine.execAoutWordSelectPeriod c t s
  | .linkTrained port failed => Sys2Proof.Machine.execLinkTrained port failed s
  | .mirrorResyncDone regs epoch => Sys2Proof.Machine.execMirrorResyncDone regs epoch s
  | .tileUnreachable loop pos => Sys2Proof.Machine.execTileUnreachable loop pos s
  | .estopRelease => Sys2Proof.Machine.execEstopRelease s
  | .supplyMonitorRelease x => Sys2Proof.Machine.execSupplyMonitorRelease x s

end Sys2Proof.Machine
end

