-- ==== Sys2Proof/Machine/Step.lean ====
section
/-!
DEFINITION. One step: the command at the front of the queue runs, and on an empty queue the block's own time passes (a design
choice, notes/assumptions).
-/
namespace Sys2Proof.Machine

open Sys2Proof

/-- One step.
DESIGN CHOICE (unsafe): log 1. -/
def step (s : State) : Host.Outcome State Fault Refusal :=
  match s.pending with
  | [] => .next s.idle
  | c :: rest => exec c { s with pending := rest }

/-- A state with the command a word spells at the front of its queue. The rows of the table give no bits, so no word spells one.
DESIGN CHOICE (unsafe): log 3. -/
def State.withFetchWord (s : State) (nbits w : Nat) : State :=
  match decodeTableWord nbits w with
  | some c => { s with pending := c :: s.pending }
  | none => s

end Sys2Proof.Machine
end

