-- ==== Sys2Proof/WellFormed.lean ====
section
/-!
DEFINITION. Which operands a command can carry at all: numbers within the fields the wire gives them, lists within the lengths
their carriers hold. The meanings do not lean on it but where Fault.illFormed says so.
-/
namespace Sys2Proof

/-- The header fields fit their places in words 0 and 1 and the check word (R50, R51). -/
def Hdr.wf (h : Hdr) : Bool :=
  decide (h.seq < 2 ^ 16) && decide (h.txn < 2 ^ 8) && decide (h.cookie < 2 ^ 32) && decide (h.target < 2 ^ 32) && decide (h.check < 2 ^ 64)

def FaultSite.wf : FaultSite → Bool
  | .engine i => decide (i < 256)
  | .pool b | .basinPort b => decide (b < 16)
  | .region r => decide (r < 8)

/-- The first read and at most three repeated ones (R24), of words of 65 bits. -/
def StoredRead.wf (x : StoredRead) : Bool := x.site.wf && decide (x.flips.length ≤ 4) && x.flips.all fun f => decide (f < 2 ^ 65)

/-- The original's copy and at most three replayed ones (R23), of words of 65 bits. -/
def FabricArrival.wf (x : FabricArrival) : Bool := x.site.wf && decide (x.flips.length ≤ 4) && x.flips.all fun f => decide (f < 2 ^ 65)

/-- A port of the controller, and an address of 45 bits (MEM_ERR_ADDR). -/
def MemEvent.wf : MemEvent → Bool
  | .accept port _ addr _ => decide (port < 19) && decide (addr < 2 ^ 45)
  | .access | .refresh => true

/-- The operands fit.
DESIGN CHOICE (safe): log 7. -/
def Instr.wf : Instr → Bool
  | .ping h | .getCaps h | .getState h | .txnBegin h | .txnCommit h _ _ | .txnRollback h | .txnStatus h
  | .eventSubscribe h _ | .resetDevice h | .locate h _ | .tileStatus h | .tablePush h _ | .tokenStatus h | .tokenYield h
  | .imageVerify h _ | .imageActivate h _ | .attest h _ _ _ _ | .bootLock h | .calRun h _ | .ledgerSave h | .timeGet h =>
    h.wf
  | .readReg h addr count | .memRead h addr count => h.wf && decide (addr < 2 ^ 64) && decide (count < 2 ^ 64)
  | .writeReg h addr vals | .memWrite h addr vals => h.wf && decide (addr < 2 ^ 64) && decide (vals.length ≤ 1020)
  | .writeField h addr _ _ => h.wf && decide (addr < 2 ^ 64)
  | .dmaIn h hostAddr devAddr bytes _ _ | .dmaOut h hostAddr devAddr bytes _ =>
    h.wf && decide (hostAddr < 2 ^ 64) && decide (devAddr < 2 ^ 64) && decide (bytes < 2 ^ 64)
  | .cvRun h _ addr len width => h.wf && decide (addr < 2 ^ 64) && decide (len < 2 ^ 64) && decide (width < 2 ^ 64)
  | .resetRegion h idx => h.wf && decide (idx < 2 ^ 64)
  | .powerState h target => h.wf && decide (target < 2 ^ 64)
  | .loopEnum h loop => h.wf && decide (loop < 2 ^ 64)
  | .imageLoad h _ _ src bytes => h.wf && decide (src < 2 ^ 64) && decide (bytes < 2 ^ 64)
  | .commitValidated _ | .txnTimeout _ | .qReset _ | .pcieFlrLinkDown | .ethSessionTimeout _ | .writePkt _ | .readStat
  | .readPkt _ | .evLostDeliver _ | .statusFlagClear _ _ _ | .registerWrite _ _ _ | .cvuInitLoad _ _ | .cvuWidthWrite _ _
  | .amclkCfgWrite _ | .gateRunWrite _ | .railCfgWrite _ _ | .audioPortEnable _ | .audioPortDisable _ | .audioPortStopDone _
  | .ikeyAutolock | .lampMapClear | .faultResume | .fbClear | .porstAssert | .porstRelease _ | .brownout | .caldbLoadDone
  | .hkoStable | .hkoStartTimeout | .refclkQualWindow _ | .refclkQualTimeout | .rpllLock | .refStop | .refGlitch
  | .rateWindow _ | .requalWindow _ | .relockDone | .clockHoldLong | .muxForceSwitch | .rpllFault | .sleepEntry | .deepEntry
  | .wakeEvent _ | .deepWakeSupplyOk _ | .deepWakeSupplyTimeout | .driftUpdate _ | .rhTableClear | .dramTempRead _
  | .backgroundFillDone | .vinLocked _ _ | .vinLockLost _ | .vinModeChange _ _ | .hpdPulseEnd _ | .hdcpAuthChange _ _ _
  | .audioTrackTrim | .saddleLatch _ | .compositionWindowStart _ | .compositionLine _ | .frameDeadline _ | .workItemDispatch
  | .frameStart _ | .proofVisit _ | .railStart | .railGood _
  | .railSeqTimeout _ | .railStop | .railComparatorTrip _ | .railRestart _ | .railUndervoltage _ | .capEvaluate
  | .driveItemRx _ _ _ _ | .wallOffEventRx | .photoFrameResult _ _ _ _ _ _ | .photoWindowEnd _ | .calRunStart | .calRunEnd
  | .frameOpenRx _ _ _ | .commandItemRx _ _ | .chainItemRx _ _ | .timeParcelRx _ _ | .parcelPositionTx _ | .linkLockLost _
  | .linkSignalDetect _ | .linkRejoin _ _ | .laneBlockLockLost _ _ | .tileCorrectionStart _ | .selectRx _ _ | .digestRx _ _
  | .ctrlCopyRx _ | .leaseSend | .leaseExpiry | .takeover | .seekTimeout | .tokenHandover | .tokenRequest
  | .handoverRelayTimeout | .ptpAnnounceRx _ _ | .ptpMgmtRx _ _ | .ptpDelayReqTx _ _ | .servoRefLost | .timeHoldLong
  | .masterChangeHoldEnd | .fsyncInEdge _ _ | .fsyncOutPulse _ _ | .tableRebuildDone | .ledgerSaveTimer | .ledgerSaveDone _
  | .ledgerSaveRetry | .ledgerMark | .housekeepingRound _ _ _ _ _ | .orderlyStopEnd | .estopAssert | .monitorDisagree
  | .lockstepMismatch | .latentLockstepTest _ | .latentDiodeCheck _ | .rolloutStall | .rolloutEnd
  | .aoutWordSelectPeriod _ _ | .linkTrained _ _ | .estopRelease | .supplyMonitorRelease _ => true
  | .cqTailDoorbell _ idx | .rqHeadUpdate _ idx | .eqHeadUpdate idx => decide (idx < 2 ^ 64)
  | .pcieCommandSlot _ words => decide (words.length ≤ 1024)
  | .ethDatagramRx ip port bytes => decide (ip < 2 ^ 32) && decide (port < 2 ^ 16) && decide (bytes.length ≤ 65507)
  | .cvuFeed _ width _ => decide (width < 9)
  | .ikeyEnrol slot | .ikeyRevoke slot => decide (slot < 4)
  | .dataImageLoadDone cls | .imageLoadDone cls _ _ _ | .imageRecheckDone cls _ _ => decide (cls < 13)
  | .regionResetDone r => decide (r < 8)
  | .dramReadCheck port addr _ _ => decide (port < 19) && decide (addr < 2 ^ 45)
  | .rhThreshold port addr _ => decide (port < 19) && decide (addr < 2 ^ 45)
  | .portUrgencyRise event more => event.wf && more.all MemEvent.wf
  | .portTargetMiss events => events.all MemEvent.wf
  | .sourceFrameComplete src _ => decide (src < 48)
  | .flowPacketRx f port seq _ _ _ => decide (f < 40) && decide (port < 2) && decide (seq < 2 ^ 16)
  | .flowLost f | .ancPacketRx f _ _ _ _ => decide (f < 40)
  | .audioSampleRx kind index _ _ _ _ _ => decide (kind < 4) && decide (index < 2 ^ 64)
  | .checkpointMiss _ slot _ | .slotUpload _ slot | .slotSwap _ slot | .pwmCycleStart _ slot _ _ | .lineBoundary _ slot _ _ =>
    decide (slot < 8)
  | .fabricParityMismatch arrival more => arrival.wf && more.all FabricArrival.wf
  | .storedWordParity read more => read.wf && more.all StoredRead.wf
  | .diagPoolRun b reads => decide (b < 16) && reads.all StoredRead.wf
  | .workItemComplete engine _ _ | .itemWatchdog engine | .engineSuspectExpiry engine | .diagEngineRun engine _ =>
    decide (engine < 256)
  | .basinLoadDone b _ => decide (b < 16)
  | .waitEventReturn g | .laneNop g | .laneRdiag g _ | .laneEnd g => decide (g < 16)
  | .laneShift g n => decide (g < 16) && decide (n < 2 ^ 20)
  | .laneShiftK g k n => decide (g < 16) && decide (k < 2 ^ 16) && decide (n < 17)
  | .lanePins g _ _ mask _ h => decide (g < 16) && decide (mask < 4) && decide (h < 2 ^ 20)
  | .laneWait g event => decide (g < 16) && decide (event < 8)
  | .laneTPulse g pin _ offset width =>
    decide (g < 16) && decide (pin < 2) && decide (offset < 2 ^ 16) && decide (width < 2 ^ 9)
  | .laneSetC g c value => decide (g < 16) && decide (c < 4) && decide (value < 2 ^ 20)
  | .laneLoop g c target => decide (g < 16) && decide (c < 4) && decide (target < 2 ^ 12)
  | .laneJump g target => decide (g < 16) && decide (target < 2 ^ 12)
  | .laneGclk g div => decide (g < 16) && decide (div < 256)
  | .proofDue _ em | .coverageLow _ em => decide (em < 4)
  | .tileThermalReportRx loop pos thermal => decide (loop < 4) && decide (pos < 128) && decide (thermal < 8)
  | .parcelRx _ words _ => decide (words.length = 32)
  | .abortRx _ _ index reason => decide (index < 2 ^ 24) && decide (reason < 2 ^ 8)
  | .tagRx _ _ _ tags => decide (tags.length ≤ 14)
  | .txnPrepare _ txn orig _ | .txnApply _ txn orig _ | .txnDrop _ txn orig _ => decide (txn < 256) && decide (orig < 10)
  | .enumItemRx _ _ _ lid _ _ => decide (lid < 64)
  | .enumRespRx loop pos _ _ epoch _ _ _ => decide (loop < 4) && decide (pos < 128) && decide (epoch < 2 ^ 32)
  | .enumTimeout loop | .loopReturnTimeout loop | .loopBringup loop => decide (loop < 4)
  | .rateItemRx _ mode => decide (mode < 4)
  | .keyItemRx _ pos phase selector _ _ => decide (pos < 128) && decide (phase < 4) && decide (selector < 4)
  | .keyRespRx loop pos _ _ | .tileFullCatchup loop pos | .tileUnreachable loop pos =>
    decide (loop < 4) && decide (pos < 128)
  | .leaseRx _ _ _ _ _ epoch _ _ _ | .mirrorResyncDone _ epoch => decide (epoch < 2 ^ 32)
  | .tableData _ pos cls off _ => decide (pos < 128) && decide (cls < 13) && decide (off < 2 ^ 32)
  | .tableEnd _ pos cls crc _ => decide (pos < 128) && decide (cls < 13) && decide (crc < 2 ^ 64)
  | .tableCommit _ pos epoch _ => decide (pos < 128) && decide (epoch < 2 ^ 32)
  | .imageItemRx _ off cls words => decide (off < 2 ^ 32) && decide (cls < 13) && decide (words.length ≤ 32768)
  | .replyParcelRx _ pos cnt payload => decide (pos < 128) && decide (cnt < 2 ^ 17) && decide (payload.length ≤ 30)
  | .linkParcelRx _ _ _ _ _ _ pport _ mode _ => decide (pport < 8) && decide (mode < 4)
  | .laneErrorWindow _ errs => decide (errs.length = 4)
  | .itemReassemblyTimeout _ msg => decide (msg < 2 ^ 32)
  | .relayReplyTimeout loop pos orig seq =>
    decide (loop < 4) && decide (pos < 128) && decide (orig < 2 ^ 5) && decide (seq < 2 ^ 16)
  | .mirrorRx msg kind orig txn mode _ _ _ =>
    decide (msg < 2 ^ 32) && decide (kind < 4) && decide (orig < 2 ^ 5) && decide (txn < 256) && decide (mode < 4)
  | .mirrorAckRx msg status detail epoch =>
    decide (msg < 2 ^ 32) && decide (status < 2 ^ 16) && decide (detail < 2 ^ 16) && decide (epoch < 2 ^ 32)
  | .memcopyRx _ words => decide (words.length ≤ 27)
  | .replyFwdRx loop pos cnt payload =>
    decide (loop < 4) && decide (pos < 128) && decide (cnt < 2 ^ 17) && decide (payload.length ≤ 30)
  | .pairKeyRx loop selector _ wrapped => decide (loop < 4) && decide (selector < 4) && decide (wrapped.length ≤ 5)
  | .ptpSyncRx _ seq _ _ _ _ | .ptpFollowUpRx _ seq _ _ | .ptpDelayRespRx _ seq _ _ => decide (seq < 2 ^ 16)

end Sys2Proof
end

