-- ==== Sys2Proof/Safety.lean ====
section
/-!
DEFINITION. The terms the statements are written in: what stays as it was, which host command a row stands for, when a device takes it,
and what its reply says.
-/
namespace Sys2Proof.Machine

open Sys2Proof

/-! ### What stays -/

/-- Every register but some holds what it held. -/
def State.KeepsRegs (s t : State) (but : List Nat) : Prop := ∀ a, a ∉ but → t.dev.reg a = s.dev.reg a

/-- Every byte of DRAM reads as it read. -/
def State.KeepsMem (s t : State) : Prop := ∀ a, memByte t.mem a = memByte s.mem a

/-- DRAM, OTP, the straps and the queue of commands stay, and every register but some. -/
def State.Keeps (s t : State) (but : List Nat) : Prop :=
  s.KeepsRegs t but ∧ s.KeepsMem t ∧ t.otp = s.otp ∧ t.straps = s.straps ∧ t.pending = s.pending

/-- The status registers that raising an event may set: EVENT_LOST of one (R75), FAULT of the other (R446). -/
abbrev eventRegs : List Nat := [R.CTRL_CMD_STAT, R.KEEP_SAFE_STAT]

/-! ### Memory -/

/-- The canonical form of DRAM. -/
abbrev State.MemInv (s : State) : Prop := Memory.wf s.mem = true

/-! ### The units -/

/-- The lists that stand for units of a fixed number have their lengths. -/
abbrev Dev.Shape (d : Dev) : Prop :=
  (d.host.pcie.length = 4 ∧ d.host.eth.length = 4 ∧ d.host.masks.length = 10 ∧ d.host.lost.length = 10) ∧
  (d.link.ports.length = 8 ∧ (∀ p ∈ d.link.ports, p.relocks.length = 4) ∧ d.link.loops.length = 4 ∧ d.link.tile.keys.length = 4 ∧
    d.link.tile.leases.length = 2) ∧
  (d.time.paths.length = 3 ∧ d.time.sides.length = 8) ∧ d.cvu.length = 4 ∧ (d.mc.charges.length = 19 ∧ d.mc.throttled.length = 19) ∧
  (d.ingest.sources.length = 48 ∧ d.ingest.flows.length = 40 ∧ d.ingest.channels.length = 8 ∧ d.ingest.aout.length = 4 ∧
    d.ingest.hpdLow.length = 4 ∧ d.ingest.vinModes.length = 4) ∧
  d.compose.pipes.length = 4 ∧ (d.images.length = 13 ∧ ∀ k ∈ d.images, k.slots.length = 2) ∧
  (d.lamp.groups.length = 16 ∧ d.lamp.rails.length = 12) ∧ d.photo.inputs.length = 8 ∧
  (d.flash.ledgers.length = 2 ∧ d.flash.lastArea < 2 ∧ d.flash.photoK.length = 8)

/-! ### Host commands -/

/-- The command a host's row stands for. -/
def hostCmd (h : Hdr) (op : Op) (payload : List Word) : QCmd :=
  ⟨h.orig, op.code, h.seq, h.txn, h.cookie, h.target, h.quiet, h.check, payload⟩

/-- A device takes a command at once and runs it itself: it answers, the path is open, the command is no repeat (R49), nothing of its
originator waits (R46), nothing at its front refuses it (R54, R56, R65, R69, R76), it is not relayed (R66), and as a TXN_COMMIT it has no
relayed command to wait for (R47). -/
def State.takes (s : State) (h : Hdr) (op : Op) (payload : List Word) : Bool :=
  let q := hostCmd h op payload
  s.dev.answers && s.dev.pathOpen h.orig && (s.dev.duplicate q).isNone &&
  !(s.dev.host.queue.any fun x => x.orig == h.orig.val) && !(s.dev.host.lostReplies.any fun w => q.isFor w.1 w.2.1 w.2.2) &&
  (s.dev.frontRefusal q op).isNone && (s.dev.isTile || (Target.ofNat h.target).scope == 0 || senderRuns op) &&
  !s.dev.commitWaits h.orig op.code

/-- The state a command's own meaning starts from: the inactivity times of its transaction and session restart (R63, R80). -/
def State.touched (s : State) (q : QCmd) : State := { s with dev := s.dev.touch q }

/-- The newest reply kept (R49) answers a command, and ends with its status, DETAIL and payload; of a broadcast command, packets with MORE
went before (R67). -/
def State.Answered (t : State) (q : QCmd) (responder : Nat) (st : Status) (detail : Nat) (payload : List Word) : Prop :=
  ∃ parts, t.dev.host.kept.head? = some ⟨q.orig, q.seq, q.check, parts ++ replyPackets q responder st.code detail false payload⟩

/-- A command answers OK with some words and changes nothing but the host paths. -/
def State.Reads (s t : State) (q : QCmd) (words : List Word) : Prop :=
  t.Answered q s.dev.responder .ok 0 words ∧ s.Keeps t [] ∧ t.dev.commits = s.dev.commits ∧ t.dev.compose = s.dev.compose ∧
  t.dev.lamp = s.dev.lamp ∧ t.dev.ingest = s.dev.ingest ∧ t.dev.images = s.dev.images

/-! ### Shadows -/

/-- A register whose writes go to shadows: present, active, with shadowed fields; not the mask of a tile, which its sender has (R77, R245). -/
def Dev.takesShadows (d : Dev) (a : Nat) : Bool :=
  match regAt a with
  | some (f, i) => d.unitPresent f.unit i && d.unitActive f.unit i && f.has .rws && !(d.isTile && a == R.COMPOSE_SLOT_MASK)
  | none => false

/-- A register holds a shadow entry of a transaction other than `own`, of a commit that has not applied, or of a tile's prepared part (R78).
A transaction is named by originator and TXN. -/
def Dev.ReservedFrom (d : Dev) (a : Nat) (own : Nat × Nat) : Prop :=
  (∃ x ∈ d.txns, (x.orig, x.id) ≠ own ∧ a ∈ x.shadows.map Prod.fst) ∨ (∃ c ∈ d.commits, a ∈ c.entries.map Prod.fst) ∨
  (∃ p, d.prepared = some p ∧ a ∈ p.entries.map Prod.fst)

/-! ### Register writes -/

/-- A register that a write changes by its fields' types alone (R9): unshadowed, with no rule or effect of its own. -/
def plainReg (a : Nat) : Bool :=
  !([R.KEEP_AMCLK_CFG, R.KEEP_THERM_LIM, R.KEEP_IKEY_CTRL, R.KEEP_GATE_RUN, R.KEEP_GATE_SLEEP, R.KEEP_GATE_DEEP, R.TIME_CFG,
    R.TIME_PTP_CFG].contains a) &&
  !(decide (R.CTRL_CVU_CFG 0 ≤ a) && decide (a < R.CTRL_CVU_CFG 4)) && !(decide (0xF003003000 ≤ a) && decide (a < 0xF003003100)) &&
  !(decide (0xF006000000 ≤ a) && decide (a < 0xF007000000))

/-- What a masked write asks of a register that held a word: a bit the mask leaves out stays, or of a status flag is not cleared. -/
def maskedValue (f : RegFam) (old mask value : Word) : Word :=
  f.fields.foldl (fun w x =>
    let m := Word.mask x.lo x.width &&& mask
    if x.ty = .w1c || x.ty = .wo then w ||| (value &&& m) else w ||| (old &&& Word.mask x.lo x.width &&& ~~~m) ||| (value &&& m)) 0

/-- A device takes a masked write of such a register: present, active, unlocked where its mask takes in a locked field, in its ranges. -/
def Dev.plainTakes (d : Dev) (a : Nat) (mask value : Word) : Bool :=
  plainReg a && match regAt a with
  | some (f, i) =>
    d.unitPresent f.unit i && d.unitActive f.unit i && !f.has .rws &&
    !(d.bit F.CTRL_BOOT_STAT_LOCKED && f.fields.any fun x => x.ty == .rwl && Word.mask x.lo x.width &&& mask != 0) &&
    f.rangeOk [.rw, .rwl] (maskedValue f (d.reg a) mask value)
  | none => false

/-- A field after a masked write of its register, by its type (R9, R12). -/
def fieldWritten (x : FieldSpec) (old mask value : Word) : Word :=
  match x.ty with
  | .rw | .rwl => ((old &&& ~~~mask) ||| (value &&& mask)) &&& Word.mask x.lo x.width
  | .w1c => old &&& ~~~(value &&& mask) &&& Word.mask x.lo x.width
  | _ => old &&& Word.mask x.lo x.width

/-- Every field of a register has the value a masked write gives it. -/
def State.Wrote (s t : State) (a : Nat) (mask value : Word) : Prop :=
  ∀ f i, regAt a = some (f, i) → ∀ x ∈ f.fields,
    t.dev.reg a &&& Word.mask x.lo x.width = fieldWritten x (s.dev.reg a) mask value

/-- A transaction takes a masked write of a shadowed register (R7, R77 to R79): one that its own device holds alone, reserved to no other,
naming no absent unit, with room for its entry. -/
def Dev.shadowTakes (d : Dev) (x : Txn) (a : Nat) (mask value : Word) : Bool :=
  d.takesShadows a && (feedWidth a).isNone && !d.isStandby && (relayedPart [(a, mask, value)]).isEmpty &&
  !((d.reservedTo a).any fun r => !(r.1 == x.orig && r.2 == x.id)) &&
  (match regAt a with
   | some (f, _) => !d.namesAbsent a (f.latch (d.seenBy x a) ((d.seenBy x a &&& ~~~mask) ||| (value &&& mask)))
   | none => false) &&
  ((lookupWord a x.shadows).isSome ||
    (decide (x.shadows.length < 4096) && decide (d.shadowCount + (x.shadows.length - d.countedOf x) < 8192)))

/-- What such a write makes of the transaction: its shadow of the register holds the written fields over what it saw; nothing else
changes but the time of its last command. -/
def Dev.Shadowed (d : Dev) (x x' : Txn) (a : Nat) (mask value : Word) : Prop :=
  x'.orig = x.orig ∧ x'.id = x.id ∧ x'.poisoned = x.poisoned ∧ x'.tiles = x.tiles ∧
  (∀ b, b ≠ a → lookupWord b x'.shadows = lookupWord b x.shadows) ∧
  ∃ w, lookupWord a x'.shadows = some w ∧ ∀ f i, regAt a = some (f, i) → ∀ y ∈ f.fields,
    w &&& Word.mask y.lo y.width =
      (if y.ty = .rws then (d.seenBy x a &&& ~~~mask) ||| (value &&& mask) else d.seenBy x a) &&& Word.mask y.lo y.width

/-! ### Commits and DRAM -/

/-- How validation of a commit ends (R32, R83): against the capacity measured when it was accepted, and the parts that apply before it. -/
abbrev Dev.judged (d : Dev) (c : Commit) : Option Fail := (d.overlay c.capacity).validateAt (d.lastSaddle c) c.entries

/-- The count of the row of an address in its bank's activation table, where it is in it (R139). -/
def Dev.rowCount (d : Dev) (a : Nat) : Option Nat :=
  ((d.memBank (d.mc.place a).bankNo).table.find? fun e => e.1 == (d.mc.place a).row).map (·.2)

/-! ### Direct writes -/

/-- The state with the status and DETAIL a direct write is answered with, and nothing else changed. -/
def State.withStatus (s : State) (st : Status) (detail : Nat) : State :=
  { s with dev := { s.dev with lastStatus := st.code, lastDetail := detail } }

/-- A bit of a register that is a status flag (R9). -/
def RegFam.flagBit (f : RegFam) (b : Nat) : Bool :=
  f.fields.any fun x => x.ty == .w1c && decide (x.lo ≤ b) && decide (b < x.lo + x.width)

/-- The accumulator a CV_RUN starts from (R93): INIT when bit 8 of its first word is set, else what the queued feeds leave. -/
def Dev.cvuStart (d : Dev) (u : Word) : Nat :=
  let n := Word.field u 0 2
  if u.getLsbD 8 then d.get (F.CTRL_CVU_INIT_INIT n) % 2 ^ d.get (F.CTRL_CVU_CFG_WIDTH n)
  else d.cvuStep n (d.cvuAt n).acc (d.cvuAt n).feeds.flatten

/-! ### Paths -/

/-- No TXN_COMMIT of an originator waits in its queue: what of the queue goes with its path is all of it (R47, R61). -/
abbrev Dev.noCommitWaits (d : Dev) (o : Nat) : Prop := ∀ q ∈ d.host.queue, q.orig = o → q.opcode ≠ Op.txnCommit.code

/-- What the loss of its path does to an originator (R61, R63, R80): its transaction and its queued commands are gone, its pending replies
will be lost, and TXN_PATH_LOST says so where there was any of them. -/
def State.PathEnds (s t : State) (o : Nat) : Prop :=
  t.dev.txnOf o = none ∧ (∀ q ∈ t.dev.host.queue, q.orig ≠ o) ∧
  (∀ w ∈ s.dev.host.waiting, w.1 = o → w ∈ t.dev.host.lostReplies ∧ w ∉ t.dev.host.waiting) ∧
  ((s.dev.txnOf o).isSome = true ∨ (∃ w ∈ s.dev.host.waiting, w.1 = o) ∨ (∃ q ∈ s.dev.host.queue, q.orig = o) →
    t.dev.bit F.CTRL_TXN_STAT_TXN_PATH_LOST = true)

/-- The EV_LOST an originator is owed (R72, R75), its severity the model's choice. -/
def Dev.lostPacket (d : Dev) (o : Nat) : List Word :=
  eventPacket EvCode.lost.code d.host.evSeq Severity.warning.code d.responder (d.eventTime 0 ++ [Word.of (nth d.host.lost (lostIdx o) 0)])

/-! ### Sources -/

/-- A source with the key of a frame that ends now among its last sixteen, and the bits of the frame (R157). -/
def Dev.timed (d : Dev) (n : Nat) (f : SrcFrame) : Source :=
  let s := d.source n
  { s with keys := (f.key :: s.keys).take 16, bits := f.w * f.h * 8 * pixelBytes (d.get (F.INGEST_SRC_CFG_STORE n)) }

/-- With this frame a source's rate is within its reservation, and a flow's within the limits of R149 (R152, R157). -/
def Dev.rateFits (d : Dev) (n : Nat) (f : SrcFrame) : Bool :=
  (d.timed n f).fits (d.get (F.INGEST_SRC_CFG_RES n)) && (decide (n < 4) || (d.timed n f).slowEnough f.w f.h)

/-- What an audio port puts out of two samples, in its format and slots (R162). -/
def Dev.i2sOut (d : Dev) (c : Fin 4) (left right : Nat) : Out :=
  .i2s c (d.bit (F.INGEST_AOUT_CFG_FORMAT c)) (slotBits (d.get (F.INGEST_AOUT_CFG_SLOT c)))
    (slotSample (d.get (F.INGEST_AOUT_CFG_SLOT c)) left) (slotSample (d.get (F.INGEST_AOUT_CFG_SLOT c)) right)

/-! ### Safety and rails -/

/-- A device enters the safe state with a cause (R438, R439): SAFE, ENTERED and CAUSE, SERVICE 3, the hardware blank, FAULT; DRAM, OTP and
the queue of commands stay. -/
def State.EntersSafe (s t : State) (cause : Nat) : Prop :=
  t.dev.safeNow = true ∧ t.dev.bit F.KEEP_SAFE_STAT_ENTERED = true ∧ t.dev.get F.KEEP_SAFE_STAT_CAUSE = cause ∧ t.dev.service = 3 ∧
  t.dev.safe.blank = true ∧ t.dev.bit F.KEEP_SAFE_STAT_FAULT = true ∧ s.KeepsMem t ∧ t.otp = s.otp ∧ t.pending = s.pending

/-- Cuts of a rail in the last 10 s (R393). -/
def Dev.recentCuts (d : Dev) (n : Nat) : Nat := ((d.rail n).cuts.filter fun t => decide (d.now < t + 10 * sPs)).length

/-- A word LAMP_RAILn_CFG takes (R390): every field in its range, TARGET by the mode. -/
def railWordOk (v : Word) : Bool :=
  decide (Word.field v 0 2 ≤ 2) && decide (5 ≤ Word.field v 8 6) && decide (Word.field v 8 6 ≤ 40) && decide (100 ≤ Word.field v 32 12) &&
  decide (Word.field v 32 12 ≤ 3000) && decide (1 ≤ Word.field v 48 8) &&
  (if Word.field v 0 2 = 2 then decide (100 ≤ Word.field v 16 12)
   else decide (200 ≤ Word.field v 16 12) && decide (Word.field v 16 12 ≤ 1200))

/-! ### Parcels -/

/-- The check word a port expects of 32 words (R263). -/
def Dev.wantCheck (d : Dev) (n : Nat) (ws : List Word) : Word :=
  let h := ParcelHead.ofWord (nth ws 0 0)
  parcelCheck ((d.portLoopId n).getD (loopId h.loop h.sender)) h (ws.take 31)

/-- The check word of words 0 to 30 as their sender forms it (R263). -/
def sentCheck (ws : List Word) : Word :=
  let h := ParcelHead.ofWord (nth ws 0 0)
  parcelCheck (loopId h.loop h.sender) h (ws.take 31)

/-- The 32 words of a parcel on the lanes of a port (R258): word j of the direction's stream, counted from the last group of alignment
markers, on lane j mod L of those in service; a group goes before word 0. -/
def Dev.striped (d : Dev) (n : Nat) (ws : List Word) : Out :=
  .parcel n ws ((List.range 32).map fun i => nth (d.txLanes n) (((d.port n).words + i) % (d.txLanes n).length) 0) ((d.port n).words == 0)

/-- A direction's stream is 32 words on, with 16,384 words of each lane between groups of alignment markers (R258). -/
def State.Strides (s t : State) (n : Nat) : Prop :=
  (t.dev.port n).words = ((s.dev.port n).words + 32) % (16384 * (s.dev.txLanes n).length)

/-- A REPLY parcel's payload `pl` carries whole the OK `w` of position p of loop k to a relayed PING that waits for it alone. -/
abbrev Dev.pingReply (d : Dev) (k p : Nat) (r : Relay) (pl w : List Word) : Prop :=
  (d.loopSt k).replies = [] ∧ k < d.link.loops.length ∧ (nth pl 0 0).getLsbD 8 = true ∧ (nth pl 0 0).getLsbD 9 = true ∧
  Word.field (nth pl 0 0) 0 8 = 0x10 ∧ (Head.ofWord (nth pl 1 0)).kind = 1 ∧ w = (pl.drop 1).take ((Head.ofWord (nth pl 1 0)).len + 4) ∧
  d.host.relays = [r] ∧ r.awaits (k, p) (TileAnswer.ofPacket w) = true ∧ r.waiting = [(k, p)] ∧ r.loop = k ∧ r.own = false ∧
  r.bcast = false ∧ r.orig < 10 ∧ r.opcode = Op.ping.code ∧ (TileAnswer.ofPacket w).status = Status.ok.code ∧
  (d.host.lostReplies.any fun x => r.cmd.isFor x.1 x.2.1 x.2.2) = false

/-! ### Basins -/

/-- A basin with eight engines out is retired (R27). -/
abbrev Dev.fewOut (d : Dev) : Prop := ∀ b, b < 16 → 8 ≤ popCount 16 (d.basin b).out → (d.basin b).st = 4

/-- The registers of the basins. -/
abbrev basinRegs : List Nat := (List.range 16).flatMap fun b => [R.COMPOSE_BASIN_STAT b, R.COMPOSE_BASIN_EPOCH b]

/-- A basin is ready with an empty queue, its engine e in service and without faults of late (R25, R26). -/
abbrev Dev.calmEngine (d : Dev) (b e : Nat) : Prop :=
  (d.basin b).active = true ∧ (d.basin b).st = 3 ∧ (d.basin b).out.testBit e = false ∧ (d.basin b).queue = [] ∧ (d.basin b).faults = [] ∧ d.fewOut

/-- What an engine's first fault does to its basin: the engine is suspect and runs nothing (R26). -/
def State.Suspects (s t : State) (b e : Nat) : Prop :=
  (t.dev.basin b).suspect.testBit e = true ∧ (t.dev.basin b).out = (s.dev.basin b).out ∧ (∀ r ∈ (t.dev.basin b).running, r.1 ≠ e) ∧
  s.KeepsMem t ∧ t.otp = s.otp

/-! ### Tables -/

/-- What an adopted table push may change of the registers (R365, R368, R426, R428, R466). -/
abbrev adoptRegs : List Nat :=
  [R.LAMP_TBL_INFO, R.LAMP_TBL_EPOCH, R.KEEP_SVC_STAT, R.LAMP_DRV_STAT, R.LAMP_PHOTO_FB, R.LAMP_CAL_STAT, R.LAMP_CAL_INFO,
    R.CTRL_IMG_INFO icTables, R.CTRL_IMG_VER (2 * icTables), R.CTRL_IMG_VER (2 * icTables + 1)] ++
    (List.range 8).map R.LAMP_PHOTO_K ++ (List.range 8).map R.LAMP_PHOTO_VAL ++ eventRegs

/-! ### Lanes -/

/-- A lane group is as given, every other group, DRAM, OTP and every register as before. -/
def State.LaneStep (s t : State) (g : Nat) (x : Group) : Prop :=
  t.dev.group g = x ∧ (∀ k, k ≠ g → t.dev.group k = s.dev.group k) ∧ s.Keeps t []

/-! ### Images -/

/-- The words of a relayed image after an IMAGE item puts some at an offset (R464): no more than its header says. -/
def ImgJob.withWords (j : ImgJob) (off : Nat) (words : List Word) : List Word :=
  let ws := j.words.take off ++ words ++ j.words.drop (off + words.length)
  if 16 ≤ ws.length then ws.take (imgWords (isCode j.cls) (imgBlocks ws)) else ws

/-- What the registers of an image class are (R478 table). -/
abbrev classRegs (c : Nat) : List Nat := [R.CTRL_IMG_INFO c, R.CTRL_IMG_VER (2 * c), R.CTRL_IMG_VER (2 * c + 1)]

end Sys2Proof.Machine
end

