-- ==== Sys2Proof/Certificates/Slice0/Obligations.lean ====
section
/-!
DEFINITION. Statements for the provers.
-/

open Sys2Proof Sys2Proof.Machine

/-! ### Steps -/

/-- A step with a command at the front runs it with the queue's rest. The queue is the model's (assumption log 3). -/
def Obligations.StepRunsFront : Prop :=
  ∀ (c : Instr) (rest : List Instr) (s : State), step { s with pending := c :: rest } = exec c { s with pending := rest }

/-! ### Host commands (ch. 2) -/

/-- PING, GET_CAPS, GET_STATE, TIME_GET and TXN_STATUS answer OK with the words their rules name and change nothing else (R42, R69, R117,
R313). It rests on the choices of the assumption log 8 and 9. -/
def Obligations.IdentityCommandsAnswer : Prop :=
  (∀ (h : Hdr) (s : State), s.takes h .ping [] = true →
    ∃ t, exec (.ping h) s = .next t ∧ s.Reads t (hostCmd h .ping []) [Word.of s.dev.wallS, Word.of s.dev.wallNs]) ∧
  (∀ (h : Hdr) (s : State), s.takes h .getCaps [] = true →
    ∃ t, exec (.getCaps h) s = .next t ∧ s.Reads t (hostCmd h .getCaps [])
      [s.dev.reg R.KEEP_CAP0, s.dev.reg R.KEEP_CAP1, s.dev.reg R.KEEP_UID_LO, s.dev.reg R.KEEP_UID_HI, s.dev.reg R.KEEP_INSVC,
        nth s.dev.img.fwHeader 1 0]) ∧
  (∀ (h : Hdr) (s : State), s.takes h .getState [] = true → s.dev.power = .run →
    ∃ t, exec (.getState h) s = .next t ∧ s.Reads t (hostCmd h .getState []) [0, s.dev.reg R.KEEP_SVC_STAT]) ∧
  (∀ (h : Hdr) (s : State), s.takes h .timeGet [] = true →
    ∃ t, exec (.timeGet h) s = .next t ∧
      s.Reads t (hostCmd h .timeGet []) [Word.of s.dev.wallS, Word.of s.dev.wallNs, Word.of s.dev.wallFrac]) ∧
  (∀ (h : Hdr) (s : State), s.takes h .txnStatus [] = true → s.dev.txns = [] → s.dev.commits = [] →
    ∃ t, exec (.txnStatus h) s = .next t ∧ s.Reads t (hostCmd h .txnStatus []) [0, 0])

/-- TOKEN_STATUS answers, at any sender or tile, CTRL_PAIR_STAT, CTRL_PAIR_TERM, and the milliseconds since the last renewal received,
saturating at 0xFFFF, 0 at a holder, with the partner's mirror epoch beside it and zeros above; nothing changes (R309). Where no renewal has
come in, the rule states no milliseconds: any value of 16 bits (assumption log 19). -/
def Obligations.TokenStatusAnswers : Prop :=
  (∀ (h : Hdr) (s : State), s.takes h .tokenStatus [] = true → s.dev.hasToken = true →
    ∃ t, exec (.tokenStatus h) s = .next t ∧ s.Reads t (hostCmd h .tokenStatus [])
      [s.dev.reg R.CTRL_PAIR_STAT, s.dev.reg R.CTRL_PAIR_TERM, Word.pack [(16, 32, s.dev.twin.partnerEpoch)]]) ∧
  (∀ (h : Hdr) (x : Nat) (s : State), s.takes h .tokenStatus [] = true → s.dev.hasToken = false → s.dev.lastRenewal = some x →
    ∃ t, exec (.tokenStatus h) s = .next t ∧ s.Reads t (hostCmd h .tokenStatus [])
      [s.dev.reg R.CTRL_PAIR_STAT, s.dev.reg R.CTRL_PAIR_TERM,
        Word.pack [(0, 16, min 0xFFFF ((s.dev.now - x) / 10 ^ 9)), (16, 32, s.dev.twin.partnerEpoch)]]) ∧
  (∀ (h : Hdr) (s : State), s.takes h .tokenStatus [] = true → s.dev.hasToken = false → s.dev.lastRenewal = none →
    ∃ t n, exec (.tokenStatus h) s = .next t ∧ n < 2 ^ 16 ∧ s.Reads t (hostCmd h .tokenStatus [])
      [s.dev.reg R.CTRL_PAIR_STAT, s.dev.reg R.CTRL_PAIR_TERM, Word.pack [(0, 16, n), (16, 32, s.dev.twin.partnerEpoch)]])

/-- READ_REG answers the registers it names, in order, and MEM_READ the DRAM words it names; neither changes anything (R69, R70). It rests
on the choices of the assumption log 9 and 20. -/
def Obligations.ReadsAnswer : Prop :=
  (∀ (h : Hdr) (a n : Nat) (ws : List Word) (s : State), s.takes h .readReg [Word.of a, Word.of n] = true → a < 2 ^ 64 → h.txn = 0 →
    1 ≤ n → n ≤ 1020 → (List.range n).mapM (fun i => s.dev.readReg (a + 8 * i)) = some ws →
    (∀ u, u < 4 → R.CTRL_CVU_RESULT u < a ∨ a + 8 * n ≤ R.CTRL_CVU_RESULT u) →
    ∃ t, exec (.readReg h a n) s = .next t ∧ s.Reads t (hostCmd h .readReg [Word.of a, Word.of n]) ws) ∧
  (∀ (h : Hdr) (a n : Nat) (s : State), s.takes h .memRead [Word.of a, Word.of n] = true → a < 2 ^ 64 → a % 8 = 0 →
    1 ≤ n → n ≤ 1020 → s.dev.memRefusal a (8 * n) = none → s.dev.secretRing a (8 * n) = false → s.dev.poisonIn 18 a (8 * n) = none →
    ∃ t, exec (.memRead h a n) s = .next t ∧ s.Reads t (hostCmd h .memRead [Word.of a, Word.of n]) (memWords s.mem a n))

/-- MEM_WRITE stores its words, and DMA_IN the host's bytes, at the address named; every other byte of DRAM reads as before. DMA_OUT hands
the host the bytes of the range (R70, R161). It rests on the choices of the assumption log 5, 9 and 21. -/
def Obligations.MemoryCommands : Prop :=
  (∀ (h : Hdr) (a : Nat) (ws : List Word) (s : State), s.takes h .memWrite (Word.of a :: ws) = true → s.MemInv → a < 2 ^ 64 → a % 8 = 0 →
    s.dev.memRefusal a (8 * ws.length) = none → s.dev.isStandby = false → s.dev.memProtected a (8 * ws.length) = false →
    ∃ t, exec (.memWrite h a ws) s = .next t ∧ t.Answered (hostCmd h .memWrite (Word.of a :: ws)) s.dev.responder .ok 0 [] ∧
      (∀ i w, ws[i]? = some w → ∀ k, k < 8 → memByte t.mem (a + 8 * i + k) = nth (Word.bytes w) k 0) ∧
      (∀ b, b < a ∨ a + 8 * ws.length ≤ b → memByte t.mem b = memByte s.mem b) ∧ s.KeepsRegs t []) ∧
  (∀ (h : Hdr) (host a n : Nat) (flags : Word) (data : List Byte) (s : State),
    s.takes h .dmaIn [Word.of host, Word.of a, Word.of n, flags] = true → s.MemInv → h.orig.val < 4 → a < 2 ^ 64 → n < 2 ^ 64 →
    a % 64 = 0 → n % 64 = 0 → flags = 0 → data.length = n → s.dev.memRefusal a n = none → s.dev.isStandby = false →
    s.dev.memProtected a n = false →
    ∃ t, exec (.dmaIn h host a n flags data) s = .next t ∧
      t.Answered (hostCmd h .dmaIn [Word.of host, Word.of a, Word.of n, flags]) s.dev.responder .ok 0 [Word.of n] ∧
      (∀ k, k < n → memByte t.mem (a + k) = nth data k 0) ∧ (∀ b, b < a ∨ a + n ≤ b → memByte t.mem b = memByte s.mem b) ∧
      s.KeepsRegs t []) ∧
  (∀ (h : Hdr) (host a n : Nat) (flags : Word) (s : State), s.takes h .dmaOut [Word.of host, Word.of a, Word.of n, flags] = true →
    h.orig.val < 4 → host < 2 ^ 64 → a < 2 ^ 64 → n < 2 ^ 64 → s.dev.memRefusal a n = none → s.dev.secretRing a n = false →
    s.dev.poisonIn 16 a n = none →
    ∃ t, exec (.dmaOut h host a n flags) s = .next t ∧
      t.Answered (hostCmd h .dmaOut [Word.of host, Word.of a, Word.of n, flags]) s.dev.responder .ok 0 [Word.of n] ∧
      Out.hostWrite host (memBytes s.mem a n) ∈ t.dev.out ∧ s.Keeps t [])

/-- An unshadowed write takes effect when the command executes (R9, R12, R70). WRITE_REG gives consecutive registers with no rule or
effect of their own each its value by its fields' types, WRITE_FIELD the bits of such a register under its mask; the reply is OK and every
other register keeps. Any other single register's write, where its rules take it, is its one write by WRITE_REG or WRITE_FIELD. It rests
on the choices of the assumption log 9 and 11. -/
def Obligations.WritesTakeEffect : Prop :=
  (∀ (h : Hdr) (a : Nat) (vs : List Word) (s : State), s.takes h .writeReg (Word.of a :: vs) = true → a + 8 * vs.length < 2 ^ 64 → h.txn = 0 →
    s.dev.isStandby = false → (∀ i v, vs[i]? = some v → s.dev.plainTakes (a + 8 * i) (BitVec.allOnes 64) v = true) →
    ∃ t, exec (.writeReg h a vs) s = .next t ∧ t.Answered (hostCmd h .writeReg (Word.of a :: vs)) s.dev.responder .ok 0 [] ∧
      (∀ i v, vs[i]? = some v → s.Wrote t (a + 8 * i) (BitVec.allOnes 64) v) ∧
      s.Keeps t ((List.range vs.length).map fun i => a + 8 * i)) ∧
  (∀ (h : Hdr) (a : Nat) (m v : Word) (s : State), s.takes h .writeField [Word.of a, m, v] = true → a < 2 ^ 64 → h.txn = 0 →
    s.dev.isStandby = false → s.dev.plainTakes a m v = true →
    ∃ t, exec (.writeField h a m v) s = .next t ∧ t.Answered (hostCmd h .writeField [Word.of a, m, v]) s.dev.responder .ok 0 [] ∧
      s.Wrote t a m v ∧ s.Keeps t [a]) ∧
  (∀ (h : Hdr) (a : Nat) (v : Word) (s s' : State), s.takes h .writeReg [Word.of a, v] = true → a < 2 ^ 64 → h.txn = 0 →
    shadowedReg a = false → (s.touched (hostCmd h .writeReg [Word.of a, v])).writeOne a (BitVec.allOnes 64) v = .ok s' →
    s'.dev.host.lostReplies = s.dev.host.lostReplies →
    ∃ t, exec (.writeReg h a [v]) s = .next t ∧ t.Answered (hostCmd h .writeReg [Word.of a, v]) s'.dev.responder .ok 0 [] ∧ s'.Keeps t []) ∧
  (∀ (h : Hdr) (a : Nat) (m v : Word) (s s' : State), s.takes h .writeField [Word.of a, m, v] = true → a < 2 ^ 64 → h.txn = 0 →
    shadowedReg a = false → (s.touched (hostCmd h .writeField [Word.of a, m, v])).writeOne a m v = .ok s' →
    s'.dev.host.lostReplies = s.dev.host.lostReplies →
    ∃ t, exec (.writeField h a m v) s = .next t ∧ t.Answered (hostCmd h .writeField [Word.of a, m, v]) s'.dev.responder .ok 0 [] ∧
      s'.Keeps t [])

/-- Inside its originator's open transaction a WRITE_REG or WRITE_FIELD of a shadowed register that is not reserved goes to its shadow:
the shadow's fields take the value under the mask over what the transaction saw, every other shadow, every register and every other
transaction keep, the reply is OK, and a read in the transaction returns the shadow (R77). It rests on the choices of the assumption log 9
and 22. -/
def Obligations.ShadowsHoldWrites : Prop :=
  (∀ (h : Hdr) (a : Nat) (v : Word) (x : Txn) (s : State), s.takes h .writeReg [Word.of a, v] = true → a < 2 ^ 64 → h.txn ≠ 0 →
    s.dev.txnOf h.orig = some x → s.dev.shadowTakes x a (BitVec.allOnes 64) v = true →
    ∃ t x', exec (.writeReg h a [v]) s = .next t ∧ t.Answered (hostCmd h .writeReg [Word.of a, v]) s.dev.responder .ok 0 [] ∧
      t.dev.txnOf h.orig = some x' ∧ s.dev.Shadowed x x' a (BitVec.allOnes 64) v ∧
      (∀ o, o ≠ h.orig.val → t.dev.txnOf o = s.dev.txnOf o) ∧ s.Keeps t []) ∧
  (∀ (h : Hdr) (a : Nat) (m v : Word) (x : Txn) (s : State), s.takes h .writeField [Word.of a, m, v] = true → a < 2 ^ 64 → h.txn ≠ 0 →
    s.dev.txnOf h.orig = some x → s.dev.shadowTakes x a m v = true →
    ∃ t x', exec (.writeField h a m v) s = .next t ∧ t.Answered (hostCmd h .writeField [Word.of a, m, v]) s.dev.responder .ok 0 [] ∧
      t.dev.txnOf h.orig = some x' ∧ s.dev.Shadowed x x' a m v ∧
      (∀ o, o ≠ h.orig.val → t.dev.txnOf o = s.dev.txnOf o) ∧ s.Keeps t []) ∧
  (∀ (h : Hdr) (a : Nat) (w : Word) (x : Txn) (s : State), s.takes h .readReg [Word.of a, 1] = true → a < 2 ^ 64 → h.txn ≠ 0 →
    s.dev.txnOf h.orig = some x → lookupWord a x.shadows = some w →
    ∃ t, exec (.readReg h a 1) s = .next t ∧ s.Reads t (hostCmd h .readReg [Word.of a, 1]) [w])

/-- TXN_BEGIN opens an empty transaction, TXN_ROLLBACK of a transaction that touched no tile ends it with no register changed, and
TXN_COMMIT in SADDLE mode of one without tile writes is accepted: it waits for validation, its reply for its latch (R76, R77, R82, R90).
It rests on the choices of the assumption log 9, 12 and 23. -/
def Obligations.TransactionCommands : Prop :=
  (∀ (h : Hdr) (s : State), s.takes h .txnBegin [] = true → h.txn ≠ 0 → s.dev.txnOf h.orig = none → s.dev.commitOf h.orig = none →
    ∃ t, exec (.txnBegin h) s = .next t ∧ t.Answered (hostCmd h .txnBegin []) s.dev.responder .ok 0 [] ∧
      t.dev.txnOf h.orig = some ⟨h.orig, h.txn, [], false, [], s.dev.now, 0, []⟩ ∧ s.Keeps t []) ∧
  (∀ (h : Hdr) (x : Txn) (s : State), s.takes h .txnRollback [] = true → s.dev.txnOf h.orig = some x → x.id = h.txn → x.tiles = [] →
    ∃ t, exec (.txnRollback h) s = .next t ∧ t.Answered (hostCmd h .txnRollback []) s.dev.responder .ok 0 [Word.of x.shadows.length] ∧
      t.dev.txnOf h.orig = none ∧ s.Keeps t []) ∧
  (∀ (h : Hdr) (x : Txn) (s : State), s.takes h .txnCommit [0] = true → s.dev.txnOf h.orig = some x → x.poisoned = false →
    s.dev.tileWrites x = false → (changesFrames x.shadows && s.dev.atTimePending) = false → s.dev.isTwin = false →
    ∃ t c, exec (.txnCommit h 0 none) s = .next t ∧ t.dev.commits = s.dev.commits ++ [c] ∧ c.orig = h.orig.val ∧ c.mode = .saddle ∧
      c.entries = x.shadows ∧ c.stage = .validating ∧ t.dev.txnOf h.orig = none ∧
      (h.orig.val, h.seq, h.check) ∈ t.dev.host.waiting ∧ t.dev.host.kept = s.dev.host.kept ∧ s.Keeps t [])

/-- A register that holds a shadow entry of a transaction, of a commit that has not applied, or of a tile's prepared part, is reserved to it
until it applies or rolls back: a WRITE_REG or WRITE_FIELD of it outside any transaction, or from any other transaction, is refused
with E_BUSY and changes nothing; a read answers the applied value as before (R78). -/
def Obligations.ReservedRegisters : Prop :=
  (∀ (h : Hdr) (a : Nat) (v : Word) (s : State), s.takes h .writeReg [Word.of a, v] = true → a < 2 ^ 64 → h.txn = 0 →
    s.dev.isStandby = false → s.dev.takesShadows a = true → s.dev.ReservedFrom a (h.orig, 256) →
    ∃ t, exec (.writeReg h a [v]) s = .next t ∧ t.Answered (hostCmd h .writeReg [Word.of a, v]) s.dev.responder .busy 0 [] ∧
      t.dev.txns = s.dev.txns ∧ t.dev.commits = s.dev.commits ∧ s.Keeps t []) ∧
  (∀ (h : Hdr) (a : Nat) (m v : Word) (s : State), s.takes h .writeField [Word.of a, m, v] = true → a < 2 ^ 64 → h.txn = 0 →
    s.dev.isStandby = false → s.dev.takesShadows a = true → s.dev.ReservedFrom a (h.orig, 256) →
    ∃ t, exec (.writeField h a m v) s = .next t ∧ t.Answered (hostCmd h .writeField [Word.of a, m, v]) s.dev.responder .busy 0 [] ∧
      t.dev.txns = s.dev.txns ∧ t.dev.commits = s.dev.commits ∧ s.Keeps t []) ∧
  (∀ (h : Hdr) (a : Nat) (m v : Word) (x : Txn) (s : State), s.takes h .writeField [Word.of a, m, v] = true → a < 2 ^ 64 →
    h.txn ≠ 0 → s.dev.isStandby = false → s.dev.takesShadows a = true → s.dev.txnOf h.orig = some x → x.id = h.txn →
    s.dev.ReservedFrom a (h.orig, h.txn) →
    ∃ t, exec (.writeField h a m v) s = .next t ∧ t.Answered (hostCmd h .writeField [Word.of a, m, v]) s.dev.responder .busy 0 [] ∧
      (t.dev.txnOf h.orig).map (·.shadows) = some x.shadows ∧ t.dev.commits = s.dev.commits ∧ s.Keeps t []) ∧
  (∀ (h : Hdr) (a : Nat) (v : Word) (x : Txn) (s : State), s.takes h .writeReg [Word.of a, v] = true → a < 2 ^ 64 → h.txn ≠ 0 →
    s.dev.isStandby = false → s.dev.takesShadows a = true → s.dev.txnOf h.orig = some x → x.id = h.txn →
    s.dev.ReservedFrom a (h.orig, h.txn) →
    ∃ t, exec (.writeReg h a [v]) s = .next t ∧ t.Answered (hostCmd h .writeReg [Word.of a, v]) s.dev.responder .busy 0 [] ∧
      (t.dev.txnOf h.orig).map (·.shadows) = some x.shadows ∧ t.dev.commits = s.dev.commits ∧ s.Keeps t []) ∧
  (∀ (h : Hdr) (a : Nat) (w : Word) (s : State), s.takes h .readReg [Word.of a, 1] = true → a < 2 ^ 64 → h.txn = 0 →
    s.dev.takesShadows a = true → s.dev.readReg a = some w →
    ∃ t, exec (.readReg h a 1) s = .next t ∧ s.Reads t (hostCmd h .readReg [Word.of a, 1]) [w]) ∧
  (∀ (h : Hdr) (a o : Nat) (x : Txn) (s : State), s.takes h .txnRollback [] = true → s.dev.txns = [x] → x.orig = h.orig → x.id = h.txn →
    x.tiles = [] → s.dev.commits = [] → s.dev.prepared = none →
    ∃ t, exec (.txnRollback h) s = .next t ∧ ¬t.dev.ReservedFrom a (o, 256)) ∧
  (∀ (m a o : Nat) (c : Commit) (s : State), s.dev.boot = .up → s.dev.time.running = true → s.dev.isSender = true → s.dev.isTwin = false →
    s.dev.commits = [c] → s.dev.txns = [] → s.dev.prepared = none → c.stage = .queued → c.mode = .saddle → c.left = c.entries →
    c.tiles = [] → c.await = [] → c.missed = 0 → c.mirror = none → c.orig < 10 → c.latches = 0 →
    (s.dev.host.lostReplies.any fun w => c.cmd.isFor w.1 w.2.1 w.2.2) = false →
    ∃ t, exec (.saddleLatch m) s = .next t ∧ ¬t.dev.ReservedFrom a (o, 256))

/-- Check-value units 2 and 3: a feed joins the unit's queue and BUSY sets; a write of INIT loads the accumulator; a write of the width
cuts POLY, INIT and the accumulator to it; CV_RUN feeds a range of DRAM, from INIT when bit 8 asks for it, and answers the result. Units 0
and 1 are the firmware's: a write answers E_PERM and changes nothing (R91, R92, R93). It rests on the choices of the assumption log 9, 20
and 111. -/
def Obligations.CheckValueUnits : Prop :=
  (∀ (u : Fin 4) (w : Nat) (v : Word) (s : State), s.dev.answers = true → 2 ≤ u.val → w ∈ [1, 2, 4, 8] → s.dev.cvu.length = 4 →
    (s.dev.cvuAt u).feeds.length < 16 →
    ∃ t, exec (.cvuFeed u w v) s = .next t ∧
      t.dev.cvuAt u = { s.dev.cvuAt u with feeds := (s.dev.cvuAt u).feeds ++ [(Word.bytes v).take w] } ∧
      t.dev.bit (F.CTRL_CVU_CFG_BUSY u) = true ∧ (∀ k, k ≠ u.val → t.dev.cvuAt k = s.dev.cvuAt k) ∧
      t.dev.lastStatus = Status.ok.code ∧ s.Keeps t [R.CTRL_CVU_CFG u]) ∧
  (∀ (u : Fin 4) (v : Word) (s : State), s.dev.answers = true → 2 ≤ u.val → s.dev.cvu.length = 4 →
    v.toNat < 2 ^ s.dev.get (F.CTRL_CVU_CFG_WIDTH u) →
    ∃ t, exec (.cvuInitLoad u v) s = .next t ∧ t.dev.cvuAt u = ⟨v.toNat, []⟩ ∧ t.dev.reg (R.CTRL_CVU_INIT u) = v ∧
      (∀ k, k ≠ u.val → t.dev.cvuAt k = s.dev.cvuAt k) ∧ t.dev.lastStatus = Status.ok.code ∧
      s.Keeps t [R.CTRL_CVU_INIT u, R.CTRL_CVU_CFG u]) ∧
  (∀ (u : Fin 4) (v : Word) (s : State), s.dev.answers = true → 2 ≤ u.val → s.dev.cvu.length = 4 → 8 ≤ Word.field v 0 7 →
    Word.field v 0 7 ≤ 64 →
    ∃ t, exec (.cvuWidthWrite u v) s = .next t ∧ t.dev.get (F.CTRL_CVU_CFG_WIDTH u) = Word.field v 0 7 ∧
      t.dev.get (F.CTRL_CVU_POLY_POLY u) = s.dev.get (F.CTRL_CVU_POLY_POLY u) % 2 ^ Word.field v 0 7 ∧
      t.dev.get (F.CTRL_CVU_INIT_INIT u) = s.dev.get (F.CTRL_CVU_INIT_INIT u) % 2 ^ Word.field v 0 7 ∧
      t.dev.cvuAt u = ⟨s.dev.cvuStep u (s.dev.cvuAt u).acc (s.dev.cvuAt u).feeds.flatten % 2 ^ Word.field v 0 7, []⟩ ∧
      (∀ k, k ≠ u.val → t.dev.cvuAt k = s.dev.cvuAt k) ∧ t.dev.lastStatus = Status.ok.code ∧
      s.Keeps t [R.CTRL_CVU_CFG u, R.CTRL_CVU_POLY u, R.CTRL_CVU_INIT u]) ∧
  (∀ (u : Fin 4) (w : Nat) (v : Word) (s : State), s.dev.answers = true → u.val < 2 → w ∈ [1, 2, 4, 8] → 8 ≤ Word.field v 0 7 →
    Word.field v 0 7 ≤ 64 →
    exec (.cvuFeed u w v) s = .next (s.withStatus .perm 0) ∧ exec (.cvuInitLoad u v) s = .next (s.withStatus .perm 0) ∧
      exec (.cvuWidthWrite u v) s = .next (s.withStatus .perm 0)) ∧
  (∀ (h : Hdr) (u : Word) (a len width : Nat) (s : State),
    s.takes h .cvRun [u, Word.of a, Word.of len, Word.of width] = true → a < 2 ^ 64 → 2 ≤ Word.field u 0 2 → s.dev.cvu.length = 4 →
    width ∈ [1, 2, 4, 8] → a % width = 0 → len % width = 0 → 1 ≤ len → len ≤ 2 ^ 32 → s.dev.memRefusal a len = none →
    s.dev.secretRing a len = false → s.dev.poisonIn 18 a len = none →
    ∃ t, exec (.cvRun h u a len width) s = .next t ∧
      t.dev.cvuAt (Word.field u 0 2) = ⟨s.dev.cvuStep (Word.field u 0 2) (s.dev.cvuStart u) (memBytes s.mem a len), []⟩ ∧
      t.Answered (hostCmd h .cvRun [u, Word.of a, Word.of len, Word.of width]) s.dev.responder .ok 0
        [Word.of (crcResult (s.dev.get (F.CTRL_CVU_CFG_WIDTH (Word.field u 0 2))) (s.dev.bit (F.CTRL_CVU_CFG_REFOUT (Word.field u 0 2)))
          (s.dev.bit (F.CTRL_CVU_CFG_INVERT (Word.field u 0 2)))
          (s.dev.cvuStep (Word.field u 0 2) (s.dev.cvuStart u) (memBytes s.mem a len)))] ∧
      (∀ k, k ≠ Word.field u 0 2 → t.dev.cvuAt k = s.dev.cvuAt k) ∧ s.Keeps t [R.CTRL_CVU_CFG (Word.field u 0 2)])

/-- A write to a register of a window: where no register is, E_ADDR and nothing changes; CTRL_TXN_CFG takes 100 to 60,000 ms and refuses
the rest with E_RANGE. A write to BAR0 sets the size of a disabled queue's command ring and empties it, and changes nothing of an enabled
one's (R9, R19, R58). It rests on the choices of the assumption log 16 (CQ_SIZE empties the ring; a write to an enabled queue is ignored)
and 111. -/
def Obligations.RegisterWrites : Prop :=
  (∀ (a : Nat) (v : Word) (s : State), s.dev.answers = true → regAt a = none →
    exec (.registerWrite .window a v) s = .next (s.withStatus .addr 0)) ∧
  (∀ (v : Word) (s : State), s.dev.answers = true → 100 ≤ Word.field v 0 16 → Word.field v 0 16 ≤ 60000 →
    ∃ t, exec (.registerWrite .window R.CTRL_TXN_CFG v) s = .next t ∧ t.dev.get F.CTRL_TXN_CFG_TIMEOUT_MS = Word.field v 0 16 ∧
      t.dev.lastStatus = Status.ok.code ∧ t.dev.txns = s.dev.txns ∧ t.dev.host = s.dev.host ∧ s.Keeps t [R.CTRL_TXN_CFG]) ∧
  (∀ (v : Word) (s : State), s.dev.answers = true → Word.field v 0 16 < 100 ∨ 60000 < Word.field v 0 16 →
    exec (.registerWrite .window R.CTRL_TXN_CFG v) s = .next (s.withStatus .range 0)) ∧
  (∀ (q : Fin 4) (v : Word) (s : State), s.dev.pcieUp = true → s.dev.host.pcie.length = 4 →
    (nth s.dev.host.pcie q {}).enable = false → ringSizeOk v.toNat = true →
    ∃ t, exec (.registerWrite .bar0 (0x108 + 0x80 * q) v) s = .next t ∧
      nth t.dev.host.pcie q {} = { nth s.dev.host.pcie q {} with cqSize := v.toNat, cqHead := 0, cqTail := 0 } ∧
      (∀ k, k ≠ q.val → nth t.dev.host.pcie k {} = nth s.dev.host.pcie k {}) ∧ s.Keeps t []) ∧
  (∀ (q : Fin 4) (v : Word) (s : State), s.dev.pcieUp = true → s.dev.host.pcie.length = 4 →
    (nth s.dev.host.pcie q {}).enable = true →
    ∃ t, exec (.registerWrite .bar0 (0x108 + 0x80 * q) v) s = .next t ∧ t.dev.host.pcie = s.dev.host.pcie ∧ s.Keeps t [])

/-- After boot lock a write to an RWL field is refused with E_LOCKED and the field keeps its value (R11): a write of a register that has one,
by WRITE_REG or directly, and a WRITE_FIELD whose mask takes in a bit of one; no register changes. Inside a transaction R77 refuses the
write with E_NOSHADOW, and the field keeps its value likewise. -/
def Obligations.LockedFieldsKeep : Prop :=
  (∀ (a : Nat) (v : Word) (f : RegFam) (i : Nat) (s : State), s.dev.answers = true → regAt a = some (f, i) →
    s.dev.unitPresent f.unit i = true → s.dev.unitActive f.unit i = true → f.has .rwl = true →
    s.dev.bit F.CTRL_BOOT_STAT_LOCKED = true → exec (.registerWrite .window a v) s = .next (s.withStatus .locked 0)) ∧
  (∀ (h : Hdr) (a : Nat) (v : Word) (f : RegFam) (i : Nat) (s : State), s.takes h .writeReg [Word.of a, v] = true → a < 2 ^ 64 →
    h.txn = 0 → regAt a = some (f, i) → s.dev.unitPresent f.unit i = true → s.dev.unitActive f.unit i = true → f.has .rwl = true →
    s.dev.bit F.CTRL_BOOT_STAT_LOCKED = true →
    ∃ t, exec (.writeReg h a [v]) s = .next t ∧ t.Answered (hostCmd h .writeReg [Word.of a, v]) s.dev.responder .locked 0 [] ∧
      s.Keeps t []) ∧
  (∀ (h : Hdr) (a : Nat) (m v : Word) (f : RegFam) (i : Nat) (s : State), s.takes h .writeField [Word.of a, m, v] = true → a < 2 ^ 64 →
    h.txn = 0 → regAt a = some (f, i) → s.dev.unitPresent f.unit i = true → s.dev.unitActive f.unit i = true →
    (∃ x ∈ f.fields, x.ty = .rwl ∧ Word.mask x.lo x.width &&& m ≠ 0) → s.dev.bit F.CTRL_BOOT_STAT_LOCKED = true →
    ∃ t, exec (.writeField h a m v) s = .next t ∧ t.Answered (hostCmd h .writeField [Word.of a, m, v]) s.dev.responder .locked 0 [] ∧
      s.Keeps t []) ∧
  (∀ (h : Hdr) (a : Nat) (m v : Word) (f : RegFam) (i : Nat) (x : Txn) (s : State), s.takes h .writeField [Word.of a, m, v] = true →
    a < 2 ^ 64 → h.txn ≠ 0 → s.dev.txnOf h.orig = some x → regAt a = some (f, i) → s.dev.unitPresent f.unit i = true →
    s.dev.unitActive f.unit i = true → f.has .rwl = true →
    ∃ t, exec (.writeField h a m v) s = .next t ∧ t.Answered (hostCmd h .writeField [Word.of a, m, v]) s.dev.responder .noShadow 0 [] ∧
      s.Keeps t [])

/-- A write of ones to status flags clears them but for those hardware sets in the same cycle, which stay set; a flag both cleared and
set leaves AGAIN set; every other bit of the register, and every other register, keeps (R12, R13, R14). -/
def Obligations.StatusFlagClears : Prop :=
  ∀ (a : Nat) (mask hw : Word) (f : RegFam) (i : Nat) (s : State), s.dev.answers = true → regAt a = some (f, i) →
    s.dev.unitPresent f.unit i = true → s.dev.unitActive f.unit i = true →
    ∃ t, exec (.statusFlagClear a mask hw) s = .next t ∧
      (∀ b, b < 63 → f.flagBit b = true → (t.dev.reg a).getLsbD b = (hw.getLsbD b || ((s.dev.reg a).getLsbD b && !mask.getLsbD b))) ∧
      (f.flagBit 63 = true → (∃ b, b < 63 ∧ f.flagBit b = true ∧ mask.getLsbD b = true ∧ hw.getLsbD b = true) →
        (t.dev.reg a).getLsbD 63 = true) ∧
      (f.flagBit 63 = true → (¬ ∃ b, b < 63 ∧ f.flagBit b = true ∧ mask.getLsbD b = true ∧ hw.getLsbD b = true) →
        (t.dev.reg a).getLsbD 63 = ((s.dev.reg a).getLsbD 63 && !mask.getLsbD 63)) ∧
      (∀ b, f.flagBit b = false → (t.dev.reg a).getLsbD b = (s.dev.reg a).getLsbD b) ∧ s.Keeps t [a]

/-- KEEP_AMCLK_CFG takes an INT of 96 to 400 with NUM below DEN, and the divider in force follows; any other divider is refused with
E_RANGE, and any while TRACK is 1 with E_BUSY (R163). KEEP_GATE_RUN keeps the bits of the units that are there; a write that clears the
bit of a unit in use is refused with E_STATE (R97, R111). It rests on the choices of the assumption log 49, 111 and 119. -/
def Obligations.ClockAndGateWrites : Prop :=
  (∀ (v : Word) (s : State), s.dev.answers = true → s.dev.variant.full = true → s.dev.isSender = true →
    s.dev.bit F.INGEST_AUD_CFG_TRACK = false → 96 ≤ Word.field v 0 9 → Word.field v 0 9 ≤ 400 → Word.field v 16 16 < Word.field v 32 16 →
    ∃ t, exec (.amclkCfgWrite v) s = .next t ∧ Word.field (t.dev.reg R.KEEP_AMCLK_CFG) 0 9 = Word.field v 0 9 ∧
      Word.field (t.dev.reg R.KEEP_AMCLK_CFG) 16 16 = Word.field v 16 16 ∧ Word.field (t.dev.reg R.KEEP_AMCLK_CFG) 32 16 = Word.field v 32 16 ∧
      Word.field (t.dev.reg R.KEEP_AMCLK_CFG) 48 1 = Word.field v 48 1 ∧ t.dev.clk.amclk = (t.dev.reg R.KEEP_AMCLK_CFG).toNat ∧
      t.dev.lastStatus = Status.ok.code ∧ s.Keeps t [R.KEEP_AMCLK_CFG]) ∧
  (∀ (v : Word) (s : State), s.dev.answers = true → s.dev.variant.full = true → s.dev.isSender = true →
    s.dev.bit F.INGEST_AUD_CFG_TRACK = false → Word.field v 0 9 < 96 ∨ 400 < Word.field v 0 9 ∨ Word.field v 32 16 ≤ Word.field v 16 16 →
    exec (.amclkCfgWrite v) s = .next (s.withStatus .range 0)) ∧
  (∀ (v : Word) (s : State), s.dev.answers = true → s.dev.variant.full = true → s.dev.isSender = true →
    s.dev.bit F.INGEST_AUD_CFG_TRACK = true → exec (.amclkCfgWrite v) s = .next (s.withStatus .busy 0)) ∧
  (∀ (v : Word) (s : State), s.dev.answers = true → s.dev.reg R.KEEP_GATE_RUN &&& ~~~v &&& s.dev.gateInUse = 0 →
    ∃ t, exec (.gateRunWrite v) s = .next t ∧
      t.dev.reg R.KEEP_GATE_RUN = v &&& s.dev.gateUnits ∧
      t.dev.lastStatus = Status.ok.code ∧ s.Keeps t [R.KEEP_GATE_RUN]) ∧
  (∀ (v : Word) (s : State), s.dev.answers = true → s.dev.reg R.KEEP_GATE_RUN &&& ~~~v &&& s.dev.gateInUse ≠ 0 →
    exec (.gateRunWrite v) s = .next (s.withStatus .state 0))

/-- The integrator's fuses: ENROL burns the key of KEEP_IKEY_D0 to D8 into a free slot whose key begins with the identifier of the
signature scheme, REVOKE marks a slot that holds a key, AUTOLOCK burns its fuse; the information registers follow, every other fuse keeps.
ENROL of a slot that holds a key answers E_BUSY, REVOKE of an empty one E_INVALID; once the device is locked each answers E_LOCKED, and
BOOT_LOCK locks it (R459, R470). It rests on the choices of the assumption log 69, 70 and 111. -/
def Obligations.KeyFuses : Prop :=
  (∀ (k : Nat) (s : State), s.dev.answers = true → s.dev.bit F.CTRL_BOOT_STAT_LOCKED = false → k < 4 → s.otp.integrator.length = 4 →
    (nth s.otp.integrator k {}).key = [] → s.dev.ikeyOid = xmssOid →
    ∃ t, exec (.ikeyEnrol k) s = .next t ∧
      (∀ i, i < 8 → nth (nth t.otp.integrator k {}).key i 0 = s.dev.reg (R.KEEP_IKEY_D i)) ∧
      nth (nth t.otp.integrator k {}).key 8 0 = Word.of (Word.field (s.dev.reg (R.KEEP_IKEY_D 8)) 0 32) ∧
      (nth t.otp.integrator k {}).key.length = 9 ∧ (nth t.otp.integrator k {}).revoked = false ∧
      (∀ j, j ≠ k → nth t.otp.integrator j {} = nth s.otp.integrator j {}) ∧ t.otp = { s.otp with integrator := t.otp.integrator } ∧
      (t.dev.get F.KEEP_KEY_INFO_I_ENROLLED).testBit k = true ∧ t.mem = s.mem ∧ t.pending = s.pending) ∧
  (∀ (k : Nat) (s : State), s.dev.answers = true → s.dev.bit F.CTRL_BOOT_STAT_LOCKED = false → k < 4 →
    (nth s.otp.integrator k {}).key ≠ [] → exec (.ikeyEnrol k) s = .next (s.withStatus .busy 0)) ∧
  (∀ (k : Nat) (s : State), s.dev.answers = true → s.dev.bit F.CTRL_BOOT_STAT_LOCKED = false → k < 4 → s.otp.integrator.length = 4 →
    (nth s.otp.integrator k {}).key ≠ [] →
    ∃ t, exec (.ikeyRevoke k) s = .next t ∧ nth t.otp.integrator k {} = { nth s.otp.integrator k {} with revoked := true } ∧
      (∀ j, j ≠ k → nth t.otp.integrator j {} = nth s.otp.integrator j {}) ∧ t.otp = { s.otp with integrator := t.otp.integrator } ∧
      (t.dev.get F.KEEP_KEY_INFO_I_REVOKED).testBit k = true ∧ t.mem = s.mem ∧ t.pending = s.pending) ∧
  (∀ (k : Nat) (s : State), s.dev.answers = true → s.dev.bit F.CTRL_BOOT_STAT_LOCKED = false → k < 4 →
    (nth s.otp.integrator k {}).key = [] → exec (.ikeyRevoke k) s = .next (s.withStatus .invalid 0)) ∧
  (∀ (s : State), s.dev.answers = true → s.dev.bit F.CTRL_BOOT_STAT_LOCKED = false →
    ∃ t, exec .ikeyAutolock s = .next t ∧ t.otp = { s.otp with autolock := true } ∧ t.dev.bit F.KEEP_KEY_INFO_AUTOLOCK = true ∧
      t.dev.bit F.CTRL_BOOT_STAT_AUTOLOCK = true ∧ t.mem = s.mem ∧ t.pending = s.pending) ∧
  (∀ (k : Nat) (s : State), s.dev.answers = true → s.dev.bit F.CTRL_BOOT_STAT_LOCKED = true →
    exec (.ikeyEnrol k) s = .next (s.withStatus .locked 0) ∧ exec (.ikeyRevoke k) s = .next (s.withStatus .locked 0) ∧
      exec .ikeyAutolock s = .next (s.withStatus .locked 0)) ∧
  (∀ (h : Hdr) (s : State), s.takes h .bootLock [] = true → s.dev.loading = false →
    ∃ t, exec (.bootLock h) s = .next t ∧ t.dev.bit F.CTRL_BOOT_STAT_LOCKED = true ∧
      t.Answered (hostCmd h .bootLock []) s.dev.responder .ok 0 [] ∧ s.Keeps t [R.CTRL_BOOT_STAT])

/-! ### Host paths (ch. 2) -/

/-- The PCIe rings: the doorbell takes an index inside the ring and ignores one outside; reading the next slot of an open queue advances
the ring and queues the command it holds, or answers a packet that fails its check, with SLOT_ERR; the host's reply head frees room, for
the replies that wait; its event head likewise (R54, R58, R59, R60, R524). It rests on the choices of the assumption log 16 (an index
outside the ring is ignored), 18 and 123. -/
def Obligations.PcieRings : Prop :=
  (∀ (q : Fin 4) (i : Nat) (s : State), s.dev.pcieUp = true → s.dev.host.pcie.length = 4 → i < (nth s.dev.host.pcie q {}).cqSize →
    ∃ t, exec (.cqTailDoorbell q i) s = .next t ∧ nth t.dev.host.pcie q {} = { nth s.dev.host.pcie q {} with cqTail := i } ∧
      (∀ k, k ≠ q.val → nth t.dev.host.pcie k {} = nth s.dev.host.pcie k {}) ∧ s.Keeps t []) ∧
  (∀ (q : Fin 4) (i : Nat) (s : State), s.dev.pcieUp = true → (nth s.dev.host.pcie q {}).cqSize ≤ i →
    ∃ t, exec (.cqTailDoorbell q i) s = .next t ∧ t.dev.host.pcie = s.dev.host.pcie ∧ s.Keeps t []) ∧
  (∀ (q : Fin 4) (ws : List Word) (c : QCmd) (s : State), s.dev.pcieUp = true → s.dev.pathOpen q = true → s.dev.host.pcie.length = 4 →
    (nth s.dev.host.pcie q {}).readable = true → slotReceipt q ws = .accept c → s.dev.targetOk c.orig (Target.ofNat c.target) = true →
    (s.dev.host.queue.any fun x => x.orig == c.orig && x.seq == c.seq && x.check == c.check) = false → s.dev.duplicate c = none →
    (s.dev.host.queue.filter fun x => x.orig == c.orig).length < 64 →
    ∃ t, exec (.pcieCommandSlot q ws) s = .next t ∧ t.dev.host.queue = s.dev.host.queue ++ [c] ∧
      nth t.dev.host.pcie q {} = { nth s.dev.host.pcie q {} with
        cqHead := ((nth s.dev.host.pcie q {}).cqHead + 1) % (nth s.dev.host.pcie q {}).cqSize } ∧ s.Keeps t []) ∧
  (∀ (q : Fin 4) (ws : List Word) (c : QCmd) (s : State), s.dev.pcieUp = true → s.dev.pathOpen q = true → s.dev.host.pcie.length = 4 →
    (nth s.dev.host.pcie q {}).readable = true → slotReceipt q ws = .refuse c .check (ws.take 2) → c.orig = q.val →
    ∃ t, exec (.pcieCommandSlot q ws) s = .next t ∧ t.dev.host.queue = s.dev.host.queue ∧
      (nth t.dev.host.pcie q {}).slotErr = true ∧ t.dev.bit F.CTRL_CMD_STAT_CHECK_ERR = true ∧
      (∃ i, Out.pcieReply q i (replyPacket c.opcode c.seq c.txn Status.check.code 0 c.cookie s.dev.responder false (ws.take 2)) ∈ t.dev.out) ∧
      s.Keeps t [R.CTRL_CMD_STAT]) ∧
  (∀ (q : Fin 4) (i : Nat) (s : State), s.dev.pcieUp = true → s.dev.host.pcie.length = 4 → i < (nth s.dev.host.pcie q {}).rqSize →
    (nth s.dev.host.pcie q {}).held = [] →
    ∃ t, exec (.rqHeadUpdate q i) s = .next t ∧
      nth t.dev.host.pcie q {} = { nth s.dev.host.pcie q {} with
        rqHead := i, replyStall := !({ nth s.dev.host.pcie q {} with rqHead := i } : PcieQ).room } ∧
      (∀ k, k ≠ q.val → nth t.dev.host.pcie k {} = nth s.dev.host.pcie k {}) ∧ s.Keeps t []) ∧
  (∀ (q : Fin 4) (i : Nat) (ws : List Word) (s : State), s.dev.pcieUp = true → s.dev.host.pcie.length = 4 →
    i < (nth s.dev.host.pcie q {}).rqSize → (nth s.dev.host.pcie q {}).held = [ws] →
    ({ nth s.dev.host.pcie q {} with rqHead := i } : PcieQ).room = true →
    ∃ t, exec (.rqHeadUpdate q i) s = .next t ∧ Out.pcieReply q (nth s.dev.host.pcie q {}).rqTail ws ∈ t.dev.out ∧
      (nth t.dev.host.pcie q {}).held = [] ∧
      (nth t.dev.host.pcie q {}).rqTail = ((nth s.dev.host.pcie q {}).rqTail + 1) % (nth s.dev.host.pcie q {}).rqSize ∧ s.Keeps t []) ∧
  (∀ (i : Nat) (s : State), s.dev.pcieUp = true → i < s.dev.host.events.size → s.dev.host.events.held = [] →
    ∃ t, exec (.eqHeadUpdate i) s = .next t ∧ t.dev.host.events = { s.dev.host.events with head := i } ∧
      t.dev.host.pcie = s.dev.host.pcie ∧ s.Keeps t []) ∧
  (∀ (i : Nat) (ws : List Word) (s : State), s.dev.pcieUp = true → i < s.dev.host.events.size → s.dev.host.events.held = [ws] →
    0 < ringFree s.dev.host.events.size s.dev.host.events.tail i →
    ∃ t, exec (.eqHeadUpdate i) s = .next t ∧ Out.pcieEvent s.dev.host.events.tail ws ∈ t.dev.out ∧ t.dev.host.events.held = [] ∧
      t.dev.host.events.tail = (s.dev.host.events.tail + 1) % s.dev.host.events.size ∧ s.Keeps t [])

/-- Management Ethernet and SPI: a datagram opens a session for a new source and queues its command, and a fifth source is answered
E_BUSY; a packet written over SPI is queued, and one that fails its check sets CHKERR; READ_STAT returns the status byte and clears
CHKERR; READ_PKT returns the oldest packet, which leaves once all its words were clocked out (R62, R63, R64, R524). It rests on the
choices of the assumption log 15, 17 and 121. -/
def Obligations.EthernetAndSpi : Prop :=
  (∀ (ip port : Nat) (bytes : List Byte) (k : Nat) (c : QCmd) (s : State), s.dev.answers = true → s.dev.bit F.CTRL_PATH_CFG_ETH_EN = true →
    s.dev.clocked guMgmt = true →
    s.dev.sessionFor ip port = some k → s.dev.host.eth.length = 4 → streamReceipt 4 181 bytes = .accept c →
    s.dev.targetOk (4 + k) (Target.ofNat c.target) = true →
    (s.dev.host.queue.any fun x => x.orig == 4 + k && x.seq == c.seq && x.check == c.check) = false →
    s.dev.duplicate { c with orig := 4 + k } = none → (s.dev.host.queue.filter fun x => x.orig == 4 + k).length < 64 →
    ∃ t, exec (.ethDatagramRx ip port bytes) s = .next t ∧ nth t.dev.host.eth k none = some ⟨ip, port, s.dev.now⟩ ∧
      (∀ j, j ≠ k → nth t.dev.host.eth j none = nth s.dev.host.eth j none) ∧
      t.dev.host.queue = s.dev.host.queue ++ [{ c with orig := 4 + k }] ∧ s.Keeps t []) ∧
  (∀ (ip port : Nat) (bytes : List Byte) (c : QCmd) (s : State), s.dev.answers = true → s.dev.bit F.CTRL_PATH_CFG_ETH_EN = true →
    s.dev.clocked guMgmt = true →
    s.dev.sessionFor ip port = none → streamReceipt 4 181 bytes = .accept c → c.orig = 4 →
    ∃ t, exec (.ethDatagramRx ip port bytes) s = .next t ∧
      t.dev.out = .eth ip port (replyPacket c.opcode c.seq c.txn Status.busy.code 0 c.cookie s.dev.responder false []) :: s.dev.out ∧
      t.dev.host = s.dev.host ∧ s.Keeps t []) ∧
  (∀ (bytes : List Byte) (c : QCmd) (s : State), s.dev.answers = true → s.dev.bit F.CTRL_PATH_CFG_SPI_EN = true →
    s.dev.clocked guSpi = true →
    streamReceipt 8 1021 bytes = .accept c → c.orig = 8 → s.dev.targetOk 8 (Target.ofNat c.target) = true →
    (s.dev.host.queue.any fun x => x.orig == 8 && x.seq == c.seq && x.check == c.check) = false → s.dev.duplicate c = none →
    (s.dev.host.queue.filter fun x => x.orig == 8).length < 64 →
    ∃ t, exec (.writePkt bytes) s = .next t ∧ t.dev.host.queue = s.dev.host.queue ++ [c] ∧ t.dev.host.spiChkErr = false ∧ s.Keeps t []) ∧
  (∀ (bytes : List Byte) (c : QCmd) (e : List Word) (s : State), s.dev.answers = true → s.dev.bit F.CTRL_PATH_CFG_SPI_EN = true →
    s.dev.clocked guSpi = true →
    streamReceipt 8 1021 bytes = .refuse c .check e →
    ∃ t, exec (.writePkt bytes) s = .next t ∧ t.dev.host.queue = s.dev.host.queue ∧ t.dev.host.spiChkErr = true ∧
      t.dev.bit F.CTRL_CMD_STAT_CHECK_ERR = true ∧ s.Keeps t [R.CTRL_CMD_STAT]) ∧
  (∀ (s : State), s.dev.spiRuns = true →
    ∃ t, exec .readStat s = .next t ∧ t.dev.out = .spiByte s.dev.spiStat :: s.dev.out ∧ t.dev.host = { s.dev.host with spiChkErr := false } ∧
      s.Keeps t []) ∧
  (∀ (n : Nat) (p : List Word) (rest : List (List Word)) (s : State), s.dev.spiRuns = true →
    s.dev.host.spi = p :: rest → n < 8 * p.length →
    ∃ t, exec (.readPkt n) s = .next t ∧ t.dev.out = .spiPacket (p.take (n / 8)) :: s.dev.out ∧ t.dev.host = s.dev.host ∧ s.Keeps t []) ∧
  (∀ (n : Nat) (p : List Word) (rest : List (List Word)) (s : State), s.dev.spiRuns = true →
    s.dev.host.spi = p :: rest → 8 * p.length ≤ n →
    ∃ t, exec (.readPkt n) s = .next t ∧ t.dev.out = .spiPacket p :: s.dev.out ∧
      t.dev.host = { s.dev.host with spi := rest ++ s.dev.host.spiHeld.take 1, spiHeld := s.dev.host.spiHeld.drop 1 } ∧ s.Keeps t [])

/-- EVENT_SUBSCRIBE sets its originator's class mask, answers the mask before, and leaves every other originator's (R74). Q_RESET empties
a queue's two rings; the loss of the PCIe link disables every queue; 60 s without a command close an Ethernet session. Where no TXN_COMMIT
waits in the queues of the path, each rolls the transactions of its originators back, drops what they have queued and loses their replies
that are pending, with TXN_PATH_LOST set; accepted commits stand, and so does every other originator's transaction. A TXN_COMMIT that
waits in the queue still runs, with its transaction (R47, R58, R61, R63, R80). EV_LOST reaches an originator that is owed one as soon as
there is room, with the number of events dropped; nothing is owed then; the PCIe queues, which share the event ring, share what they are
owed. While there is no room it waits, and where nothing is owed nothing happens (R59, R75). It rests on the choices of the assumption log
15, 16 (Q_RESET empties both rings), 28, 29, 122, 124 and 125. -/
def Obligations.PathsAndEvents : Prop :=
  (∀ (h : Hdr) (m : Word) (s : State), s.takes h .eventSubscribe [m] = true → s.dev.host.masks.length = 10 →
    ∃ t, exec (.eventSubscribe h m) s = .next t ∧
      t.Answered (hostCmd h .eventSubscribe [m]) s.dev.responder .ok 0 [Word.of (nth s.dev.host.masks h.orig 0)] ∧
      nth t.dev.host.masks h.orig 0 = m.toNat ∧ (∀ o, o ≠ h.orig.val → nth t.dev.host.masks o 0 = nth s.dev.host.masks o 0) ∧
      s.Keeps t []) ∧
  (∀ (q : Fin 4) (s : State), s.dev.pcieUp = true → s.dev.host.pcie.length = 4 → s.dev.noCommitWaits q →
    ∃ t, exec (.qReset q) s = .next t ∧
      nth t.dev.host.pcie q {} = { nth s.dev.host.pcie q {} with
        cqHead := (nth s.dev.host.pcie q {}).cqTail, rqTail := (nth s.dev.host.pcie q {}).rqHead, held := [], replyStall := false } ∧
      (∀ k, k ≠ q.val → nth t.dev.host.pcie k {} = nth s.dev.host.pcie k {}) ∧ s.PathEnds t q ∧
      (∀ o, o ≠ q.val → t.dev.txnOf o = s.dev.txnOf o) ∧ t.dev.commits = s.dev.commits ∧ s.Keeps t [R.CTRL_TXN_STAT]) ∧
  (∀ (q : Fin 4) (c : QCmd) (x : Txn) (s : State), s.dev.pcieUp = true → s.dev.host.pcie.length = 4 → s.dev.host.queue = [c] → c.orig = q.val →
    c.opcode = Op.txnCommit.code → s.dev.txnOf q = some x → x.id = c.txn →
    ∃ t, exec (.qReset q) s = .next t ∧ t.dev.host.queue = [c] ∧ t.dev.txnOf q = some x ∧
      (c.orig, c.seq, c.check) ∈ t.dev.host.lostReplies ∧ t.dev.bit F.CTRL_TXN_STAT_TXN_PATH_LOST = true ∧ s.Keeps t [R.CTRL_TXN_STAT]) ∧
  (∀ (s : State), s.dev.pcieUp = true → (∀ o, o < 4 → s.dev.noCommitWaits o) →
    ∃ t, exec .pcieFlrLinkDown s = .next t ∧ (∀ k, (nth t.dev.host.pcie k {}).enable = false) ∧ t.dev.host.events.enable = false ∧
      (∀ o, o < 4 → s.PathEnds t o) ∧ (∀ o, 4 ≤ o → t.dev.txnOf o = s.dev.txnOf o) ∧ t.dev.commits = s.dev.commits ∧
      s.Keeps t [R.CTRL_TXN_STAT]) ∧
  (∀ (k : Fin 4) (x : Session) (s : State), nth s.dev.host.eth k none = some x → s.dev.host.masks.length = 10 → s.dev.noCommitWaits (4 + k.val) →
    ∃ t, exec (.ethSessionTimeout k) s = .next t ∧ nth t.dev.host.eth k none = none ∧
      (∀ j, j ≠ k.val → nth t.dev.host.eth j none = nth s.dev.host.eth j none) ∧ nth t.dev.host.masks (4 + k.val) 0 = 0 ∧
      s.PathEnds t (4 + k.val) ∧ (∀ o, o ≠ 4 + k.val → t.dev.txnOf o = s.dev.txnOf o) ∧ t.dev.commits = s.dev.commits ∧
      s.Keeps t [R.CTRL_TXN_STAT]) ∧
  (∀ (o : Fin 10) (s : State), s.dev.boot = .up → s.dev.host.lost.length = 10 → nth s.dev.host.lost (lostIdx o) 0 ≠ 0 → s.dev.eventRoom o = true →
    ∃ t, exec (.evLostDeliver o) s = .next t ∧ nth t.dev.host.lost (lostIdx o) 0 = 0 ∧
      (∀ k, k ≠ lostIdx o → nth t.dev.host.lost k 0 = nth s.dev.host.lost k 0) ∧ t.dev.host.evSeq = (s.dev.host.evSeq + 1) % 65536 ∧
      (o.val < 4 → Out.pcieEvent s.dev.host.events.tail (s.dev.lostPacket o) ∈ t.dev.out) ∧
      (∀ x, 4 ≤ o.val → o.val < 8 → nth s.dev.host.eth (o.val - 4) none = some x → Out.eth x.ip x.port (s.dev.lostPacket o) ∈ t.dev.out) ∧
      (o.val = 8 → t.dev.host.spi = s.dev.host.spi ++ [s.dev.lostPacket o]) ∧ s.Keeps t []) ∧
  (∀ (o : Fin 10) (s : State), s.dev.boot = .up → s.dev.eventRoom o = false ∨ nth s.dev.host.lost (lostIdx o) 0 = 0 →
    exec (.evLostDeliver o) s = .next s)
/-! ### Transactions to their end (ch. 2) -/

/-- Validation of an originator's commit ends: a valid SADDLE commit waits for its latch, a valid wall-time commit with tiles sends
PREPARE to them, a valid NOW commit replies at once; one that breaks a rule fails whole, with VALIDATE_FAIL and the words of R90, and no
register of the configuration changes (R82, R83, R84, R89, R90). A transaction without a command for TIMEOUT_MS rolls back: it is gone,
TXN_TIMEOUT is set, no register it held shadows of has changed, and every other transaction stands (R80). It rests on the choices of the
assumption log 10, 12, 24 and 25. -/
def Obligations.CommitsAndTimeouts : Prop :=
  (∀ (o : Fin 10) (c : Commit) (s : State), s.dev.commits = [c] → c.orig = o.val → c.stage = .validating → c.mirror = none →
    c.mode = .saddle → s.dev.judged c = none →
    ∃ t, exec (.commitValidated o) s = .next t ∧ t.dev.commits = [{ c with stage := .queued }] ∧ t.dev.host = s.dev.host ∧ s.Keeps t []) ∧
  (∀ (o : Fin 10) (c : Commit) (s : State), s.dev.commits = [c] → c.orig = o.val → c.stage = .validating → c.mirror = none →
    c.mode = .atTime → c.tiles ≠ [] → s.dev.judged c = none →
    ∃ t, exec (.commitValidated o) s = .next t ∧ t.dev.commits = [{ c with stage := .preparing, await := c.tiles }] ∧
      t.dev.link = (s.dev.txnItem c 0).link ∧ t.dev.host = s.dev.host ∧ s.Keeps t []) ∧
  (∀ (o : Fin 10) (c : Commit) (s : State), s.dev.commits = [c] → c.orig = o.val → c.stage = .validating → c.mirror = none →
    c.mode = .now → s.dev.judged c = none →
    (s.dev.host.lostReplies.any fun w => c.cmd.isFor w.1 w.2.1 w.2.2) = false →
    ∃ t, exec (.commitValidated o) s = .next t ∧ t.dev.commits = [] ∧
      t.Answered c.cmd s.dev.responder .ok 0 (commitWords s.dev.frameNow c.entries.length false false 0 0) ∧ s.Keeps t []) ∧
  (∀ (o : Fin 10) (c : Commit) (f : Fail) (s : State), s.dev.commits = [c] → c.orig = o.val → c.stage = .validating →
    s.dev.judged c = some f →
    (s.dev.host.lostReplies.any fun w => c.cmd.isFor w.1 w.2.1 w.2.2) = false →
    ∃ t, exec (.commitValidated o) s = .next t ∧ t.dev.commits = [] ∧ t.dev.bit F.CTRL_TXN_STAT_VALIDATE_FAIL = true ∧
      t.Answered c.cmd s.dev.responder f.status f.reason (failWords f c.converted c.tiles.length c.missed) ∧ s.Keeps t [R.CTRL_TXN_STAT]) ∧
  (∀ (o : Fin 10) (x : Txn) (s : State), s.dev.txnOf o = some x →
    ∃ t, exec (.txnTimeout o) s = .next t ∧ t.dev.txnOf o = none ∧ (∀ k, k ≠ o.val → t.dev.txnOf k = s.dev.txnOf k) ∧
      t.dev.bit F.CTRL_TXN_STAT_TXN_TIMEOUT = true ∧ t.dev.commits = s.dev.commits ∧ s.Keeps t (R.CTRL_TXN_STAT :: eventRegs))

/-- The saddle latch ends a valid SADDLE commit: on a sender one that waits alone is gone and answered with the frame it first governs; on
a tile the lamp-drive register of the commit holds its value and the drive takes its brightness (R85, R90, R190, R389, R527). It rests on
the choices of the assumption log 8, 25 and 58. -/
def Obligations.SaddleLatchApplies : Prop :=
  (∀ (m : Nat) (c : Commit) (s : State), s.dev.boot = .up → s.dev.time.running = true → s.dev.isSender = true → s.dev.isTwin = false →
    s.dev.commits = [c] → c.stage = .queued → c.mode = .saddle → c.left = c.entries → c.tiles = [] → c.await = [] → c.missed = 0 →
    c.mirror = none → c.orig < 10 → c.latches = 0 → (s.dev.host.lostReplies.any fun w => c.cmd.isFor w.1 w.2.1 w.2.2) = false →
    ∃ t, exec (.saddleLatch m) s = .next t ∧ t.dev.commits = [] ∧
      t.Answered c.cmd s.dev.responder .ok 0 (commitWords (m + topGroup false c.entries) c.entries.length false c.converted 0 0) ∧
      t.mem = s.mem ∧ t.otp = s.otp ∧ t.pending = s.pending) ∧
  (∀ (m : Nat) (c : Commit) (w : Word) (s : State), s.dev.boot = .up → s.dev.time.running = true → s.dev.isTile = true →
    s.dev.commits = [c] → c.stage = .queued → c.mode = .saddle → c.entries = [(R.LAMP_DRV_CFG, w)] → c.left = c.entries → c.tiles = [] →
    c.await = [] → c.missed = 0 → c.orig < 10 → c.latches = 0 → s.dev.prepared = none → s.dev.img.policyWrites = [] →
    ∃ t, exec (.saddleLatch m) s = .next t ∧ t.dev.commits = [] ∧ t.dev.get F.LAMP_DRV_CFG_BRIGHT = Word.field w 0 16 ∧
      t.dev.lamp.bright = Word.field w 0 16 ∧ t.mem = s.mem ∧ t.otp = s.otp ∧ t.pending = s.pending)

/-- A tile's part of a wall-time commit, from an end it accepts: PREPARE of a transaction that validates is held for its frame and no
register changes; one that does not is rolled back with VALIDATE_FAIL; APPLY decides it; DROP rolls it back. From an end it does not
accept each is counted and flagged, and does nothing else (R89, R303). It rests on the choices of the assumption log 8, 27 and 61. -/
def Obligations.TilesPrepareApplyDrop : Prop :=
  (∀ (e : Fin 2) (txn orig n : Nat) (x : Txn) (s : State), s.dev.isTile = true → s.dev.boot = .up → s.dev.endAccepted e = true →
    s.dev.txnOf 9 = some x → x.id = txn → s.dev.validateAt (n - lowGroup true x.shadows) x.shadows = none →
    ∃ t, exec (.txnPrepare e txn orig n) s = .next t ∧ t.dev.prepared = some ⟨txn, n, x.shadows, x.shadows, false⟩ ∧
      t.dev.txnOf 9 = none ∧ t.dev.link.tile.replyCnt = (s.dev.link.tile.replyCnt + 1) % 2 ^ 17 ∧ s.Keeps t []) ∧
  (∀ (e : Fin 2) (txn orig n : Nat) (x : Txn) (f : Fail) (s : State), s.dev.isTile = true → s.dev.boot = .up → s.dev.endAccepted e = true →
    s.dev.txnOf 9 = some x → x.id = txn → s.dev.validateAt (n - lowGroup true x.shadows) x.shadows = some f →
    ∃ t, exec (.txnPrepare e txn orig n) s = .next t ∧ t.dev.prepared = s.dev.prepared ∧ t.dev.txnOf 9 = none ∧
      t.dev.bit F.CTRL_TXN_STAT_VALIDATE_FAIL = true ∧ s.Keeps t [R.CTRL_TXN_STAT]) ∧
  (∀ (e : Fin 2) (txn orig n : Nat) (p : Prepared) (s : State), s.dev.isTile = true → s.dev.boot = .up → s.dev.endAccepted e = true →
    s.dev.prepared = some p → p.txn = txn → p.frame = n →
    ∃ t, exec (.txnApply e txn orig n) s = .next t ∧ t.dev.prepared = some { p with decided := true } ∧
      t.dev.link.tile.replyCnt = (s.dev.link.tile.replyCnt + 1) % 2 ^ 17 ∧ s.Keeps t []) ∧
  (∀ (e : Fin 2) (txn orig n : Nat) (p : Prepared) (s : State), s.dev.isTile = true → s.dev.boot = .up → s.dev.endAccepted e = true →
    s.dev.prepared = some p → p.txn = txn → p.frame = n →
    ∃ t, exec (.txnDrop e txn orig n) s = .next t ∧ t.dev.prepared = none ∧ s.Keeps t []) ∧
  (∀ (e : Fin 2) (txn orig n : Nat) (s : State), s.dev.isTile = true → s.dev.boot = .up → s.dev.endAccepted e = false →
    ∃ t, exec (.txnPrepare e txn orig n) s = .next t ∧ exec (.txnApply e txn orig n) s = .next t ∧ exec (.txnDrop e txn orig n) s = .next t ∧
      t.dev.bit F.CTRL_PAIR_STAT_CMD_REJECT = true ∧
      t.dev.get F.CTRL_PAIR_CNT_REJECTS = satTo (2 ^ F.CTRL_PAIR_CNT_REJECTS.width - 1) (s.dev.get F.CTRL_PAIR_CNT_REJECTS + 1) ∧
      t.dev.prepared = s.dev.prepared ∧ t.dev.txns = s.dev.txns ∧
      s.Keeps t [R.CTRL_PAIR_CNT, R.CTRL_PAIR_STAT])

/-! ### Resets, clocks, power (ch. 3) -/

/-- The boot sequence to lock: HKO stable, then REFCLK qualified by two windows in range and at most 16 counts apart, then RPLL lock,
after which, strapped for recovery, the boot ROM runs with RECOVERY set. A device that runs locks again likewise, and its rate reference
is measured afresh; without a qualified REFCLK nothing locks. HKO not stable in 1 ms keeps the device in reset; REFCLK not qualified in
100 ms pulls FAULT_N low (R98, R100, R101, R103, R469). It rests on the choices of the assumption log 2, 4 and 8. -/
def Obligations.BootSequence : Prop :=
  (∀ (s : State), s.dev.boot = .hko → s.dev.bootEnv.refQual = false →
    ∃ t, exec .hkoStable s = .next t ∧ t.dev.boot = .refclk ∧ t.mem = s.mem ∧ t.otp = s.otp ∧ t.pending = s.pending) ∧
  (∀ (s : State), s.dev.boot = .hko →
    ∃ t, exec .hkoStartTimeout s = .next t ∧ t.dev.boot = .hkoFailed ∧ t.dev.answers = false ∧ s.Keeps t []) ∧
  (∀ (n : Nat) (s : State), s.dev.boot = .refclk → 16056 ≤ n → n ≤ 16712 → s.dev.clk.lastGood = none →
    ∃ t, exec (.refclkQualWindow n) s = .next t ∧ t.dev.boot = .refclk ∧ t.dev.clk.lastGood = some n ∧ s.Keeps t []) ∧
  (∀ (n p : Nat) (s : State), s.dev.boot = .refclk → 16056 ≤ n → n ≤ 16712 → s.dev.clk.lastGood = some p → p ≤ n + 16 → n ≤ p + 16 →
    s.dev.bootEnv.rpllLock = false →
    ∃ t, exec (.refclkQualWindow n) s = .next t ∧ t.dev.boot = .rpll ∧ t.dev.bit F.KEEP_CLK_STAT_REF_QUAL = true ∧
      s.Keeps t [R.KEEP_CLK_STAT]) ∧
  (∀ (n : Nat) (s : State), s.dev.boot = .refclk → n < 16056 ∨ 16712 < n →
    ∃ t, exec (.refclkQualWindow n) s = .next t ∧ t.dev.boot = .refclk ∧ t.dev.clk.lastGood = none ∧ s.Keeps t []) ∧
  (∀ (s : State), s.dev.boot = .refclk →
    ∃ t, exec .refclkQualTimeout s = .next t ∧ t.dev.boot = .refclk ∧ t.dev.faultLow = true ∧ t.dev.clk.late = true ∧ s.Keeps t []) ∧
  (∀ (s : State), s.dev.boot = .rpll → s.dev.refQualified = true → s.straps.flashMode = 3 → s.dev.img.running = [] →
    ∃ t, exec .rpllLock s = .next t ∧ t.dev.boot = .recovery ∧ t.dev.bit F.CTRL_BOOT_STAT_RECOVERY = true ∧
      t.dev.bit F.KEEP_CLK_STAT_RPLL_LOCK = true ∧ t.dev.time.running = true ∧ t.dev.time.wall = 0 ∧ t.otp = s.otp ∧ t.mem = s.mem) ∧
  (∀ (s : State), s.dev.boot ≠ .rpll → s.dev.refQualified = true → s.dev.bit F.KEEP_CLK_STAT_RPLL_LOCK = false →
    ∃ t, exec .rpllLock s = .next t ∧ t.dev.bit F.KEEP_CLK_STAT_RPLL_LOCK = true ∧ t.dev.clk.rateInit = (0, 0) ∧
      t.dev.boot = s.dev.boot ∧ s.Keeps t [R.KEEP_CLK_STAT]) ∧
  (∀ (s : State), s.dev.refQualified = false → exec .rpllLock s = .next s)

/-- The clock monitor: REFCLK without an edge for 153 DCO periods, a short or misplaced edge, by their own rows or in what a rate window
measured, or a rate 13 counts off its reference, is a clock fault: holdover, the PLLs held; at the first two the reference is no longer
qualified and the lock is lost; one or two missing edges are counted; the phase error outside its bound loses the lock alone. The first 16
rate windows set the reference. In holdover, two windows in range and at most 4 counts apart requalify and slew, one out of range sets
REQUAL_FAIL; the slew's end clears holdover; the limit sets HOLD_LONG. A mux forced over sets FORCED (R96, R102, R103, R104, R105, R106,
R107). A fault of the RPLL stops wall time, puts the system clocks on HKO and takes the device to the safe state with cause RPLL (R108,
R438, R439). It rests on the choices of the assumption log 34, 35 and 37. -/
def Obligations.ClockFaults : Prop :=
  (∀ (s : State), s.dev.clockWatched = true →
    ∃ t, exec .refStop s = .next t ∧ t.dev.bit F.KEEP_CLK_STAT_REF_STOP = true ∧ t.dev.bit F.KEEP_CLK_STAT_HOLDOVER = true ∧
      t.dev.bit F.KEEP_CLK_STAT_REF_QUAL = false ∧ t.dev.bit F.KEEP_CLK_STAT_RPLL_LOCK = false ∧ t.dev.clk.pllHold = true ∧
      s.Keeps t (R.KEEP_CLK_STAT :: eventRegs)) ∧
  (∀ (s : State), s.dev.clockWatched = true →
    ∃ t, exec .refGlitch s = .next t ∧ t.dev.bit F.KEEP_CLK_STAT_REF_GLITCH = true ∧ t.dev.bit F.KEEP_CLK_STAT_HOLDOVER = true ∧
      t.dev.bit F.KEEP_CLK_STAT_REF_QUAL = false ∧ t.dev.bit F.KEEP_CLK_STAT_RPLL_LOCK = false ∧ t.dev.clk.pllHold = true ∧
      s.Keeps t (R.KEEP_CLK_STAT :: eventRegs)) ∧
  (∀ (n c : Nat) (s : State), s.dev.clockWatched = true → n < 40 ∨ 56 < n ∧ n < 88 ∨ 104 < n ∧ n < 136 →
    ∃ t, exec (.rateWindow ⟨c, [n], true⟩) s = .next t ∧ exec .refGlitch s = .next t) ∧
  (∀ (n c : Nat) (s : State), s.dev.clockWatched = true → 152 < n →
    ∃ t, exec (.rateWindow ⟨c, [n], true⟩) s = .next t ∧ exec .refStop s = .next t) ∧
  (∀ (n c : Nat) (s : State), s.dev.clockWatched = true → s.dev.clk.rateInit.1 < 15 → 88 ≤ n ∧ n ≤ 104 ∨ 136 ≤ n ∧ n ≤ 152 →
    ∃ t, exec (.rateWindow ⟨c, [n], true⟩) s = .next t ∧ t.dev.bit F.KEEP_CLK_STAT_HOLDOVER = false ∧
      t.dev.get F.KEEP_CLK_MON_MISSED_EDGES =
        satTo (2 ^ F.KEEP_CLK_MON_MISSED_EDGES.width - 1) (s.dev.get F.KEEP_CLK_MON_MISSED_EDGES + 1) ∧ s.Keeps t [R.KEEP_CLK_MON]) ∧
  (∀ (c : Nat) (s : State), s.dev.clockWatched = true → s.dev.clk.rateInit.1 < 15 →
    ∃ t, exec (.rateWindow ⟨c, [], false⟩) s = .next t ∧ t.dev.bit F.KEEP_CLK_STAT_RPLL_LOCK = false ∧
      t.dev.bit F.KEEP_CLK_STAT_HOLDOVER = false ∧ s.Keeps t [R.KEEP_CLK_STAT]) ∧
  (∀ (n : Nat) (s : State), s.dev.clockWatched = true → s.dev.clk.rateInit.1 < 15 →
    ∃ t, exec (.rateWindow ⟨n, [], true⟩) s = .next t ∧ t.dev.clk.rateInit = (s.dev.clk.rateInit.1 + 1, s.dev.clk.rateInit.2 + n) ∧
      t.dev.clk.rateRef = s.dev.clk.rateRef ∧ s.Keeps t []) ∧
  (∀ (n : Nat) (s : State), s.dev.clockWatched = true → s.dev.clk.rateInit.1 = 15 →
    ∃ t, exec (.rateWindow ⟨n, [], true⟩) s = .next t ∧ t.dev.clk.rateRef = (s.dev.clk.rateInit.2 + n) * 2048 ∧ s.Keeps t []) ∧
  (∀ (n : Nat) (s : State), s.dev.clockWatched = true → 16 ≤ s.dev.clk.rateInit.1 →
    s.dev.clk.rateRef + 13 * 32768 ≤ n * 32768 ∨ n * 32768 + 13 * 32768 ≤ s.dev.clk.rateRef →
    ∃ t, exec (.rateWindow ⟨n, [], true⟩) s = .next t ∧ t.dev.bit F.KEEP_CLK_STAT_REF_RATE = true ∧
      t.dev.bit F.KEEP_CLK_STAT_HOLDOVER = true ∧ t.dev.clk.pllHold = true ∧ s.Keeps t (R.KEEP_CLK_MON :: R.KEEP_CLK_STAT :: eventRegs)) ∧
  (∀ (n : Nat) (s : State), s.dev.clockWatched = true → 16 ≤ s.dev.clk.rateInit.1 → n * 32768 < s.dev.clk.rateRef + 13 * 32768 →
    s.dev.clk.rateRef < n * 32768 + 13 * 32768 →
    ∃ t, exec (.rateWindow ⟨n, [], true⟩) s = .next t ∧ t.dev.bit F.KEEP_CLK_STAT_HOLDOVER = false ∧ s.Keeps t [R.KEEP_CLK_MON]) ∧
  (∀ (n : Nat) (s : State), s.dev.bit F.KEEP_CLK_STAT_HOLDOVER = true → s.dev.bit F.KEEP_CLK_STAT_SLEWING = false →
    s.dev.clk.lastGood = none → s.dev.clk.expected ≤ n + 8 → n ≤ s.dev.clk.expected + 8 →
    ∃ t, exec (.requalWindow n) s = .next t ∧ t.dev.clk.lastGood = some n ∧ s.Keeps t []) ∧
  (∀ (n p : Nat) (s : State), s.dev.bit F.KEEP_CLK_STAT_HOLDOVER = true → s.dev.bit F.KEEP_CLK_STAT_SLEWING = false →
    s.dev.clk.lastGood = some p → s.dev.clk.expected ≤ n + 8 → n ≤ s.dev.clk.expected + 8 → p ≤ n + 4 → n ≤ p + 4 →
    ∃ t, exec (.requalWindow n) s = .next t ∧ t.dev.bit F.KEEP_CLK_STAT_REF_QUAL = true ∧ t.dev.bit F.KEEP_CLK_STAT_SLEWING = true ∧
      s.Keeps t [R.KEEP_CLK_STAT]) ∧
  (∀ (n : Nat) (s : State), s.dev.bit F.KEEP_CLK_STAT_HOLDOVER = true → s.dev.bit F.KEEP_CLK_STAT_SLEWING = false →
    n + 8 < s.dev.clk.expected ∨ s.dev.clk.expected + 8 < n →
    ∃ t, exec (.requalWindow n) s = .next t ∧ t.dev.bit F.KEEP_CLK_STAT_REQUAL_FAIL = true ∧ t.dev.clk.lastGood = none ∧
      s.Keeps t [R.KEEP_CLK_STAT]) ∧
  (∀ (s : State), s.dev.bit F.KEEP_CLK_STAT_HOLDOVER = true → s.dev.bit F.KEEP_CLK_STAT_SLEWING = true →
    ∃ t, exec .relockDone s = .next t ∧ t.dev.bit F.KEEP_CLK_STAT_HOLDOVER = false ∧ t.dev.bit F.KEEP_CLK_STAT_SLEWING = false ∧
      t.dev.bit F.KEEP_CLK_STAT_RPLL_LOCK = true ∧ t.dev.clk.pllHold = false ∧ s.Keeps t (R.KEEP_CLK_STAT :: eventRegs)) ∧
  (∀ (s : State), s.dev.bit F.KEEP_CLK_STAT_HOLDOVER = true →
    ∃ t, exec .clockHoldLong s = .next t ∧ t.dev.bit F.KEEP_CLK_STAT_HOLD_LONG = true ∧ t.dev.bit F.KEEP_CLK_STAT_HOLDOVER = true ∧
      s.Keeps t (R.KEEP_CLK_STAT :: eventRegs)) ∧
  (∀ (s : State), s.dev.keepRuns = true → s.dev.power ≠ .deep →
    ∃ t, exec .muxForceSwitch s = .next t ∧ t.dev.bit F.KEEP_CLK_STAT_FORCED = true ∧ t.dev.clk = s.dev.clk ∧ s.Keeps t [R.KEEP_CLK_STAT]) ∧
  (∀ (s : State), s.dev.refQualified = true → s.dev.safeNow = false →
    ∃ t, exec .rpllFault s = .next t ∧ t.dev.bit F.KEEP_CLK_STAT_RPLL_FAULT = true ∧ t.dev.safeNow = true ∧
      t.dev.get F.KEEP_SAFE_STAT_CAUSE = scRpll ∧ t.dev.service = 3 ∧ t.dev.clk.onHko = true ∧ t.dev.time.running = false ∧
      t.mem = s.mem ∧ t.otp = s.otp ∧ t.pending = s.pending)

/-- PORST_N low, and the internal supply monitor, hold the device in reset: DRAM, host paths, transactions and every register but
KEEP_RST_CAUSE are at reset, as that is but for BROWNOUT; OTP and flash are kept. Released, the straps are sampled and the sequence runs:
with HKO not yet stable it waits for it, in the role the straps and the variant give, with DEEP_WAKE recorded where PORST_N woke the
device from deep sleep; strapped 0b11 it stays in reset; while either pin still holds it, it stays there (R3, R113, R115, R118, R493).
RESET_REGION resets INGEST, COMPOSE or LINK: it answers, records the region and its cause, and the region stays in reset until it
completes; another region answers E_RANGE and a region in reset E_BUSY, and nothing changes. RESET_DEVICE answers over its path, then
loses DRAM, the host paths, transactions and every register, keeps flash and OTP, and records CMD; with HKO not yet stable it waits for it
(R69, R113, R114). It rests on the choices of the assumption log 4, 30, 32, 33, 34 and 128. -/
def Obligations.Resets : Prop :=
  (∀ (s : State), ∃ t, exec .porstAssert s = .next t ∧ t.dev.porst = true ∧ t.dev.boot = .held ∧ t.mem = [] ∧ t.otp = s.otp ∧
      t.dev.flash = s.dev.flash ∧ t.dev.host = {} ∧ t.dev.txns = [] ∧ t.dev.commits = [] ∧ (∀ a, t.dev.reg a = regReset a) ∧ t.pending = s.pending) ∧
  (∀ (s : State), ∃ t, exec .brownout s = .next t ∧ t.dev.supplyLow = true ∧ t.dev.boot = .held ∧ t.mem = [] ∧ t.otp = s.otp ∧
      t.dev.flash = s.dev.flash ∧ t.dev.host = {} ∧ t.dev.txns = [] ∧ t.dev.commits = [] ∧ t.dev.bit F.KEEP_RST_CAUSE_BROWNOUT = true ∧
      (∀ a, a ≠ R.KEEP_RST_CAUSE → t.dev.reg a = regReset a) ∧ t.pending = s.pending) ∧
  (∀ (x : BootInputs) (s : State), s.dev.porst = true → s.dev.supplyLow = false → x.hkoStable = false → x.straps.role < 3 →
    ∃ t, exec (.porstRelease x) s = .next t ∧ t.dev.porst = false ∧ t.straps = x.straps ∧ t.dev.boot = .hko ∧ t.mem = [] ∧
      t.dev.role = (effectiveRole s.otp.variant x.straps.role).1 ∧ t.dev.variant = s.otp.variant ∧ t.dev.flash = s.dev.flash ∧
      t.dev.bit F.KEEP_RST_CAUSE_DEEP_WAKE = s.dev.deepPorst ∧ t.otp = s.otp ∧ (∀ a, a ≠ R.KEEP_RST_CAUSE → t.dev.reg a = regReset a) ∧
      (s.dev.deepPorst = false → t.dev.reg R.KEEP_RST_CAUSE = regReset R.KEEP_RST_CAUSE) ∧ t.pending = s.pending) ∧
  (∀ (x : BootInputs) (s : State), s.dev.porst = true → s.dev.supplyLow = false → x.straps.role = 3 →
    ∃ t, exec (.porstRelease x) s = .next t ∧ t.dev.boot = .testStrap ∧ t.dev.answers = false ∧ t.otp = s.otp ∧ t.pending = s.pending) ∧
  (∀ (x : BootInputs) (s : State), s.dev.porst = true → s.dev.supplyLow = true →
    ∃ t, exec (.porstRelease x) s = .next t ∧ t.dev.porst = false ∧ t.straps = x.straps ∧ t.dev.boot = s.dev.boot ∧ s.KeepsRegs t []) ∧
  (∀ (x : BootInputs) (s : State), s.dev.supplyLow = true → s.dev.porst = false → x.hkoStable = false → s.straps.role < 3 →
    ∃ t, exec (.supplyMonitorRelease x) s = .next t ∧ t.dev.supplyLow = false ∧ t.dev.boot = .hko ∧ t.mem = [] ∧
      t.dev.bit F.KEEP_RST_CAUSE_BROWNOUT = true ∧ t.dev.flash = s.dev.flash ∧ t.otp = s.otp ∧ t.pending = s.pending) ∧
  (∀ (x : BootInputs) (s : State), s.dev.supplyLow = true → s.dev.porst = true →
    ∃ t, exec (.supplyMonitorRelease x) s = .next t ∧ t.dev.supplyLow = false ∧ t.dev.boot = s.dev.boot ∧ s.Keeps t []) ∧
  (∀ (h : Hdr) (r : Nat) (s : State), s.takes h .resetRegion [Word.of r] = true → r = 3 ∨ r = 4 ∨ r = 5 →
    (r = 3 → s.dev.variant.full = true ∧ s.dev.isSender = true) → r ∉ s.dev.safe.inReset →
    ∃ t, exec (.resetRegion h r) s = .next t ∧ t.Answered (hostCmd h .resetRegion [Word.of r]) s.dev.responder .ok 0 [] ∧
      t.dev.safe.inReset = r :: s.dev.safe.inReset ∧ t.dev.bit F.KEEP_RST_CAUSE_REGION = true ∧
      t.dev.get F.KEEP_RST_CAUSE_LAST_REGION = r ∧ t.mem = s.mem ∧ t.otp = s.otp ∧ t.pending = s.pending) ∧
  (∀ (h : Hdr) (r : Nat) (s : State), s.takes h .resetRegion [Word.of r] = true → r < 2 ^ 64 → r ≠ 3 → r ≠ 4 → r ≠ 5 →
    ∃ t, exec (.resetRegion h r) s = .next t ∧ t.Answered (hostCmd h .resetRegion [Word.of r]) s.dev.responder .range 0 [] ∧
      t.dev.safe = s.dev.safe ∧ s.Keeps t []) ∧
  (∀ (h : Hdr) (r : Nat) (s : State), s.takes h .resetRegion [Word.of r] = true → r = 4 ∨ r = 5 → r ∈ s.dev.safe.inReset →
    ∃ t, exec (.resetRegion h r) s = .next t ∧ t.Answered (hostCmd h .resetRegion [Word.of r]) s.dev.responder .busy 0 [] ∧
      t.dev.safe = s.dev.safe ∧ s.Keeps t []) ∧
  (∀ (r : Nat) (s : State), s.dev.compose.relatch = none →
    ∃ t, exec (.regionResetDone r) s = .next t ∧ r ∉ t.dev.safe.inReset ∧
      (∀ k, k ≠ r → (k ∈ t.dev.safe.inReset ↔ k ∈ s.dev.safe.inReset)) ∧ s.Keeps t []) ∧
  (∀ (h : Hdr) (s : State), s.takes h .resetDevice [] = true → s.dev.bootEnv.hkoStable = false → s.straps.role < 3 →
    ∃ t, exec (.resetDevice h) s = .next t ∧ t.dev.boot = .hko ∧ t.mem = [] ∧ t.dev.bit F.KEEP_RST_CAUSE_CMD = true ∧
      (∀ a, a ≠ R.KEEP_RST_CAUSE → t.dev.reg a = regReset a) ∧ t.dev.flash = s.dev.flash ∧ t.dev.txns = [] ∧ t.dev.host = {} ∧
      t.otp = s.otp ∧ t.pending = s.pending) ∧
  (∀ (h : Hdr) (ws : List Word) (s : State), s.takes h .resetDevice [] = true → s.straps.role < 3 →
    replyPackets (hostCmd h .resetDevice []) s.dev.responder Status.ok.code 0 false [] = [ws] →
    ∃ t, exec (.resetDevice h) s = .next t ∧ t.mem = [] ∧ t.pending = s.pending ∧
      (h.orig.val < 4 → (nth s.dev.host.pcie h.orig {}).enable = true → (nth s.dev.host.pcie h.orig {}).held = [] →
        (nth s.dev.host.pcie h.orig {}).room = true → Out.pcieReply h.orig (nth s.dev.host.pcie h.orig {}).rqTail ws ∈ t.dev.out) ∧
      (∀ x, 4 ≤ h.orig.val → h.orig.val < 8 → nth s.dev.host.eth (h.orig.val - 4) none = some x → Out.eth x.ip x.port ws ∈ t.dev.out) ∧
      (h.orig.val = 8 → Out.spiPacket ws ∈ t.dev.out))

/-- Power states: POWER_STATE toward SLEEP begins the transition, which SLEEP_ENTRY ends and answers; from SLEEP to RUN it answers at
once; a value above 2 is E_RANGE. Toward DEEP, SLEEP_ENTRY goes on; DEEP_ENTRY answers, then rolls transactions back, gives up the token
of a pair, takes ports and loops down and stops wall time. WAKE_N wakes it, and signal on the port that KEEP_GATE_DEEP names, but no other
port; a wake waits for the supplies; in range they start the reset sequence with DEEP_WAKE recorded and DRAM kept, late they keep it
waiting with FAULT_N and SAFE_N low (R113, R117, R118, R494). It rests on the choices of the assumption log 2 and 32. -/
def Obligations.PowerStates : Prop :=
  (∀ (h : Hdr) (g : Nat) (s : State), s.takes h .powerState [Word.of g] = true → s.dev.isStandby = false → s.dev.power = .run →
    g = 1 ∨ g = 2 →
    ∃ t, exec (.powerState h g) s = .next t ∧ t.dev.power = .toSleep ∧ t.dev.powerGoal = g ∧
      t.dev.powerCmd = some (hostCmd h .powerState [Word.of g]) ∧ t.dev.host.kept = s.dev.host.kept ∧ s.Keeps t []) ∧
  (∀ (h : Hdr) (s : State), s.takes h .powerState [Word.of 0] = true → s.dev.isStandby = false → s.dev.power = .sleep →
    ∃ t, exec (.powerState h 0) s = .next t ∧ t.dev.power = .run ∧ t.dev.mc.selfRefresh = false ∧
      t.Answered (hostCmd h .powerState [Word.of 0]) s.dev.responder .ok 0 [Word.of 0] ∧ t.mem = s.mem ∧ t.otp = s.otp) ∧
  (∀ (h : Hdr) (g : Nat) (s : State), s.takes h .powerState [Word.of g] = true → 2 < g → g < 2 ^ 64 →
    ∃ t, exec (.powerState h g) s = .next t ∧ t.dev.power = s.dev.power ∧
      t.Answered (hostCmd h .powerState [Word.of g]) s.dev.responder .range 0 [] ∧ s.Keeps t []) ∧
  (∀ (q : QCmd) (s : State), s.dev.boot = .up → s.dev.power = .toSleep → s.dev.powerGoal = 1 → s.dev.powerCmd = some q →
    (s.dev.host.lostReplies.any fun w => q.isFor w.1 w.2.1 w.2.2) = false →
    ∃ t, exec .sleepEntry s = .next t ∧ t.dev.power = .sleep ∧ t.dev.powerCmd = none ∧ t.dev.mc.selfRefresh = true ∧
      t.Answered q s.dev.responder .ok 0 [Word.of 1] ∧ t.mem = s.mem ∧ t.otp = s.otp) ∧
  (∀ (s : State), s.dev.boot = .up → s.dev.power = .toSleep → s.dev.powerGoal = 2 →
    ∃ t, exec .sleepEntry s = .next t ∧ t.dev.power = .toDeep ∧ t.dev.powerCmd = s.dev.powerCmd ∧ t.dev.mc.selfRefresh = true ∧
      t.mem = s.mem ∧ t.otp = s.otp) ∧
  (∀ (s : State), s.dev.boot = .up → s.dev.power = .toDeep →
    ∃ t, exec .deepEntry s = .next t ∧ t.dev.power = .deep ∧ t.dev.answers = false ∧ t.dev.deepLow = true ∧ t.dev.txns = [] ∧
      (s.dev.isTwin = true → t.dev.pairState = psNone) ∧ (∀ k, k < s.dev.loops → t.dev.loopState k = lsDown) ∧
      (∀ n, n < 8 → t.dev.portState n = lsDown) ∧
      (∀ q, s.dev.powerCmd = some q → (s.dev.host.lostReplies.any fun w => q.isFor w.1 w.2.1 w.2.2) = false →
        t.Answered q s.dev.responder .ok 0 [Word.of 2]) ∧ t.dev.powerCmd = none ∧
      t.dev.time.running = false ∧ t.dev.clk.onHko = true ∧ t.dev.bit F.KEEP_CLK_STAT_RPLL_LOCK = false ∧ t.mem = s.mem ∧ t.otp = s.otp) ∧
  (∀ (s : State), s.dev.power = .deep →
    ∃ t, exec (.wakeEvent none) s = .next t ∧ t.dev.power = .wakeWait ∧ t.dev.deepLow = false ∧ s.Keeps t []) ∧
  (∀ (n : Nat) (s : State), s.dev.power = .deep → (s.dev.get F.KEEP_GATE_DEEP_OVL).testBit n = true →
    ∃ t, exec (.wakeEvent (some n)) s = .next t ∧ t.dev.power = .wakeWait ∧ s.Keeps t []) ∧
  (∀ (n : Nat) (s : State), s.dev.power = .deep → (s.dev.get F.KEEP_GATE_DEEP_OVL).testBit n = false →
    exec (.wakeEvent (some n)) s = .next s) ∧
  (∀ (x : BootInputs) (s : State), s.dev.power = .wakeWait → x.hkoStable = false → s.straps.role < 3 →
    ∃ t, exec (.deepWakeSupplyOk x) s = .next t ∧ t.dev.boot = .hko ∧ t.dev.bit F.KEEP_RST_CAUSE_DEEP_WAKE = true ∧ s.KeepsMem t ∧
      t.dev.flash = s.dev.flash ∧ t.otp = s.otp) ∧
  (∀ (s : State), s.dev.power = .wakeWait →
    ∃ t, exec .deepWakeSupplyTimeout s = .next t ∧ t.dev.power = .wakeWait ∧ t.dev.faultLow = true ∧ t.dev.safeLow = true ∧ s.Keeps t [])

/-! ### Heat and safety (ch. 15) -/

/-- Each way into the safe state, from a device that is not in it: the orderly stop's end with the stop's cause, ESTOP_N, disagreeing
monitor copies. SAFE and ENTERED set, CAUSE holds the cause, SERVICE is 3, the lamps are blanked, FAULT is set by the event. ESTOP_N high
again does not end it; a further cause leaves CAUSE (R437, R438, R439, R440, R441, R442, R446). It rests on the choices of the assumption
log 8, 102 and 109. -/
def Obligations.SafeStateEntries : Prop :=
  (∀ (c : Nat) (s : State), s.dev.safe.stopCause = some c → c < 256 → s.dev.safeNow = false →
    ∃ t, exec .orderlyStopEnd s = .next t ∧ s.EntersSafe t c ∧ t.dev.safe.stopCause = none) ∧
  (∀ (s : State), s.dev.keepRuns = true → s.dev.power ≠ .deep → s.dev.power ≠ .wakeWait → s.dev.safeNow = false →
    ∃ t, exec .estopAssert s = .next t ∧ s.EntersSafe t scEstop ∧ t.dev.safe.estop = true ∧ t.dev.bit F.KEEP_SAFE_STAT_ESTOP = true) ∧
  (∀ (s : State), s.dev.keepRuns = true → s.dev.power ≠ .deep → s.dev.power ≠ .wakeWait → s.dev.safeNow = true →
    ∃ t, exec .estopAssert s = .next t ∧ t.dev.safeNow = true ∧ t.dev.get F.KEEP_SAFE_STAT_CAUSE = s.dev.get F.KEEP_SAFE_STAT_CAUSE ∧
      t.dev.bit F.KEEP_SAFE_STAT_ESTOP = true ∧ s.Keeps t eventRegs) ∧
  (∀ (s : State), ∃ t, exec .estopRelease s = .next t ∧ t.dev.safe.estop = false ∧ t.dev.bit F.KEEP_SAFE_STAT_ESTOP = false ∧
      t.dev.safeNow = s.dev.safeNow ∧ t.dev.get F.KEEP_SAFE_STAT_CAUSE = s.dev.get F.KEEP_SAFE_STAT_CAUSE ∧
      s.Keeps t [R.KEEP_SAFE_STAT]) ∧
  (∀ (s : State), s.dev.keepRuns = true → s.dev.power ≠ .deep → s.dev.safeNow = false →
    ∃ t, exec .monitorDisagree s = .next t ∧ s.EntersSafe t scMonitor)

/-- A lockstep mismatch, and a third round without a heartbeat, are faults of CTRL: the device resets with SAFETY and the cause recorded,
and DRAM is lost; in the safe state the cause is held instead (R33, R44, R113, R439, R441, R442). It rests on the choices of the
assumption log 8 and 102. -/
def Obligations.ControlFaultsReset : Prop :=
  (∀ (s : State), s.dev.keepRuns = true → s.dev.safeNow = false → s.dev.bootEnv.hkoStable = false → s.straps.role < 3 →
    ∃ t, exec .lockstepMismatch s = .next t ∧ t.dev.boot = .hko ∧ t.mem = [] ∧ t.dev.bit F.KEEP_RST_CAUSE_SAFETY = true ∧
      t.dev.get F.KEEP_RST_CAUSE_SAFETY_CAUSE = scLockstep ∧ t.dev.flash = s.dev.flash ∧ t.otp = s.otp) ∧
  (∀ (s : State), s.dev.keepRuns = true → s.dev.safeNow = true →
    ∃ t, exec .lockstepMismatch s = .next t ∧ t.dev.get F.KEEP_SAFE_STAT_CAUSE_HELD = scLockstep ∧ t.dev.bit F.KEEP_SAFE_STAT_HELD = true ∧
      t.dev.safeNow = true ∧ s.Keeps t [R.KEEP_SAFE_STAT]) ∧
  (∀ (xs : List SensorRead) (st : Straps) (rs : List (Nat × Nat)) (s : State), s.dev.boot = .up → s.dev.power = .run →
    s.dev.safeNow = false → s.dev.safe.noBeat = 2 → s.dev.bootEnv.hkoStable = false → s.straps.role < 3 →
    ∃ t, exec (.housekeepingRound xs false true st rs) s = .next t ∧ t.dev.boot = .hko ∧ t.mem = [] ∧
      t.dev.bit F.KEEP_RST_CAUSE_SAFETY = true ∧ t.dev.get F.KEEP_RST_CAUSE_SAFETY_CAUSE = scFwStall ∧ t.otp = s.otp)

/-- A housekeeping round with a heartbeat and the supplies in range: every judged sensor takes its conversion, as BAD says whether it is
good, the counts of missed heartbeats and bad supplies go to 0, and the device goes on, not in the safe state (R430, R431, R441). The
checks of detectors: a lockstep test that is not flagged, and an external diode input that fails its bias test, set LATENT_FAIL; a test
that is flagged, and a check no input of which fails, change nothing (R448). It rests on the choices of the assumption log 8, 36 and 102.
-/
def Obligations.RoundsAndChecks : Prop :=
  (∀ (xs : List SensorRead) (st : Straps) (rs : List (Nat × Nat)) (s : State), s.dev.keepRuns = true → s.dev.power = .run →
    s.dev.safeNow = false →
    ∃ t, exec (.housekeepingRound xs true true st rs) s = .next t ∧ t.dev.safe.noBeat = 0 ∧ t.dev.safe.supplyBad = 0 ∧
      t.dev.safeNow = false ∧
      (∀ i, i < 12 → s.dev.sensorJudged i = true → t.dev.get (F.KEEP_TSENS_BAD i) = sensorBad i (nth xs i ⟨0, 0, false, 0⟩)) ∧
      (∀ i, i < 12 → s.dev.sensorJudged i = true → (nth xs i ⟨0, 0, false, 0⟩).done = true →
        t.dev.getInt (F.KEEP_TSENS_READING i) = clampInt (-32768) 32767 (sensorValue i (nth xs i ⟨0, 0, false, 0⟩))) ∧
      (∀ i, i < 12 → s.dev.sensorJudged i = false → t.dev.get (F.KEEP_TSENS_BAD i) = 6) ∧
      t.mem = s.mem ∧ t.otp = s.otp ∧ t.pending = s.pending) ∧
  (∀ (s : State), s.dev.boot = .up →
    ∃ t, exec (.latentLockstepTest false) s = .next t ∧ t.dev.bit F.KEEP_SAFE_STAT_LATENT_FAIL = true ∧ t.dev.safeNow = s.dev.safeNow ∧
      s.Keeps t eventRegs) ∧
  (∀ (s : State), exec (.latentLockstepTest true) s = .next s) ∧
  (∀ (bad i : Nat) (s : State), s.dev.boot = .up → i < 4 → bad.testBit i = true → s.dev.sensorJudged (8 + i) = true →
    ∃ t, exec (.latentDiodeCheck bad) s = .next t ∧ t.dev.bit F.KEEP_SAFE_STAT_LATENT_FAIL = true ∧ t.dev.safeNow = s.dev.safeNow ∧
      s.Keeps t eventRegs) ∧
  (∀ (bad : Nat) (s : State), (∀ i, i < 4 → bad.testBit i = true → s.dev.sensorJudged (8 + i) = false) →
    exec (.latentDiodeCheck bad) s = .next s)

/-! ### DRAM (ch. 4) -/

/-- DRAM temperatures: above 85 °C refresh doubles and HOT sets; the third read in a row that finds one DRAM above 95 °C puts region MEM
in SHUTDOWN and starts the orderly stop with cause THERMAL (R141, R433, R437). A DRAM read that fails its check and passes on a repeat
counts and flags a replay; one that never passes counts a memory fault, with its address and port, and a host's or firmware's burst is
held poisoned for the command that reads it; a read that passes, or that makes no DRAM access, changes nothing (R127, R131, R134, R135,
R136). It rests on the choices of the assumption log 8, 41 and 42. -/
def Obligations.DramCare : Prop :=
  (∀ (ts : List Int) (s : State), s.dev.mc.channels ≠ 0 → (∃ x ∈ ts, 85 < x) → (∀ x ∈ ts, x ≤ 95) →
    ∃ t, exec (.dramTempRead ts) s = .next t ∧ t.dev.mc.doubled = true ∧ (∀ i, nth t.dev.mc.hotReads i 0 = 0) ∧ t.dev.bit F.MEM_STAT_HOT = true ∧
      s.Keeps t [R.MEM_STAT]) ∧
  (∀ (ts : List Int) (s : State), s.dev.mc.channels ≠ 0 → (∀ x ∈ ts, x ≤ 85) →
    ∃ t, exec (.dramTempRead ts) s = .next t ∧ t.dev.mc.doubled = false ∧ (∀ i, nth t.dev.mc.hotReads i 0 = 0) ∧ s.Keeps t []) ∧
  (∀ (ts : List Int) (i : Nat) (s : State), s.dev.mc.channels ≠ 0 → i < ts.length → 95 < nth ts i 0 → nth s.dev.mc.hotReads i 0 = 2 →
    s.dev.safeNow = false → s.dev.safe.stopCause = none →
    ∃ t, exec (.dramTempRead ts) s = .next t ∧ t.dev.get ⟨R.KEEP_THERM_STAT, 12, 2⟩ = 3 ∧ t.dev.safe.stopCause = some scThermal ∧
      t.dev.bit F.KEEP_THERM_STAT_STOPPING = true ∧ t.mem = s.mem ∧ t.otp = s.otp) ∧
  (∀ (p a n : Nat) (rs : List BurstRead) (s : State), s.dev.memPort p = true → s.dev.readsDram a = true →
    (rs.length = 0 ∨ burstPasses a (nth rs 0 []) = false) →
    (1 < rs.length ∧ burstPasses a (nth rs 1 []) = true ∨ 2 < rs.length ∧ burstPasses a (nth rs 2 []) = true) →
    ∃ t, exec (.dramReadCheck p a n rs) s = .next t ∧ t.dev.bit F.MEM_STAT_REPLAYED = true ∧
      t.dev.get F.MEM_ERR_CNT_REPLAY_OK = satTo (2 ^ 32 - 1) (s.dev.get F.MEM_ERR_CNT_REPLAY_OK + 1) ∧ t.dev.mc = s.dev.mc ∧
      s.Keeps t [R.MEM_ERR_CNT, R.MEM_STAT]) ∧
  (∀ (p a n : Nat) (rs : List BurstRead) (s : State), s.dev.memPort p = true → 16 ≤ p → a < 2 ^ 45 → s.dev.readsDram a = true →
    s.dev.mc.faults = [] → (∀ i, i < 3 → i < rs.length → burstPasses a (nth rs i []) = false) →
    ∃ t, exec (.dramReadCheck p a n rs) s = .next t ∧ t.dev.bit F.MEM_STAT_MEM_FAULT = true ∧ t.dev.get F.MEM_ERR_ADDR_ADDR = a ∧
      t.dev.get F.MEM_ERR_ADDR_PORT = p ∧ t.dev.get F.MEM_ERR_CNT_FAULTS = satTo (2 ^ 16 - 1) (s.dev.get F.MEM_ERR_CNT_FAULTS + 1) ∧
      t.dev.mc.poisoned = (p, a) :: s.dev.mc.poisoned ∧ s.Keeps t (R.MEM_ERR_CNT :: R.MEM_ERR_ADDR :: R.MEM_STAT :: eventRegs)) ∧
  (∀ (p a n : Nat) (rs : List BurstRead) (s : State), s.dev.readsDram a = false ∨ 0 < rs.length ∧ burstPasses a (nth rs 0 []) = true →
    exec (.dramReadCheck p a n rs) s = .next s)

/-- The DRAM controller's own account: drift moves each lane by at most one step and alarms past 12 steps or below a width of 16; a row's
activates are counted, one that reaches the threshold has its neighbours refreshed and is charged, and the port that reaches the limit is
throttled unless it is exempt; the tables clear; the fill is done unless the device is in THROTTLE; a port's urgency follows the age of
its oldest request, and a target missed is flagged and counted (R131, R132, R138, R139, R140). It rests on the choices of the assumption
log 38, 39, 102 and 120. -/
def Obligations.DramAccounts : Prop :=
  (∀ (ls : List (Int × Nat)) (s : State), s.dev.memOpen = true → (∀ l ∈ ls, 16 ≤ l.2) → (∀ i, (nth s.dev.mc.drift i 0).natAbs ≤ 11) →
    ∃ t, exec (.driftUpdate ls) s = .next t ∧
      (∀ i, i < ls.length → nth t.dev.mc.drift i 0 = nth s.dev.mc.drift i 0 + clampInt (-1) 1 (nth ls i (0, 64)).1) ∧
      (∀ i, ls.length ≤ i → nth t.dev.mc.drift i 0 = nth s.dev.mc.drift i 0) ∧ s.Keeps t []) ∧
  (∀ (ls : List (Int × Nat)) (s : State), s.dev.memOpen = true →
    (∃ l ∈ ls, l.2 < 16) ∨ (∃ i, i < ls.length ∧ 12 < (nth s.dev.mc.drift i 0 + clampInt (-1) 1 (nth ls i (0, 64)).1).natAbs) →
    s.dev.bit F.MEM_STAT_DRIFT_ALARM = false →
    ∃ t, exec (.driftUpdate ls) s = .next t ∧ t.dev.bit F.MEM_STAT_DRIFT_ALARM = true ∧ s.Keeps t (R.MEM_STAT :: eventRegs)) ∧
  (∀ (p a n c : Nat) (s : State), s.dev.memPort p = true → s.dev.memOpen = true → s.dev.rowCount a = some c →
    c + n < s.dev.get F.MEM_RH_CFG_THRESH →
    ∃ t, exec (.rhThreshold p a n) s = .next t ∧ t.dev.rowCount a = some (c + n) ∧ t.dev.mc.targeted = s.dev.mc.targeted ∧
      t.dev.mc.charges = s.dev.mc.charges ∧ t.dev.mc.throttled = s.dev.mc.throttled ∧ s.Keeps t []) ∧
  (∀ (p a n c : Nat) (s : State), s.dev.memPort p = true → s.dev.memOpen = true → s.dev.rowCount a = some c → 1 ≤ n →
    c + n = s.dev.get F.MEM_RH_CFG_THRESH → p < s.dev.mc.charges.length →
    nth s.dev.mc.charges p 0 + 1 < s.dev.get F.MEM_RH_CFG_OFFENDER_LIMIT →
    ∃ t, exec (.rhThreshold p a n) s = .next t ∧ t.dev.rowCount a = some 0 ∧
      t.dev.mc.targeted = ⟨(s.dev.mc.place a).bankNo, (s.dev.mc.place a).row, refreshRows s.dev.mc.rfm (s.dev.mc.place a).row⟩ :: s.dev.mc.targeted ∧
      nth t.dev.mc.charges p 0 = nth s.dev.mc.charges p 0 + 1 ∧ (∀ k, k ≠ p → nth t.dev.mc.charges k 0 = nth s.dev.mc.charges k 0) ∧
      t.dev.mc.throttled = s.dev.mc.throttled ∧ s.Keeps t []) ∧
  (∀ (p a n c : Nat) (s : State), s.dev.memPort p = true → s.dev.memOpen = true → s.dev.rowCount a = some c → 1 ≤ n →
    c + n = s.dev.get F.MEM_RH_CFG_THRESH → p < s.dev.mc.charges.length → p < s.dev.mc.throttled.length →
    s.dev.get F.MEM_RH_CFG_OFFENDER_LIMIT ≤ nth s.dev.mc.charges p 0 + 1 → nth s.dev.mc.throttled p false = false →
    s.dev.bit (F.MEM_PORT_CFG_RH_EXEMPT p) = false →
    ∃ t, exec (.rhThreshold p a n) s = .next t ∧ nth t.dev.mc.throttled p false = true ∧
      t.dev.bit (F.MEM_PORT_STAT_THROTTLED p) = true ∧ t.dev.get (F.MEM_PORT_STAT_URGENCY p) = 0 ∧ t.dev.bit F.MEM_STAT_RH_THROTTLE = true ∧
      s.Keeps t (R.MEM_PORT_STAT p :: R.MEM_STAT :: eventRegs)) ∧
  (∀ (p a n c : Nat) (s : State), s.dev.memPort p = true → s.dev.memOpen = true → s.dev.rowCount a = some c → 1 ≤ n →
    c + n = s.dev.get F.MEM_RH_CFG_THRESH → p < s.dev.mc.charges.length →
    s.dev.get F.MEM_RH_CFG_OFFENDER_LIMIT ≤ nth s.dev.mc.charges p 0 + 1 → s.dev.bit (F.MEM_PORT_CFG_RH_EXEMPT p) = true →
    ∃ t, exec (.rhThreshold p a n) s = .next t ∧ t.dev.bit F.MEM_STAT_RH_EXEMPT = true ∧
      t.dev.mc.throttled = s.dev.mc.throttled ∧ s.Keeps t [R.MEM_STAT]) ∧
  (∀ (s : State), ∃ t, exec .rhTableClear s = .next t ∧ t.dev.mc.targeted = [] ∧ (∀ b, (t.dev.memBank b).table = []) ∧
      (∀ p, nth t.dev.mc.charges p 0 = 0) ∧ (∀ p, nth t.dev.mc.throttled p false = false) ∧ s.Keeps t []) ∧
  (∀ (s : State), s.dev.memOpen = true → (s.dev.isSender = true → s.dev.get F.KEEP_THERM_STAT_STATE < 2) →
    ∃ t, exec .backgroundFillDone s = .next t ∧ t.dev.bit F.MEM_STAT_FILL_DONE = true ∧ (∀ a, t.dev.isFilled a = true) ∧
      s.Keeps t [R.MEM_STAT]) ∧
  (∀ (s : State), s.dev.isSender = true → 2 ≤ s.dev.get F.KEEP_THERM_STAT_STATE → exec .backgroundFillDone s = .next s) ∧
  (∀ (p a age : Nat) (w : Bool) (s : State), s.dev.memPort p = true → s.dev.memOpen = true → s.dev.mc.queues = List.replicate 19 [] →
    nth s.dev.mc.throttled p false = false →
    ∃ t, exec (.portUrgencyRise (.accept p w a age) []) s = .next t ∧ exec (.portTargetMiss [.accept p w a age]) s = .next t ∧
      t.dev.get (F.MEM_PORT_STAT_URGENCY p) = (if 90 * s.dev.get (F.MEM_PORT_CFG_TARGET_NS p) ≤ 100 * age then 3
        else if 75 * s.dev.get (F.MEM_PORT_CFG_TARGET_NS p) ≤ 100 * age then 2
        else if 50 * s.dev.get (F.MEM_PORT_CFG_TARGET_NS p) ≤ 100 * age then 1 else 0) ∧
      (90 * s.dev.get (F.MEM_PORT_CFG_TARGET_NS p) ≤ 100 * age → t.dev.bit (F.MEM_PORT_STAT_URG3 p) = true) ∧
      (s.dev.get (F.MEM_PORT_CFG_TARGET_NS p) < age → t.dev.bit (F.MEM_PORT_STAT_MISSED p) = true ∧
        t.dev.get (F.MEM_PORT_STAT_MISS_CNT p) = satTo (2 ^ 32 - 1) (s.dev.get (F.MEM_PORT_STAT_MISS_CNT p) + 1)) ∧
      (age ≤ s.dev.get (F.MEM_PORT_CFG_TARGET_NS p) →
        t.dev.get (F.MEM_PORT_STAT_MISS_CNT p) = s.dev.get (F.MEM_PORT_STAT_MISS_CNT p)) ∧
      s.Keeps t ((List.range 19).map R.MEM_PORT_STAT)) ∧
  (∀ (e : MemEvent) (es : List MemEvent) (s : State), s.dev.memOpen = false →
    exec (.portUrgencyRise e es) s = .next s ∧ exec (.portTargetMiss es) s = .next s)

/-! ### Rails, cap, locate (ch. 13) -/

/-- A write of a rail's configuration: off, the rail takes every field, with a TARGET of 200 to 1,200 as a voltage mode or 100 and more as
MODE 2; on, MODE, SEQ and FSW stay and a change of them answers E_STATE; a good rail ramps to a new TARGET (R390, R394). It rests on the
choices of the assumption log 94 and 111. -/
def Obligations.RailConfiguration : Prop :=
  (∀ (n : Fin 12) (v : Word) (s : State), s.dev.answers = true → s.dev.isTile = true → s.dev.railState n = rsOff → railWordOk v = true →
    ∃ t, exec (.railCfgWrite n v) s = .next t ∧
      (∀ x ∈ [(0, 2), (2, 4), (6, 1), (8, 6), (16, 12), (32, 12), (48, 8)],
        Word.field (t.dev.reg (R.LAMP_RAIL_CFG n)) x.1 x.2 = Word.field v x.1 x.2) ∧
      t.dev.lamp = s.dev.lamp ∧ t.dev.lastStatus = Status.ok.code ∧ s.Keeps t [R.LAMP_RAIL_CFG n]) ∧
  (∀ (n : Fin 12) (v : Word) (s : State), s.dev.answers = true → s.dev.isTile = true → s.dev.railState n ≠ rsOff → railWordOk v = true →
    Word.field v 0 2 ≠ s.dev.railMode n ∨ Word.field v 2 4 ≠ s.dev.get (F.LAMP_RAIL_CFG_SEQ n) ∨
      Word.field v 8 6 ≠ s.dev.get (F.LAMP_RAIL_CFG_FSW n) →
    exec (.railCfgWrite n v) s = .next (s.withStatus .state 0)) ∧
  (∀ (n : Fin 12) (v : Word) (s : State), s.dev.answers = true → s.dev.isTile = true → s.dev.railState n = rsGood → railWordOk v = true →
    s.dev.lamp.rails.length = 12 → Word.field v 0 2 = s.dev.railMode n → Word.field v 2 4 = s.dev.get (F.LAMP_RAIL_CFG_SEQ n) →
    Word.field v 8 6 = s.dev.get (F.LAMP_RAIL_CFG_FSW n) → s.dev.get (F.LAMP_RAIL_CFG_TARGET n) < Word.field v 16 12 →
    s.dev.get (F.LAMP_RAIL_STAT_REF n) = s.dev.get (F.LAMP_RAIL_CFG_TARGET n) →
    ∃ t, exec (.railCfgWrite n v) s = .next t ∧ t.dev.get (F.LAMP_RAIL_CFG_TARGET n) = Word.field v 16 12 ∧
      (t.dev.rail n).ramp = some (s.dev.now, s.dev.get (F.LAMP_RAIL_CFG_TARGET n), Word.field v 16 12,
        (Word.field v 16 12 - s.dev.get (F.LAMP_RAIL_CFG_TARGET n)) * 10 * usPs) ∧ s.Keeps t [R.LAMP_RAIL_CFG n]) ∧
  (∀ (n : Fin 12) (v : Word) (s : State), s.dev.answers = true → s.dev.isTile = true → Word.field v 0 2 < 2 →
    Word.field v 16 12 < 200 ∨ 1200 < Word.field v 16 12 → exec (.railCfgWrite n v) s = .next (s.withStatus .range 0))

/-- Rails in sequence: a start turns on the rails of the lowest SEQ, from 0 V; a rail good for its time is GOOD, and rails that were good
stay so; a stop turns off those of the highest SEQ still on. A trip, or a rail not good in time, cuts it with CUT set and counted, to wait
for its restart, which starts it alone; at the cut past RETRY_MAX within 10 s it latches off and the device enters the safe state; an
undervoltage is flagged and the rail stays (R391, R393, R439). It rests on the choices of the assumption log 2, 8 and 94. -/
def Obligations.RailSequence : Prop :=
  (∀ (q : Nat) (s : State), s.dev.railsMayRun = true → s.dev.clocked guRails = true →
    (∀ n ∈ s.dev.usedRails, s.dev.railState n = rsOff) → q < 16 →
    s.dev.railsOfSeq q ≠ [] → (∀ p, p < q → s.dev.railsOfSeq p = []) →
    ∃ t, exec .railStart s = .next t ∧ t.dev.safe.blank = false ∧
      (∀ n ∈ s.dev.railsOfSeq q, t.dev.railState n = rsStarting ∧ t.dev.get (F.LAMP_RAIL_STAT_REF n) = 0) ∧
      (∀ n, n < 12 → n ∉ s.dev.railsOfSeq q → t.dev.railState n = s.dev.railState n) ∧
      s.Keeps t ((List.range 12).map R.LAMP_RAIL_STAT)) ∧
  (∀ (n : Fin 12) (s : State), s.dev.railsMayRun = true → s.dev.railState n = rsStarting →
    ∃ t, exec (.railGood n) s = .next t ∧ t.dev.railState n = rsGood ∧
      (∀ m, m < 12 → s.dev.railState m = rsGood → t.dev.railState m = rsGood) ∧ t.mem = s.mem ∧ t.otp = s.otp) ∧
  (∀ (n : Fin 12) (s : State), s.dev.isTile = true → s.dev.railState n = rsStarting → s.dev.recentCuts n < s.dev.get (F.LAMP_RAIL_LIM_RETRY_MAX n) →
    ∃ t, exec (.railSeqTimeout n) s = .next t ∧ t.dev.railState n = rsWait ∧ t.dev.bit (F.LAMP_RAIL_STAT_SEQ_TIMEOUT n) = true ∧
      t.dev.bit (F.LAMP_RAIL_STAT_CUT n) = true ∧ t.dev.get (F.LAMP_RAIL_STAT_CUTS n) = satTo 255 (s.dev.get (F.LAMP_RAIL_STAT_CUTS n) + 1) ∧
      s.Keeps t (R.LAMP_RAIL_STAT n :: eventRegs)) ∧
  (∀ (n : Fin 12) (s : State), s.dev.isTile = true → s.dev.railState n = rsStarting ∨ s.dev.railState n = rsGood →
    s.dev.recentCuts n < s.dev.get (F.LAMP_RAIL_LIM_RETRY_MAX n) →
    ∃ t, exec (.railComparatorTrip n) s = .next t ∧ t.dev.railState n = rsWait ∧ t.dev.get (F.LAMP_RAIL_STAT_REF n) = 0 ∧
      t.dev.bit (F.LAMP_RAIL_STAT_CUT n) = true ∧ t.dev.get (F.LAMP_RAIL_STAT_CUTS n) = satTo 255 (s.dev.get (F.LAMP_RAIL_STAT_CUTS n) + 1) ∧
      s.Keeps t (R.LAMP_RAIL_STAT n :: eventRegs)) ∧
  (∀ (n : Fin 12) (s : State), s.dev.isTile = true → s.dev.railState n = rsStarting ∨ s.dev.railState n = rsGood → s.dev.keepRuns = true →
    s.dev.safeNow = false → s.dev.get (F.LAMP_RAIL_LIM_RETRY_MAX n) ≤ s.dev.recentCuts n →
    ∃ t, exec (.railComparatorTrip n) s = .next t ∧ t.dev.railState n = rsLatched ∧ s.EntersSafe t scRail) ∧
  (∀ (n : Fin 12) (s : State), s.dev.railsMayRun = true → s.dev.railState n = rsWait →
    ∃ t, exec (.railRestart n) s = .next t ∧ t.dev.railState n = rsStarting ∧ t.dev.get (F.LAMP_RAIL_STAT_REF n) = 0 ∧
      s.Keeps t [R.LAMP_RAIL_STAT n]) ∧
  (∀ (n : Fin 12) (s : State), s.dev.isTile = true → s.dev.railState n = rsGood →
    ∃ t, exec (.railUndervoltage n) s = .next t ∧ t.dev.railState n = rsGood ∧ t.dev.bit (F.LAMP_RAIL_STAT_UV n) = true ∧
      s.Keeps t (R.LAMP_RAIL_STAT n :: eventRegs)) ∧
  (∀ (q : Nat) (s : State), s.dev.isTile = true → s.dev.safe.blank = true → q < 16 →
    (∃ n ∈ s.dev.railsOfSeq q, s.dev.railState n ≠ rsOff ∧ s.dev.railState n ≠ rsLatched) →
    (∀ p, p < 16 → q < p → ∀ n ∈ s.dev.railsOfSeq p, s.dev.railState n = rsOff ∨ s.dev.railState n = rsLatched) →
    ∃ t, exec .railStop s = .next t ∧
      (∀ n ∈ s.dev.railsOfSeq q, s.dev.railState n ≠ rsLatched → t.dev.railState n = rsOff) ∧
      (∀ n, n < 12 → n ∉ s.dev.railsOfSeq q → t.dev.railState n = s.dev.railState n) ∧
      s.Keeps t ((List.range 12).map R.LAMP_RAIL_STAT))

/-- The wall-wide cap: with a tile in throttle an evaluation lowers the sender's own by CAP_STEP, never below CAP_MIN; with every tile
cool for CAP_RECOVER_S it raises it by CAP_STEP, up to full; CAP is the lower of that and CAP_EXT, and a lower CAP sets LOWERED and is
sent to the tiles. WALL_OFF of a tile blanks the wall. A tile's thermal report is kept and counted. A tile keeps a DRIVE for its frame,
and flags one that is late (R406, R407, R408, R409, R435). It rests on the choices of the assumption log 61 and 96. -/
def Obligations.CapAndBlank : Prop :=
  (∀ (own : Nat) (s : State), s.dev.isSender = true → s.dev.boot = .up → s.dev.hasToken = true → 0 < s.dev.tilesAt 2 →
    own = max (s.dev.get F.CTRL_CAP_CFG_CAP_MIN) (s.dev.cap.own - s.dev.get F.CTRL_CAP_CFG_CAP_STEP) →
    ∃ t, exec .capEvaluate s = .next t ∧ t.dev.cap.own = own ∧
      t.dev.get F.CTRL_CAP_STAT_CAP = min own (s.dev.get F.CTRL_CAP_EXT_CAP_EXT) ∧
      (t.dev.get F.CTRL_CAP_STAT_CAP < s.dev.get F.CTRL_CAP_STAT_CAP → t.dev.bit F.CTRL_CAP_STAT_LOWERED = true ∧
        t.dev.cap.sent = some (t.dev.get F.CTRL_CAP_STAT_CAP, s.dev.bit F.CTRL_CAP_STAT_WALL_BLANK, s.dev.driveFrom)) ∧
      s.Keeps t (R.CTRL_CAP_STAT :: eventRegs)) ∧
  (∀ (s : State), s.dev.isSender = true → s.dev.boot = .up → s.dev.hasToken = true → s.dev.tilesAt 2 = 0 → s.dev.tilesAt 1 = 0 →
    (∀ x, s.dev.cap.warmAt = some x → x + s.dev.get F.CTRL_CAP_CFG_CAP_RECOVER_S * sPs ≤ s.dev.now) →
    ∃ t, exec .capEvaluate s = .next t ∧ t.dev.cap.own = min 0x8000 (s.dev.cap.own + s.dev.get F.CTRL_CAP_CFG_CAP_STEP) ∧
      t.dev.get F.CTRL_CAP_STAT_CAP = min t.dev.cap.own (s.dev.get F.CTRL_CAP_EXT_CAP_EXT) ∧ s.Keeps t (R.CTRL_CAP_STAT :: eventRegs)) ∧
  (∀ (s : State), s.dev.isSender = true → s.dev.boot = .up → s.dev.hasToken = true →
    ∃ t, exec .wallOffEventRx s = .next t ∧ t.dev.bit F.CTRL_CAP_CTRL_BLANK = true ∧ t.dev.bit F.CTRL_CAP_STAT_WALL_BLANK = true ∧
      t.dev.cap.sent = some (s.dev.get F.CTRL_CAP_STAT_CAP, true, s.dev.driveFrom) ∧ s.Keeps t [R.CTRL_CAP_CTRL, R.CTRL_CAP_STAT]) ∧
  (∀ (k p x : Nat) (s : State), s.dev.isSender = true → s.dev.boot = .up → (s.dev.positions k).contains p = true →
    ∃ t, exec (.tileThermalReportRx k p x) s = .next t ∧ (∀ r ∈ (t.dev.loopSt k).tiles, r.pos = p → r.thermal = x) ∧
      t.dev.get F.CTRL_CAP_STAT_THROTTLING = satTo 1023 (t.dev.tilesAt 2) ∧ s.Keeps t (R.CTRL_CAP_STAT :: eventRegs)) ∧
  (∀ (e : Fin 2) (cap : Nat) (b : Bool) (n : Nat) (s : State), s.dev.isTile = true → s.dev.boot = .up → s.dev.endAccepted e = true →
    ∃ t, exec (.driveItemRx e cap b n) s = .next t ∧ (n, cap, b) ∈ t.dev.lamp.drives ∧
      (∀ x ∈ t.dev.lamp.drives, x.1 = n → x = (n, cap, b)) ∧ (∀ x, x.1 ≠ n → (x ∈ t.dev.lamp.drives ↔ x ∈ s.dev.lamp.drives)) ∧
      (s.dev.latchPast n = true → (n, cap, b) ∉ s.dev.lamp.drives → t.dev.bit F.LAMP_CAP_STAT_CAP_LATE = true) ∧
      s.Keeps t [R.LAMP_CAP_STAT])

/-- LOCATE on a tile whose rails are good sets the pattern, or its end, for the next lamp-drive latch; a sender answers E_ROLE. The writes
that act once: the lamp map empties and its count is 0, the dark latch clears at the next latch, the factors of colour feedback go to 1
(R361, R405, R410, R426). It rests on the choices of the assumption log 84, 95 and 101. -/
def Obligations.LampCommands : Prop :=
  (∀ (h : Hdr) (w : Word) (s : State), s.takes h .locate [w] = true → s.dev.isTile = true → s.dev.power = .run → s.dev.safeNow = false →
    s.dev.railsGood = true → Word.field w 4 4 < 5 →
    ∃ t, exec (.locate h w) s = .next t ∧ t.dev.lamp.locateNext = some (if w.getLsbD 0 then some (Word.field w 4 4) else none) ∧
      t.dev.lamp.locate = s.dev.lamp.locate ∧ t.Answered (hostCmd h .locate [w]) s.dev.responder .ok 0 [] ∧ s.Keeps t []) ∧
  (∀ (h : Hdr) (w : Word) (s : State), s.takes h .locate [w] = true → s.dev.isSender = true →
    ∃ t, exec (.locate h w) s = .next t ∧ t.dev.lamp = s.dev.lamp ∧
      t.Answered (hostCmd h .locate [w]) s.dev.responder .role 0 [] ∧ s.Keeps t []) ∧
  (∀ (s : State), s.dev.answers = true → s.dev.isTile = true →
    ∃ t, exec .lampMapClear s = .next t ∧ t.dev.flash.map = [] ∧ t.dev.get F.LAMP_MAP_STAT_ENTRIES = 0 ∧ t.dev.lamp.counts = [] ∧
      t.dev.flash.dark = s.dev.flash.dark ∧ s.Keeps t [R.LAMP_MAP_STAT, R.LAMP_MAP_CTRL]) ∧
  (∀ (s : State), s.dev.answers = true → s.dev.isTile = true →
    ∃ t, exec .faultResume s = .next t ∧ t.dev.lamp.resume = true ∧ t.dev.flash = s.dev.flash ∧ s.Keeps t [R.LAMP_FAULT_CTRL]) ∧
  (∀ (s : State), s.dev.answers = true → s.dev.isTile = true →
    ∃ t, exec .fbClear s = .next t ∧ t.dev.flash.factors = [1, 1, 1, 1] ∧ t.dev.get F.LAMP_PHOTO_FB_C_R = 0x4000 ∧
      t.dev.get F.LAMP_PHOTO_FB_C_G = 0x4000 ∧ t.dev.get F.LAMP_PHOTO_FB_C_B = 0x4000 ∧ t.dev.get F.LAMP_PHOTO_FB_C_W = 0x4000 ∧
      t.dev.photo.wait = some (0, [0x4000, 0x4000, 0x4000, 0x4000], List.replicate 16 0) ∧
      s.Keeps t [R.LAMP_PHOTO_CTRL, R.LAMP_PHOTO_FB])

/-! ### Orvarlink and the loops (ch. 9) -/

/-- Ports: a lost lock takes a port down, what waits for it is lost and LOCK_LOST is set; signal on a clocked port that is down trains it
in COL; a port whose training ends with every lane locked is in the mode it trained to, with one lane of FULL missing in FULL with that
lane retired; without lane 0 in another mode, or with two lanes of FULL missing, it is down (R257, R275, R278, R279). Lanes: a receiver
that loses block lock asks for training again three times within 1 ms each, counted; the fourth loss retires the lane of a FULL link that
has all four and leaves three, LANE_RETIRED set; so does a lane with more errors in a second than LANE_ERR_MAX; four lanes at or under it
change nothing (R280). It rests on the choices of the assumption log 8 and 66. -/
def Obligations.PortsAndLanes : Prop :=
  (∀ (p : Fin 8) (s : State), s.dev.linkRuns = true → s.dev.portState p ≠ lsDown → s.dev.link.ports.length = 8 →
    ∃ t, exec (.linkLockLost p) s = .next t ∧ t.dev.portState p = lsDown ∧ t.dev.bit (F.LINK_OVL_STAT_LOCK_LOST p) = true ∧
      (t.dev.port p).ctrl = [] ∧ (t.dev.port p).stream = [] ∧ (t.dev.port p).tags = [] ∧ t.mem = s.mem ∧ t.otp = s.otp) ∧
  (∀ (p : Fin 8) (s : State), s.dev.linkRuns = true → s.dev.portState p = lsDown → exec (.linkLockLost p) s = .next s) ∧
  (∀ (p : Fin 8) (s : State), s.dev.linkRuns = true → s.dev.portActive p = true → s.dev.clocked (guOvl + p) = true →
    s.dev.portState p = lsDown → s.dev.link.ports.length = 8 →
    ∃ t, exec (.linkSignalDetect p) s = .next t ∧ t.dev.portState p = lsTrain ∧ (t.dev.port p).target = lsCol ∧
      Out.train p lsCol ∈ t.dev.out ∧ s.Keeps t (R.LINK_OVL_STAT p :: R.KEEP_INSVC :: eventRegs)) ∧
  (∀ (p : Fin 8) (s : State), s.dev.linkRuns = true → s.dev.clocked (guOvl + p) = true → s.dev.portState p = lsTrain →
    2 ≤ (s.dev.port p).target → (s.dev.port p).target ≤ 4 →
    ∃ t, exec (.linkTrained p 0) s = .next t ∧ t.dev.portState p = (s.dev.port p).target ∧ t.mem = s.mem ∧ t.otp = s.otp) ∧
  (∀ (p : Fin 8) (l : Fin 4) (s : State), s.dev.linkRuns = true → s.dev.clocked (guOvl + p) = true → s.dev.portState p = lsTrain →
    (s.dev.port p).target = lsFull → (s.dev.port p).rxRetired = 0 → p.val < s.dev.link.ports.length →
    ∃ t, exec (.linkTrained p (2 ^ l.val)) s = .next t ∧ t.dev.portState p = lsFull ∧ (t.dev.port p).rxRetired.testBit l = true ∧
      t.dev.get (F.LINK_OVL_STAT_RX_LANES p) = 3 ∧ t.dev.bit (F.LINK_OVL_STAT_LANE_RETIRED p) = true ∧ t.mem = s.mem ∧ t.otp = s.otp) ∧
  (∀ (p : Fin 8) (x : Nat) (s : State), s.dev.linkRuns = true → s.dev.clocked (guOvl + p) = true → s.dev.portState p = lsTrain →
    ((s.dev.port p).target = lsFull ∧ 1 < popCount 4 x ∨ (s.dev.port p).target ≠ lsFull ∧ x.testBit 0 = true) →
    ∃ t, exec (.linkTrained p x) s = .next t ∧ t.dev.portState p = lsDown ∧ t.mem = s.mem ∧ t.otp = s.otp) ∧
  (∀ (p : Fin 8) (l : Fin 4) (n : Nat) (s : State), s.dev.linkRuns = true → lsCol ≤ s.dev.portState p → (s.dev.port p).rxRetired.testBit l = false →
    p.val < s.dev.link.ports.length → l.val < (s.dev.port p).relocks.length →
    n = (if s.dev.now ≤ nth (s.dev.port p).relockAt l 0 + msPs then nth (s.dev.port p).relocks l 0 else 0) → n < 3 →
    ∃ t, exec (.laneBlockLockLost p l) s = .next t ∧ nth (t.dev.port p).relocks l 0 = n + 1 ∧
      t.dev.get (F.LINK_OVL_CNT_RELOCKS p) = satTo 65535 (s.dev.get (F.LINK_OVL_CNT_RELOCKS p) + 1) ∧
      t.dev.portState p = s.dev.portState p ∧ s.Keeps t [R.LINK_OVL_CNT p]) ∧
  (∀ (p : Fin 8) (l : Fin 4) (s : State), s.dev.linkRuns = true → s.dev.portState p = lsFull → (s.dev.port p).rxRetired = 0 →
    p.val < s.dev.link.ports.length → s.dev.now ≤ nth (s.dev.port p).relockAt l 0 + msPs → 3 ≤ nth (s.dev.port p).relocks l 0 →
    ∃ t, exec (.laneBlockLockLost p l) s = .next t ∧ (t.dev.port p).rxRetired.testBit l = true ∧
      t.dev.get (F.LINK_OVL_STAT_RX_LANES p) = 3 ∧ t.dev.bit (F.LINK_OVL_STAT_LANE_RETIRED p) = true ∧ t.dev.portState p = lsFull ∧
      s.Keeps t (R.LINK_OVL_STAT p :: R.KEEP_INSVC :: R.COMPOSE_KLOAD :: eventRegs)) ∧
  (∀ (p : Fin 8) (es : List Nat) (s : State), s.dev.linkRuns = true → (∀ l, l < 4 → nth es l 0 ≤ s.dev.get F.LINK_CFG_LANE_ERR_MAX) →
    exec (.laneErrorWindow p es) s = .next s) ∧
  (∀ (p : Fin 8) (l : Fin 4) (es : List Nat) (s : State), s.dev.linkRuns = true → s.dev.portState p = lsFull →
    (s.dev.port p).rxRetired = 0 → p.val < s.dev.link.ports.length → s.dev.get F.LINK_CFG_LANE_ERR_MAX < nth es l 0 →
    (∀ k, k < 4 → k ≠ l.val → nth es k 0 ≤ s.dev.get F.LINK_CFG_LANE_ERR_MAX) →
    ∃ t, exec (.laneErrorWindow p es) s = .next t ∧ (t.dev.port p).rxRetired.testBit l = true ∧
      t.dev.get (F.LINK_OVL_STAT_RX_LANES p) = 3 ∧ t.dev.bit (F.LINK_OVL_STAT_LANE_RETIRED p) = true ∧
      s.Keeps t (R.LINK_OVL_STAT p :: R.KEEP_INSVC :: R.COMPOSE_KLOAD :: eventRegs))

/-- A parcel whose check word is the inverse of the right one is counted as stomped, one whose check word is wrong otherwise as a check
error with CHECK_ERR set; neither adds anything to the frame in reception. A good pixel parcel of the frame in reception, the first of it
that an enumerated tile receives under its index, is kept (R263, R274). A frame in reception at an enumerated tile: its FRAME_OPEN is
taken once, an ABORT is noted for the end it came from, the tag of the tile's position is taken from a TAG; each of another frame sets
STALE_SEQ and changes nothing of the frame (R267, R269, R274, R284). It rests on the choices of the assumption log 7, 62 and 81. -/
def Obligations.ParcelsAndFrames : Prop :=
  (∀ (p : Fin 8) (ws : List Word) (s : State), s.dev.linkRuns = true → s.dev.portActive p = true → lsCol ≤ s.dev.portState p →
    ws.length = 32 → nth ws 31 0 = ~~~s.dev.wantCheck p ws →
    ∃ t, exec (.parcelRx p ws false) s = .next t ∧
      t.dev.get (F.LINK_OVL_CNT_STOMPS p) = satTo 65535 (s.dev.get (F.LINK_OVL_CNT_STOMPS p) + 1) ∧
      (s.dev.isTile = false → t.dev.link = s.dev.link) ∧ t.dev.rxState = s.dev.rxState ∧ s.Keeps t [R.LINK_OVL_CNT p]) ∧
  (∀ (p : Fin 8) (ws : List Word) (s : State), s.dev.linkRuns = true → s.dev.portActive p = true → lsCol ≤ s.dev.portState p →
    ws.length = 32 → nth ws 31 0 ≠ s.dev.wantCheck p ws → nth ws 31 0 ≠ ~~~s.dev.wantCheck p ws →
    ∃ t, exec (.parcelRx p ws false) s = .next t ∧
      t.dev.get (F.LINK_OVL_CNT_CHECK_ERRS p) = satTo (2 ^ 32 - 1) (s.dev.get (F.LINK_OVL_CNT_CHECK_ERRS p) + 1) ∧
      t.dev.bit (F.LINK_OVL_STAT_CHECK_ERR p) = true ∧ (s.dev.isTile = false → t.dev.link = s.dev.link) ∧
      t.dev.rxState = s.dev.rxState ∧ s.Keeps t [R.LINK_OVL_CNT p, R.LINK_OVL_STAT p]) ∧
  (∀ (p : Fin 8) (ws : List Word) (s : State), s.dev.linkRuns = true → s.dev.portActive p = true → lsCol ≤ s.dev.portState p →
    ws.length = 32 → s.dev.isTile = true → nth ws 31 0 = s.dev.wantCheck p ws → (ParcelHead.ofWord (nth ws 0 0)).ty = ptPixel →
    (ParcelHead.ofWord (nth ws 0 0)).resv = 0 → (ParcelHead.ofWord (nth ws 0 0)).enc = false →
    s.dev.bit F.LINK_TILE_STAT_IDENT = true → (ParcelHead.ofWord (nth ws 0 0)).frame = s.dev.rxFrame % 2 ^ 24 →
    s.dev.rxState.ended = false → s.dev.rxState.opened = none → s.dev.rxState.aborted = [] → s.dev.rxState.tag = none →
    s.dev.rxState.tagOk = none → (s.dev.rxState.kept.any fun k => k.1 == (ParcelHead.ofWord (nth ws 0 0)).index) = false →
    ∃ t, exec (.parcelRx p ws false) s = .next t ∧ ((ParcelHead.ofWord (nth ws 0 0)).index, ws.take 31) ∈ t.dev.rxState.kept ∧
      s.KeepsMem t ∧ t.otp = s.otp ∧ s.KeepsRegs t [R.LINK_TILE_STAT]) ∧
  (∀ (p : Fin 8) (n : Nat) (o : FrameOpen) (s : State), s.dev.linkRuns = true → s.dev.isTile = true →
    s.dev.bit F.LINK_TILE_STAT_IDENT = true → n % 2 ^ 24 = s.dev.rxFrame % 2 ^ 24 → s.dev.rxState.ended = false →
    s.dev.rxState.opened = none → s.dev.rxState.tag = none → s.dev.rxState.aborted = [] →
    ∃ t, exec (.frameOpenRx p n o) s = .next t ∧ t.dev.rxState.opened = some o ∧ t.mem = s.mem ∧ t.otp = s.otp) ∧
  (∀ (p : Fin 8) (n i r : Nat) (s : State), s.dev.linkRuns = true → s.dev.isTile = true → s.dev.bit F.LINK_TILE_STAT_IDENT = true →
    n % 2 ^ 24 = s.dev.rxFrame % 2 ^ 24 → s.dev.rxState.ended = false →
    ∃ t, exec (.abortRx p n i r) s = .next t ∧ s.dev.tileEnd p ∈ t.dev.rxState.aborted ∧ t.mem = s.mem ∧ t.otp = s.otp) ∧
  (∀ (p : Fin 8) (n f : Nat) (g : Word × Word) (gs : List (Word × Word)) (s : State), s.dev.linkRuns = true → s.dev.isTile = true →
    s.dev.bit F.LINK_TILE_STAT_IDENT = true → n % 2 ^ 24 = s.dev.rxFrame % 2 ^ 24 → s.dev.rxState.ended = false → s.dev.rxState.tag = none →
    f ≤ s.dev.get F.LINK_TILE_STAT_POSITION → gs[s.dev.get F.LINK_TILE_STAT_POSITION - f]? = some g →
    ∃ t, exec (.tagRx p n f gs) s = .next t ∧ t.dev.rxState.tag = some g ∧ t.mem = s.mem ∧ t.otp = s.otp) ∧
  (∀ (p : Fin 8) (n i r : Nat) (o : FrameOpen) (gs : List (Word × Word)) (s : State), s.dev.linkRuns = true → s.dev.isTile = true →
    s.dev.bit F.LINK_TILE_STAT_IDENT = true → n % 2 ^ 24 ≠ s.dev.rxFrame % 2 ^ 24 →
    ∃ t, exec (.frameOpenRx p n o) s = .next t ∧ exec (.abortRx p n i r) s = .next t ∧ exec (.tagRx p n i gs) s = .next t ∧
      t.dev.bit F.LINK_TILE_STAT_STALE_SEQ = true ∧ t.dev.link = s.dev.link ∧ s.Keeps t [R.LINK_TILE_STAT])

/-- What a port sends and learns: an item not complete in time is forgotten; position 1,023 of every 1,024 is a rate-match OPEN; a pixel
position of a sending port takes the next parcel of the stream with its check word; word j of the stream leaves on lane j mod L of those
in service, and a group of alignment markers goes before every 16,384 words of each lane; a LINK parcel's UID and report of the partner
are kept, and a port whose partner has no lock goes down (R258, R263, R266, R270, R271, R275). It rests on the choices of the assumption
log 62, 64, 65 and 131. -/
def Obligations.PortTraffic : Prop :=
  (∀ (p : Fin 8) (m : Nat) (s : State),
    ∃ t, exec (.itemReassemblyTimeout p m) s = .next t ∧ (∀ x ∈ t.dev.link.partials, ¬(x.port = p.val ∧ x.msg = m)) ∧
      (∀ x ∈ s.dev.link.partials, ¬(x.port = p.val ∧ x.msg = m) → x ∈ t.dev.link.partials) ∧ s.Keeps t []) ∧
  (∀ (p : Fin 8) (s : State), s.dev.linkRuns = true → s.dev.portActive p = true → s.dev.sources p = true → p.val < s.dev.link.ports.length →
    (s.dev.port p).sent % 1024 = 1023 →
    ∃ t ws, exec (.parcelPositionTx p) s = .next t ∧ t.dev.out = s.dev.striped p ws :: s.dev.out ∧ (ParcelHead.ofWord (nth ws 0 0)).ty = ptOpen ∧
      (ParcelHead.ofWord (nth ws 0 0)).index = 0xFFFFFF ∧ (t.dev.port p).sent = (s.dev.port p).sent + 1 ∧ s.Strides t p ∧
      (t.dev.port p).stream = (s.dev.port p).stream ∧ s.Keeps t []) ∧
  (∀ (p : Fin 8) (w : List Word) (rest : List (List Word)) (s : State), s.dev.linkRuns = true → s.dev.portActive p = true →
    s.dev.sources p = true → s.dev.ctrlAllowed = true → lsOne ≤ s.dev.portState p → p.val < s.dev.link.ports.length →
    (s.dev.port p).sent % 32 ≠ 31 → (s.dev.port p).stream = w :: rest →
    ∃ t, exec (.parcelPositionTx p) s = .next t ∧ t.dev.out = s.dev.striped p (w.take 31 ++ [sentCheck w]) :: s.dev.out ∧
      (t.dev.port p).stream = rest ∧ (t.dev.port p).sent = (s.dev.port p).sent + 1 ∧ s.Strides t p ∧ s.Keeps t []) ∧
  (∀ (p : Fin 8) (lo hi : Word) (lock lanes : Nat) (tile : Bool) (pp : Nat) (lid : Option Nat) (mode ret : Nat) (s : State),
    s.dev.linkRuns = true → s.dev.portActive p = true → lsCol < s.dev.portState p → p.val < s.dev.link.ports.length →
    s.dev.miswired p pp tile lid = false → s.dev.partnerLocks p lock = true → ret % 16 = (s.dev.port p).txRetired →
    ∃ t, exec (.linkParcelRx p lo hi lock lanes tile pp lid mode ret) s = .next t ∧ t.dev.reg (R.LINK_OVL_PEER p) = lo ∧
      (t.dev.port p).peerHi = hi ∧ (t.dev.port p).peerTile = tile ∧ (t.dev.port p).peerLoop = lid ∧ (t.dev.port p).peerMode = modeOf mode ∧
      t.dev.portState p = s.dev.portState p ∧ s.Keeps t [R.LINK_OVL_PEER p, R.LINK_TILE_STAT]) ∧
  (∀ (p : Fin 8) (lo hi : Word) (lock lanes : Nat) (tile : Bool) (pp : Nat) (lid : Option Nat) (mode ret : Nat) (s : State),
    s.dev.linkRuns = true → s.dev.portActive p = true → lsCol ≤ s.dev.portState p → p.val < s.dev.link.ports.length →
    s.dev.partnerLocks p lock = false →
    ∃ t, exec (.linkParcelRx p lo hi lock lanes tile pp lid mode ret) s = .next t ∧ t.dev.portState p < lsCol ∧ t.mem = s.mem ∧
      t.otp = s.otp)

/-- Loops at their sender: an enabled loop that is down trains its ports at col rate; LOOP_ENUM sends ENUM and is answered when it ends; a
tile's answer is recorded; at its end TILES and LAYOUT_BAD say what answered, and the command is answered with it; a loop no parcel
returns on is not CLOSED; one healed with the neighbours it had is; a tile unreachable for its time has left (R273, R275, R276, R278,
R279, R289). It rests on the choices of the assumption log 60, 67 and 112. -/
def Obligations.LoopsAtTheSender : Prop :=
  (∀ (k : Nat) (s : State), s.dev.isSender = true → s.dev.linkRuns = true → s.dev.boot = .up → k < s.dev.loops → s.dev.link.ports.length = 8 →
    s.dev.link.loops.length = 4 → s.dev.bit (F.LINK_LOOP_CFG_EN k) = true → s.dev.loopState k = lsDown →
    ∃ t, exec (.loopBringup k) s = .next t ∧ (t.dev.loopSt k).mode = lsCol ∧
      (∀ e ∈ s.dev.loopEnds k, s.dev.portState e.2 = lsDown → t.dev.portState e.2 = lsTrain ∧ (t.dev.port e.2).target = lsCol) ∧
      s.Keeps t ((s.dev.loopEnds k).map (fun e => R.LINK_OVL_STAT e.2) ++ R.KEEP_INSVC :: eventRegs)) ∧
  (∀ (h : Hdr) (k : Nat) (s : State), s.takes h .loopEnum [Word.of k] = true → s.dev.hasToken = true → k < s.dev.loops → s.dev.link.loops.length = 4 →
    s.dev.loopState k ≠ lsDown → (s.dev.loopSt k).enum = none →
    ∃ t, exec (.loopEnum h k) s = .next t ∧ (t.dev.loopSt k).enum = some ⟨[], some (hostCmd h .loopEnum [Word.of k]), s.dev.now⟩ ∧
      t.dev.host.kept = s.dev.host.kept ∧ s.Keeps t [R.LINK_LOOP_STAT k, R.KEEP_SVC_STAT]) ∧
  (∀ (k p : Nat) (lo hi : Word) (ep : Nat) (st fv fw : Word) (run : EnumRun) (s : State), s.dev.isSender = true → k < s.dev.loops →
    s.dev.link.loops.length = 4 → p < 0x7F → (s.dev.loopSt k).enum = some run → p ∉ run.answers → run.answers.length + 1 < s.dev.layoutCount k →
    ∃ t x, exec (.enumRespRx k p lo hi ep st fv fw) s = .next t ∧ (t.dev.loopSt k).enum = some { run with answers := run.answers ++ [p] } ∧
      t.dev.tileRec k p = some x ∧ x.uidLo = lo ∧ x.uidHi = hi ∧ x.epoch = ep ∧ x.status = st ∧ x.fwVer = fv ∧ x.fwWin = fw ∧ x.left = false ∧
      (∀ q, q ≠ p → t.dev.tileRec k q = s.dev.tileRec k q) ∧ s.Keeps t []) ∧
  (∀ (k : Nat) (run : EnumRun) (q : QCmd) (s : State), s.dev.isSender = true → k < s.dev.loops → s.dev.link.loops.length = 4 →
    (s.dev.loopSt k).enum = some run → run.cmd = some q → (s.dev.host.lostReplies.any fun w => q.isFor w.1 w.2.1 w.2.2) = false →
    ∃ t ws, exec (.enumTimeout k) s = .next t ∧ (t.dev.loopSt k).enum = none ∧
      t.dev.get (F.LINK_LOOP_STAT_TILES k) = run.answers.length % 256 ∧
      t.dev.bit (F.LINK_LOOP_STAT_LAYOUT_BAD k) = (run.answers.length != s.dev.layoutCount k) ∧
      t.Answered q s.dev.responder .ok 0 ws ∧ Word.field (nth ws 0 0) 0 8 = run.answers.length % 256 ∧ t.mem = s.mem ∧ t.otp = s.otp) ∧
  (∀ (k : Nat) (s : State), s.dev.isSender = true → s.dev.isTwin = false → k < s.dev.loops →
    ∃ t, exec (.loopReturnTimeout k) s = .next t ∧ t.dev.bit (F.LINK_LOOP_STAT_CLOSED k) = false ∧
      t.dev.loopState k = s.dev.loopState k ∧ s.Keeps t [R.LINK_LOOP_STAT k]) ∧
  (∀ (p : Fin 8) (k e : Nat) (s : State), s.dev.linkRuns = true → s.dev.isSender = true → s.dev.portLoop p = some (k, e) →
    s.dev.link.loops.length = 4 → (s.dev.loopSt k).cut = true → lsCol ≤ s.dev.portState p → lsCol ≤ s.dev.loopState k →
    s.dev.sameNeighbour p = true →
    ∃ t, exec (.linkRejoin p none) s = .next t ∧ (t.dev.loopSt k).cut = false ∧ t.dev.bit (F.LINK_LOOP_STAT_CLOSED k) = true ∧
      t.dev.bit (F.LINK_LOOP_STAT_HEALED k) = true ∧ t.dev.loopState k = s.dev.loopState k ∧
      s.Keeps t (R.LINK_LOOP_STAT k :: R.KEEP_SVC_STAT :: eventRegs)) ∧
  (∀ (k p : Nat) (x : TileRec) (s : State), s.dev.isSender = true → k < s.dev.loops → s.dev.link.loops.length = 4 →
    s.dev.tileRec k p = some x → x.left = false →
    ∃ t, exec (.tileUnreachable k p) s = .next t ∧ (t.dev.tileRec k p).map (·.left) = some true ∧
      (∀ q, q ≠ p → t.dev.tileRec k q = s.dev.tileRec k q) ∧ s.Keeps t eventRegs)

/-- A loop at its tile, from an end the tile accepts: ENUM from end A gives it its HOPS as position, from end B the count less HOPS less
one, with loop, sender and IDENT, and it answers; RATE trains the ports that are up to the mode; the wrapped key of phase 2 goes into its
selector and sets KEYED, the sender's report of phase 1 gives the key it is wrapped under (R256, R276, R282, R283, R285). The key exchange
at the sender: a tile whose report passes is KEYED in the sender's account and the exchange leaves it; one whose report fails is not, and
the exchange goes on (R283). It rests on the choices of the assumption log 61, 68, 69 and 112. -/
def Obligations.TilesAndKeys : Prop :=
  (∀ (p : Fin 2) (hops : Nat) (fb : Bool) (lid ml : Nat) (lay : List (Nat × Nat × Nat × Nat × Nat)) (s : State), s.dev.isTile = true →
    s.dev.linkRuns = true → s.dev.boot = .up → s.dev.endAccepted fb.toNat = true → s.dev.link.tile.enumFrom = [none, none] → lid < 64 →
    hops < ml → ml ≤ 127 →
    ∃ t, exec (.enumItemRx p hops fb lid ml lay) s = .next t ∧
      t.dev.get F.LINK_TILE_STAT_POSITION = (if fb then ml - 1 - hops else hops) ∧ t.dev.bit F.LINK_TILE_STAT_IDENT = true ∧
      t.dev.get F.LINK_TILE_STAT_LOOP = lid / 16 ∧ t.dev.get F.LINK_TILE_STAT_SENDER = lid % 16 ∧
      t.dev.bit F.LINK_TILE_STAT_REVERSED = (fb == (p.val == 0)) ∧
      t.dev.link.tile.replyCnt = (s.dev.link.tile.replyCnt + 1) % 2 ^ 17 ∧ s.Keeps t [R.LINK_TILE_STAT]) ∧
  (∀ (e : Fin 2) (m : Nat) (s : State), s.dev.isTile = true → s.dev.boot = .up → s.dev.endAccepted e = true → s.dev.link.ports.length = 8 →
    ∃ t, exec (.rateItemRx e m) s = .next t ∧
      (∀ n, n < 2 → lsCol ≤ s.dev.portState n → t.dev.portState n = lsTrain ∧ (t.dev.port n).target = modeOf m) ∧
      (∀ n, n < 2 → s.dev.portState n < lsCol → t.dev.portState n = s.dev.portState n) ∧
      s.Keeps t (R.LINK_OVL_STAT 0 :: R.LINK_OVL_STAT 1 :: R.KEEP_INSVC :: eventRegs)) ∧
  (∀ (e : Fin 2) (p sel : Nat) (ws key : List Word) (s : State), s.dev.isTile = true → s.dev.boot = .up → s.dev.endAccepted e = true →
    s.dev.atPosition p = true → s.dev.link.tile.kp ≠ [] → keyUnwrap s.dev.link.tile.kp ws = some key → sel < 4 →
    s.dev.link.tile.keys.length = 4 →
    ∃ t, exec (.keyItemRx e p 2 sel true ws) s = .next t ∧ nth t.dev.link.tile.keys sel [] = key ∧
      (∀ i, i ≠ sel → nth t.dev.link.tile.keys i [] = nth s.dev.link.tile.keys i []) ∧ t.dev.bit F.LINK_TILE_STAT_KEYED = true ∧
      s.Keeps t [R.LINK_TILE_STAT]) ∧
  (∀ (e : Fin 2) (p sel : Nat) (ws : List Word) (s : State), s.dev.isTile = true → s.dev.boot = .up → s.dev.endAccepted e = true →
    s.dev.atPosition p = true → s.dev.senderReportFits ws = true → s.dev.link.tile.secret ≠ [] →
    ∃ t, exec (.keyItemRx e p 1 sel true ws) s = .next t ∧
      t.dev.link.tile.kp = exchangeKey s.dev.link.tile.secret (reportKey ws) (reportUid ws) s.dev.uid tagOvl ∧
      t.dev.link.tile.keys = s.dev.link.tile.keys ∧ s.Keeps t []) ∧
  (∀ (e : Fin 2) (p sel : Nat) (ok : Bool) (ws : List Word) (s : State), s.dev.isTile = true → s.dev.boot = .up →
    s.dev.endAccepted e = true → s.dev.atPosition p = true → (ok && s.dev.senderReportFits ws) = false →
    ∃ t, exec (.keyItemRx e p 1 sel ok ws) s = .next t ∧ t.dev.link.tile.kp = [] ∧ t.dev.link.tile.keys = s.dev.link.tile.keys ∧
      s.Keeps t eventRegs) ∧
  (∀ (e : Fin 2) (p sel : Nat) (ws : List Word) (s : State), s.dev.isTile = true → s.dev.boot = .up → s.dev.endAccepted e = true →
    s.dev.atPosition p = true →
    ∃ t, exec (.keyItemRx e p 2 sel false ws) s = .next t ∧ t.dev.link.tile.keys = s.dev.link.tile.keys ∧ s.Keeps t eventRegs) ∧
  (∀ (k p : Nat) (peer : List Word) (s : State), s.dev.isSender = true → s.dev.hasToken = true → p < 0x7F → (s.dev.loopSt k).keying = some p →
    s.dev.tileReportFits k p peer = true → s.dev.img.keyReport ≠ [] → k < s.dev.link.loops.length →
    ∃ t, exec (.keyRespRx k p true peer) s = .next t ∧ (∀ x ∈ (t.dev.loopSt k).tiles, x.pos = p → x.keyed = true) ∧
      (t.dev.loopSt k).keying ≠ some p ∧ s.Keeps t []) ∧
  (∀ (k p : Nat) (ok : Bool) (peer : List Word) (s : State), s.dev.isSender = true → s.dev.hasToken = true → p < 0x7F →
    (s.dev.loopSt k).keying = some p → (ok && s.dev.tileReportFits k p peer) = false → k < s.dev.link.loops.length →
    ∃ t, exec (.keyRespRx k p ok peer) s = .next t ∧ (t.dev.loopSt k).tiles = (s.dev.loopSt k).tiles ∧ (t.dev.loopSt k).keying ≠ some p ∧
      s.Keeps t eventRegs)

/-- Commands onto a loop and their answers: TABLE_PUSH of a tile its record covers waits for that tile; TILE_STATUS of a tile answers its
four words; a tile's OK to a relayed command passes to the originator under the tile's address and ends the relay, as a tile that stays
silent does with E_TIMEOUT; a tile queues a COMMAND that addresses it and ignores one that does not (R46, R57, R66, R67, R268, R287,
R369). It rests on the choices of the assumption log 12, 62, 63, 67 and 79. -/
def Obligations.RelayedCommands : Prop :=
  (∀ (h : Hdr) (m : Word) (k p : Nat) (s : State), s.takes h .tablePush [m] = true → s.dev.pushRefusal (Target.ofNat h.target) m = none →
    (Target.ofNat h.target).scope = 1 → (Target.ofNat h.target).loop = k → (Target.ofNat h.target).position = p →
    ∃ t r, exec (.tablePush h m) s = .next t ∧ t.dev.host.relays = s.dev.host.relays ++ [r] ∧ r.waiting = [(k, p)] ∧ r.payload = [m] ∧
      r.opcode = Op.tablePush.code ∧ r.seq = h.seq ∧ r.orig = h.orig.val ∧ t.dev.host.kept = s.dev.host.kept ∧ s.Keeps t []) ∧
  (∀ (h : Hdr) (s : State), s.takes h .tileStatus [] = true → s.dev.isTile = true →
    ∃ t, exec (.tileStatus h) s = .next t ∧ s.Reads t (hostCmd h .tileStatus [])
      [s.dev.tileStatus0, Word.of (s.dev.get F.LAMP_TBL_EPOCH_EPOCH), s.dev.reg R.LINK_TILE_STAT, s.dev.reg R.LINK_TILE_CNT]) ∧
  (∀ (k p o q : Nat) (r : Relay) (s : State), s.dev.host.relays = [r] → r.loop = k → r.orig = o → r.seq = q → r.waiting = [(k, p)] →
    r.own = false → r.bcast = false → o < 10 → (s.dev.host.lostReplies.any fun w => r.cmd.isFor w.1 w.2.1 w.2.2) = false →
    ∃ t, exec (.relayReplyTimeout k p o q) s = .next t ∧ t.dev.host.relays = [] ∧
      t.Answered r.cmd (s.dev.tileAddr (k, p)) .timeout 0 [] ∧ s.Keeps t []) ∧
  (∀ (n : Fin 8) (k e p c : Nat) (r : Relay) (pl w : List Word) (s : State), s.dev.portLoop n = some (k, e) → s.dev.isSender = true →
    s.dev.linkRuns = true → s.dev.portActive n = true → s.dev.isStandby = false → s.dev.pingReply k p r pl w →
    ∃ t, exec (.replyParcelRx n p c pl) s = .next t ∧ t.dev.host.relays = [] ∧
      t.Answered r.cmd (s.dev.tileAddr (k, p)) .ok (TileAnswer.ofPacket w).detail (TileAnswer.ofPacket w).payload ∧ s.Keeps t []) ∧
  (∀ (e : Fin 2) (ws : List Word) (c : QCmd) (s : State), s.dev.isTile = true → s.dev.answers = true → s.dev.endAccepted e = true →
    (Target.ofNat (Word.field (nth ws 1 0) 0 32)).zerosOk = true → s.dev.addressed (Target.ofNat (Word.field (nth ws 1 0) 0 32)) = true →
    itemReceipt ws = .accept c →
    (s.dev.host.queue.any fun x => x.orig == c.orig && x.seq == c.seq && x.check == c.check) = false → s.dev.duplicate c = none →
    (s.dev.host.queue.filter fun x => x.orig == c.orig).length < 64 →
    ∃ t, exec (.commandItemRx e ws) s = .next t ∧ t.dev.host.queue = s.dev.host.queue ++ [c] ∧ s.Keeps t []) ∧
  (∀ (e : Fin 2) (ws : List Word) (s : State), s.dev.isTile = true → s.dev.answers = true → s.dev.endAccepted e = true →
    s.dev.addressed (Target.ofNat (Word.field (nth ws 1 0) 0 32)) = false → exec (.commandItemRx e ws) s = .next s)

/-! ### Twin senders (ch. 10) -/

/-- The lease: every 10 ms a holder's LEASE with its TERM leaves by every running loop and counts as a renewal; a tile records the TERM of
the end it came from; a sender that seeks becomes the standby of the sender it hears, a standby renews, a holder that hears a higher TERM
sets DUAL_HOLDER and becomes the standby, one that hears a lower TERM stays; 50 ms after its last renewal a standby's lease expires (R300
to R303). It rests on the choices of the assumption log 75 and 78. -/
def Obligations.LeaseKept : Prop :=
  (∀ (s : State), s.dev.hasToken = true → s.dev.twin.asked = false → s.dev.boot = .up → s.dev.linkRuns = true → s.dev.safeNow = false →
    s.dev.link.ports.length = 8 → s.dev.link.loops.length = 4 →
    ∃ t, exec .leaseSend s = .next t ∧ t.dev.twin.renewals = (s.dev.twin.renewals + 1) % 2 ^ 32 ∧ s.Keeps t [] ∧
      (∀ k e, s.dev.loopRuns k = true → e ∈ s.dev.loopEnds k → ∃ ws, (t.dev.port e.2).ctrl = (s.dev.port e.2).ctrl ++ [ws] ∧
        Word.field (nth ws 1 0) 0 8 = 0x08 ∧ Word.field (nth ws 2 0) 0 32 = s.dev.get F.CTRL_PAIR_TERM_TERM)) ∧
  (∀ (s : State), s.dev.hasToken = false → s.dev.leaseFresh = false → exec .leaseSend s = .next s) ∧
  (∀ (p : Fin 8) (term n ep ren : Nat) (y pr : Bool) (lo hi : Word) (s : State), s.dev.isTile = true → s.dev.boot = .up →
    s.dev.linkRuns = true → p.val < 2 → term < 2 ^ 32 → s.dev.link.tile.leases.length = 2 → s.dev.leaseOf (1 - s.dev.tileEnd p) = none →
    ∃ t, exec (.leaseRx p term y pr n ep ren lo hi) s = .next t ∧
      nth t.dev.link.tile.leases (s.dev.tileEnd p) none = some (term, s.dev.now) ∧ t.dev.get F.CTRL_PAIR_TERM_TERM = term ∧
      s.Keeps t [R.CTRL_PAIR_TERM]) ∧
  (∀ (p : Fin 8) (term n ep ren : Nat) (y pr : Bool) (lo hi : Word) (s : State), s.dev.isTwin = true → s.dev.boot = .up →
    s.dev.linkRuns = true → s.dev.portActive p = true → (lo, hi) ≠ s.dev.uid → s.dev.pairState = psSeeking →
    ∃ t, exec (.leaseRx p term y pr n ep ren lo hi) s = .next t ∧ t.dev.pairState = psStandby ∧
      t.dev.get F.CTRL_PAIR_TERM_TERM = term % 2 ^ 32 ∧ t.dev.twin.renewed = some s.dev.now ∧ t.dev.twin.partnerLo = lo ∧
      t.dev.twin.partnerHi = hi ∧ t.mem = s.mem ∧ t.otp = s.otp) ∧
  (∀ (p : Fin 8) (term n ep ren : Nat) (y pr : Bool) (lo hi : Word) (s : State), s.dev.isTwin = true → s.dev.boot = .up →
    s.dev.linkRuns = true → s.dev.portActive p = true → (lo, hi) ≠ s.dev.uid → s.dev.pairState = psStandby →
    (lo, hi) = (s.dev.twin.partnerLo, s.dev.twin.partnerHi) → s.dev.get F.CTRL_PAIR_TERM_TERM ≤ term % 2 ^ 32 →
    ∃ t, exec (.leaseRx p term y pr n ep ren lo hi) s = .next t ∧ t.dev.pairState = psStandby ∧
      t.dev.get F.CTRL_PAIR_TERM_TERM = term % 2 ^ 32 ∧ t.dev.twin.renewed = some s.dev.now ∧
      t.dev.twin.yieldAt = (if y then some n else none) ∧ t.dev.twin.partnerEpoch = ep % 2 ^ 32 ∧ t.mem = s.mem ∧ t.otp = s.otp) ∧
  (∀ (p : Fin 8) (term n ep ren : Nat) (y pr : Bool) (lo hi : Word) (s : State), s.dev.isTwin = true → s.dev.boot = .up →
    s.dev.linkRuns = true → s.dev.portActive p = true → (lo, hi) ≠ s.dev.uid → s.dev.pairState = psHolder →
    s.dev.get F.CTRL_PAIR_TERM_TERM < term % 2 ^ 32 →
    ∃ t, exec (.leaseRx p term y pr n ep ren lo hi) s = .next t ∧ t.dev.pairState = psStandby ∧
      t.dev.bit F.CTRL_PAIR_STAT_DUAL_HOLDER = true ∧ t.dev.get F.CTRL_PAIR_TERM_TERM = term % 2 ^ 32 ∧ t.dev.txns = [] ∧
      t.mem = s.mem ∧ t.otp = s.otp) ∧
  (∀ (p : Fin 8) (term n ep ren : Nat) (y pr : Bool) (lo hi : Word) (s : State), s.dev.isTwin = true → s.dev.boot = .up →
    s.dev.linkRuns = true → s.dev.portActive p = true → s.dev.pairState = psHolder → term % 2 ^ 32 < s.dev.get F.CTRL_PAIR_TERM_TERM →
    ∃ t, exec (.leaseRx p term y pr n ep ren lo hi) s = .next t ∧ t.dev.pairState = psHolder ∧ s.Keeps t (R.CTRL_PAIR_STAT :: eventRegs)) ∧
  (∀ (s : State), s.dev.isTwin = true → s.dev.boot = .up → s.dev.pairState = psStandby →
    ∃ t, exec .leaseExpiry s = .next t ∧ t.dev.bit F.CTRL_PAIR_STAT_EXPIRED = true ∧ t.dev.pairState = psStandby ∧
      s.Keeps t (R.CTRL_PAIR_STAT :: eventRegs)) ∧
  (∀ (s : State), s.dev.pairState ≠ psStandby → exec .leaseExpiry s = .next s)

/-- The token: a standby 70 ms after its last renewal takes it with the next TERM, sets TAKEOVER and ends MUTED; a sender that has heard
no LEASE takes it with TERM 1; TOKEN_YIELD and a request of the standby start a handover; at the latch named, the holder becomes the
standby and answers, and the standby the holder with the next TERM; a former holder's relays end with E_TIMEOUT (R301, R302, R304 to
R307). It rests on the choices of the assumption log 2, 75 and 77. -/
def Obligations.TokenPasses : Prop :=
  (∀ (s : State), s.dev.mayTake = true → s.dev.pairState = psStandby → s.dev.twin.held = [] →
    ∃ t, exec .takeover s = .next t ∧ t.dev.pairState = psHolder ∧
      t.dev.get F.CTRL_PAIR_TERM_TERM = (s.dev.get F.CTRL_PAIR_TERM_TERM + 1) % 2 ^ 32 ∧ t.dev.bit F.CTRL_PAIR_STAT_TAKEOVER = true ∧
      t.dev.get F.CTRL_PAIR_CNT_TAKEOVERS = satTo 65535 (s.dev.get F.CTRL_PAIR_CNT_TAKEOVERS + 1) ∧
      t.dev.bit F.CTRL_PAIR_STAT_MUTED = false ∧ t.mem = s.mem ∧ t.otp = s.otp) ∧
  (∀ (s : State), s.dev.pairState ≠ psStandby → exec .takeover s = .next s) ∧
  (∀ (s : State), s.dev.mayTake = true → s.dev.pairState = psSeeking → s.dev.twin.held = [] →
    ∃ t, exec .seekTimeout s = .next t ∧ t.dev.pairState = psHolder ∧ t.dev.get F.CTRL_PAIR_TERM_TERM = 1 ∧ t.mem = s.mem ∧ t.otp = s.otp) ∧
  (∀ (h : Hdr) (s : State), s.takes h .tokenYield [] = true → s.dev.isTwin = true → s.dev.pairState = psHolder → s.dev.pairUp = true →
    s.dev.bit F.CTRL_PAIR_STAT_IN_SYNC = true → s.dev.tileCommitPending = false → s.dev.twin.yieldAt = none →
    ∃ t n, exec (.tokenYield h) s = .next t ∧ t.dev.twin.yieldAt = some n ∧ t.dev.twin.yieldCmd = some (hostCmd h .tokenYield []) ∧
      t.dev.host.kept = s.dev.host.kept ∧ t.dev.pairState = psHolder ∧ s.Keeps t []) ∧
  (∀ (h : Hdr) (s : State), s.takes h .tokenYield [] = true → s.dev.isTwin = false →
    ∃ t, exec (.tokenYield h) s = .next t ∧ t.Answered (hostCmd h .tokenYield []) s.dev.responder .role 0 [] ∧ s.Keeps t []) ∧
  (∀ (s : State), s.dev.isTwin = true → s.dev.pairState = psHolder → s.dev.pairUp = true → s.dev.twin.yieldAt = none →
    ∃ t, exec .tokenRequest s = .next t ∧ t.dev.twin.yieldAt.isSome = !s.dev.tileCommitPending ∧
      t.dev.twin.asked = s.dev.tileCommitPending ∧ s.Keeps t []) ∧
  (∀ (q : QCmd) (n : Nat) (s : State), s.dev.isTwin = true → s.dev.pairState = psHolder → s.dev.twin.yieldAt = some n →
    s.dev.twin.yieldCmd = some q → (s.dev.host.lostReplies.any fun w => q.isFor w.1 w.2.1 w.2.2) = false →
    ∃ t, exec .tokenHandover s = .next t ∧ t.dev.pairState = psStandby ∧ t.dev.bit F.CTRL_PAIR_STAT_HANDOVER = true ∧
      t.dev.get F.CTRL_PAIR_CNT_HANDOVERS = satTo 65535 (s.dev.get F.CTRL_PAIR_CNT_HANDOVERS + 1) ∧ t.dev.txns = [] ∧
      t.Answered q s.dev.responder .ok 0 [] ∧ t.mem = s.mem ∧ t.otp = s.otp) ∧
  (∀ (n : Nat) (s : State), s.dev.mayTake = true → s.dev.pairState = psStandby → s.dev.twin.yieldAt = some n → s.dev.twin.held = [] →
    ∃ t, exec .tokenHandover s = .next t ∧ t.dev.pairState = psHolder ∧ t.dev.bit F.CTRL_PAIR_STAT_HANDOVER = true ∧
      t.dev.get F.CTRL_PAIR_TERM_TERM = (s.dev.get F.CTRL_PAIR_TERM_TERM + 1) % 2 ^ 32 ∧ t.mem = s.mem ∧ t.otp = s.otp) ∧
  (∀ (k p : Nat) (r : Relay) (s : State), s.dev.twin.formerUntil.isSome = true → s.dev.host.relays = [r] → r.loop = k →
    r.waiting = [(k, p)] → r.own = false → r.bcast = false → r.orig < 10 →
    (s.dev.host.lostReplies.any fun w => r.cmd.isFor w.1 w.2.1 w.2.2) = false →
    ∃ t, exec .handoverRelayTimeout s = .next t ∧ t.dev.twin.formerUntil = none ∧ t.dev.host.relays = [] ∧
      t.Answered r.cmd (s.dev.tileAddr (k, p)) .timeout 0 [] ∧ s.Keeps t []) ∧
  (∀ (s : State), s.dev.twin.formerUntil = none → exec .handoverRelayTimeout s = .next s)

/-- Mirrors: a standby that finds a mirrored commit valid, with the parts that apply before it, holds it until its decision or withdrawal;
the holder goes on with a commit its standby accepts and fails one it refuses, with MIRROR_FAIL; mirrored words go to the same place of
the standby's DRAM and nowhere else; after a resynchronisation either side is IN_SYNC, with the other's mirror epoch as its own (R83,
R294, R295, R310). It rests on the choices of the assumption log 75 (a mirror runs as originator 16 plus its own) and 77. -/
def Obligations.MirrorsFollow : Prop :=
  (∀ (m o x md n : Nat) (ti : Bool) (es : List (Nat × Word)) (s : State), s.dev.pairUp = true → s.dev.pairState = psStandby →
    s.dev.validateAt (if md < 2 then n - 2 else n - lowGroup s.dev.isTile es) es = none →
    ∃ t c, exec (.mirrorRx m 0 o x md n ti es) s = .next t ∧ t.dev.commits = s.dev.commits ++ [c] ∧ c.orig = 16 + o ∧ c.seq = m ∧ c.txn = x ∧
      c.frame = n ∧ c.entries = es ∧ c.stage = (if ti then .mirroring else .queued) ∧ s.Keeps t []) ∧
  (∀ (m o x md n : Nat) (ti : Bool) (es : List (Nat × Word)) (f : Fail) (s : State), s.dev.pairUp = true → s.dev.pairState = psStandby →
    s.dev.validateAt (if md < 2 then n - 2 else n - lowGroup s.dev.isTile es) es = some f →
    ∃ t, exec (.mirrorRx m 0 o x md n ti es) s = .next t ∧ t.dev.commits = s.dev.commits ∧ s.Keeps t []) ∧
  (∀ (m o x md n : Nat) (ti : Bool) (es : List (Nat × Word)) (c : Commit) (s : State), s.dev.pairUp = true → s.dev.pairState = psStandby →
    s.dev.commits = [c] → c.orig = 16 + o → c.txn = x → c.frame = n →
    (∃ t, exec (.mirrorRx m 1 o x md n ti es) s = .next t ∧ t.dev.commits = [{ c with stage := .decided }] ∧ s.Keeps t []) ∧
    (∃ t, exec (.mirrorRx m 2 o x md n ti es) s = .next t ∧ t.dev.commits = [] ∧ s.Keeps t [])) ∧
  (∀ (m ep : Nat) (c : Commit) (s : State), s.dev.isTwin = true → s.dev.pairState = psHolder → s.dev.commits = [c] → c.mirror = some m →
    c.stage = .queued →
    ∃ t, exec (.mirrorAckRx m 0 0 ep) s = .next t ∧ t.dev.commits = [{ c with mirror := none }] ∧ t.dev.twin.partnerEpoch = ep ∧
      s.Keeps t []) ∧
  (∀ (m st det ep : Nat) (c : Commit) (s : State), s.dev.isTwin = true → s.dev.pairState = psHolder → s.dev.commits = [c] →
    c.mirror = some m → st ≠ 0 →
    ∃ t, exec (.mirrorAckRx m st det ep) s = .next t ∧ t.dev.commits = [] ∧ t.dev.bit F.CTRL_PAIR_STAT_MIRROR_FAIL = true ∧
      s.Keeps t (R.CTRL_PAIR_STAT :: eventRegs)) ∧
  (∀ (a : Nat) (ws : List Word) (s : State), s.dev.isStandby = true → s.dev.pairUp = true → s.MemInv →
    s.dev.memRefusal a (8 * ws.length) = none →
    ∃ t, exec (.memcopyRx a ws) s = .next t ∧ (∀ i w, ws[i]? = some w → ∀ k, k < 8 → memByte t.mem (a + 8 * i + k) = nth (Word.bytes w) k 0) ∧
      (∀ b, b < a ∨ a + 8 * ws.length ≤ b → memByte t.mem b = memByte s.mem b) ∧ s.KeepsRegs t [] ∧ t.otp = s.otp) ∧
  (∀ (a : Nat) (ws : List Word) (s : State), s.dev.isStandby = false → exec (.memcopyRx a ws) s = .next s) ∧
  (∀ (regs : List (Nat × Word)) (ep : Nat) (s : State), s.dev.pairUp = true → s.dev.pairState = psHolder →
    ∃ t, exec (.mirrorResyncDone regs ep) s = .next t ∧ t.dev.bit F.CTRL_PAIR_STAT_IN_SYNC = true ∧
      t.dev.twin.partnerEpoch = s.dev.get F.CTRL_PAIR_TERM_MIRROR_EPOCH ∧ s.Keeps t (R.CTRL_PAIR_STAT :: eventRegs)) ∧
  (∀ (regs : List (Nat × Word)) (ep : Nat) (s : State), s.dev.pairUp = true → s.dev.pairState = psStandby → ep < 2 ^ 32 →
    ∃ t, exec (.mirrorResyncDone regs ep) s = .next t ∧ t.dev.bit F.CTRL_PAIR_STAT_IN_SYNC = true ∧
      t.dev.get F.CTRL_PAIR_TERM_MIRROR_EPOCH = ep ∧ t.dev.twin.partnerEpoch = ep ∧ t.dev.twin.resync = false ∧ t.mem = s.mem ∧ t.otp = s.otp ∧
      (regs = [] → s.Keeps t (R.CTRL_PAIR_STAT :: R.CTRL_PAIR_TERM :: eventRegs)))

/-- What passes between the senders and their tiles: the holder's selections are kept at the standby, and a loop key as its first or as
its next; the holder's CTRL parcels go out at the standby's own end, and RATE trains its port; a REPLY parcel the standby passes on is
handled by the holder as one of its own; a digest that differs from the partner's sets DIVERGE and counts, one that agrees does not; a
tile keeps the supervised rectangles' check values (R198, R282, R296 to R299). It rests on the choices of the assumption log 69, 75 and
78. -/
def Obligations.PairTraffic : Prop :=
  (∀ (n : Nat) (ps : List (Nat × Nat)) (s : State), s.dev.pairUp = true → s.dev.pairState = psStandby → s.dev.compose.next = none →
    ∃ t, exec (.selectRx n ps) s = .next t ∧ t.dev.twin.selects.head? = some (n, ps) ∧ s.Keeps t []) ∧
  (∀ (n k c c' : Nat) (sums : List (Nat × Bool)) (s : State), s.dev.isTwin = true → s.dev.twin.digests = [(n, k, c, false)] →
    sums[k]? = some (c', false) → c ≠ c' →
    ∃ t, exec (.digestRx n sums) s = .next t ∧ t.dev.bit F.CTRL_PAIR_STAT_DIVERGE = true ∧
      t.dev.get F.CTRL_PAIR_CNT_DIVERGE_CNT = satTo 65535 (s.dev.get F.CTRL_PAIR_CNT_DIVERGE_CNT + 1) ∧
      s.Keeps t (R.CTRL_PAIR_STAT :: R.CTRL_PAIR_CNT :: eventRegs)) ∧
  (∀ (n k c : Nat) (sums : List (Nat × Bool)) (s : State), s.dev.isTwin = true → s.dev.twin.digests = [(n, k, c, false)] →
    sums[k]? = some (c, false) →
    ∃ t, exec (.digestRx n sums) s = .next t ∧ t.dev.twin.matching = s.dev.twin.matching + 1 ∧ t.dev.twin.diverging = 0 ∧ s.Keeps t []) ∧
  (∀ (ws : List Word) (k e : Nat) (s : State), s.dev.pairUp = true → s.dev.isStandby = true → s.dev.link.ports.length = 8 → k < 8 →
    k = (ParcelHead.ofWord (nth ws 0 0)).loop → (e, k) ∈ s.dev.loopEnds k → Word.field (nth ws 1 0) 0 8 ≠ 6 →
    ∃ t, exec (.ctrlCopyRx ws) s = .next t ∧ (t.dev.port k).ctrl = (s.dev.port k).ctrl ++ [ws.take 31] ∧
      (∀ j, j ≠ k → t.dev.port j = s.dev.port j) ∧ s.Keeps t []) ∧
  (∀ (ws : List Word) (k e m : Nat) (s : State), s.dev.pairUp = true → s.dev.isStandby = true → s.dev.link.ports.length = 8 →
    s.dev.link.loops.length = 4 → k < 4 → k = (ParcelHead.ofWord (nth ws 0 0)).loop → (e, k) ∈ s.dev.loopEnds k →
    Word.field (nth ws 1 0) 0 8 = 6 → m = modeOf (Word.field (nth ws 2 0) 0 2) → lsCol ≤ s.dev.portState k →
    ∃ t, exec (.ctrlCopyRx ws) s = .next t ∧ (t.dev.loopSt k).mode = m ∧ t.dev.portState k = lsTrain ∧ (t.dev.port k).target = m ∧
      t.mem = s.mem ∧ t.otp = s.otp) ∧
  (∀ (k p c : Nat) (r : Relay) (pl w : List Word) (s : State), s.dev.isTwin = true → s.dev.pairState = psHolder → k < s.dev.loops →
    s.dev.pingReply k p r pl w →
    ∃ t, exec (.replyFwdRx k p c pl) s = .next t ∧ t.dev.host.relays = [] ∧
      t.Answered r.cmd (s.dev.tileAddr (k, p)) .ok (TileAnswer.ofPacket w).detail (TileAnswer.ofPacket w).payload ∧ s.Keeps t []) ∧
  (∀ (k sel : Nat) (ws key : List Word) (s : State), s.dev.pairUp = true → s.dev.pairState = psStandby → k < s.dev.loops →
    s.dev.link.loops.length = 4 → s.dev.twin.kpair ≠ [] → keyUnwrap s.dev.twin.kpair ws = some key →
    (s.dev.loopSt k).key = [] → sel < 4 →
    ∃ t, exec (.pairKeyRx k sel true ws) s = .next t ∧ (t.dev.loopSt k).key = key ∧ (t.dev.loopSt k).selector = sel ∧ s.Keeps t []) ∧
  (∀ (k sel : Nat) (ws key : List Word) (s : State), s.dev.pairUp = true → s.dev.pairState = psStandby → k < s.dev.loops →
    s.dev.link.loops.length = 4 → s.dev.twin.kpair ≠ [] → keyUnwrap s.dev.twin.kpair ws = some key →
    (s.dev.loopSt k).key ≠ [] → (s.dev.loopSt k).key ≠ key → sel < 4 →
    ∃ t, exec (.pairKeyRx k sel true ws) s = .next t ∧ (t.dev.loopSt k).key = (s.dev.loopSt k).key ∧
      (t.dev.loopSt k).nextKey = some (sel, key) ∧ s.Keeps t []) ∧
  (∀ (e : Fin 2) (rs : List (Nat × Nat × Nat)) (s : State), s.dev.isTile = true → s.dev.linkRuns = true →
    ∃ t, exec (.chainItemRx e rs) s = .next t ∧ t.dev.link.tile.chain = (rs ++ s.dev.link.tile.chain).take 64 ∧ s.Keeps t [])

/-! ### Wall time (ch. 11) -/

/-- Wall time. An idle step is one TCLK edge: the counter adds 2.5 ns and the rate correction. A PTP path keeps what its messages measure:
the Sync that waits for its Follow_Up, the offset, the mean path delay, its first master; a lost reference takes a LOCKED servo to
HOLDOVER with LOCK_LOST; after a change of master a LOCKED servo acquires again; a TIME parcel's HOPS, VALID and stamp are kept for its
side (R312, R316, R317, R319, R320, R322, R324). It rests on the choices of the assumption log 1 (an idle step is one TCLK edge), 71, 72
and 73. -/
def Obligations.WallTime : Prop :=
  (∀ (s : State), s.pending = [] → s.dev.host.queue = [] →
    ∃ t, step s = .next t ∧ t.dev.now = s.dev.now + 2500 ∧ t.pending = [] ∧ t.mem = s.mem ∧ t.otp = s.otp ∧
      t.dev.time.wall = (if s.dev.time.running then ((s.dev.time.wall : Int) + 10737418240 + s.dev.time.rate).toNat else s.dev.time.wall)) ∧
  (∀ (k : Fin 3) (q : Nat) (t1 c t2 : Int) (s : State), s.dev.ptpRuns k = true → (s.dev.ptp k).master.isSome = true →
    s.dev.time.paths.length = 3 →
    (∃ t, exec (.ptpSyncRx k q true t1 c t2) s = .next t ∧ (t.dev.ptp k).sync = some (q, t2 - c) ∧ s.Keeps t []) ∧
    (∀ dl, (s.dev.ptp k).path = some dl → ∃ t, exec (.ptpSyncRx k q false t1 c t2) s = .next t ∧ (t.dev.ptp k).ms = some (t2 - t1 - c) ∧
      (t.dev.ptp k).offset = some (dl + s.dev.getInt F.TIME_PTP_CFG_ASYM_PS - (t2 - t1 - c)) ∧ t.mem = s.mem ∧ t.otp = s.otp)) ∧
  (∀ (k : Fin 3) (q : Nat) (t1 c t2 : Int) (s : State), s.dev.ptpRuns k = true → s.dev.time.paths.length = 3 →
    (s.dev.ptp k).sync = some (q, t2) →
    (∃ t, exec (.ptpFollowUpRx k q t1 c) s = .next t ∧ (t.dev.ptp k).ms = some (t2 - t1 - c) ∧ (t.dev.ptp k).sync = none ∧
      t.mem = s.mem ∧ t.otp = s.otp) ∧
    (∀ r, r ≠ q → exec (.ptpFollowUpRx k r t1 c) s = .next s)) ∧
  (∀ (k : Fin 3) (q : Nat) (t3 t4 c m : Int) (s : State), s.dev.ptpRuns k = true → s.dev.time.paths.length = 3 →
    (s.dev.ptp k).req = some (q, t3) → (s.dev.ptp k).ms = some m →
    ∃ t, exec (.ptpDelayRespRx k q t4 c) s = .next t ∧ (t.dev.ptp k).path = some ((m + (t4 - t3 - c)) / 2) ∧ (t.dev.ptp k).req = none ∧
      s.Keeps t [R.TIME_PTP_INFO, R.TIME_PTP_GM]) ∧
  (∀ (k : Fin 3) (t3 : Int) (s : State), s.dev.ptpRuns k = true → (s.dev.ptp k).master.isSome = true → s.dev.time.paths.length = 3 →
    ∃ t, exec (.ptpDelayReqTx k t3) s = .next t ∧ t.dev.out = .ptp k (s.dev.ptp k).nextReq (s.dev.bit F.TIME_PTP_CFG_UNICAST_DREQ) t3 :: s.dev.out ∧
      (t.dev.ptp k).req = some ((s.dev.ptp k).nextReq, t3) ∧ s.Keeps t []) ∧
  (∀ (k : Fin 3) (a : Announce) (s : State), s.dev.ptpRuns k = true → a.domain ≠ s.dev.get F.TIME_PTP_CFG_DOMAIN →
    exec (.ptpAnnounceRx k a) s = .next s) ∧
  (∀ (k : Fin 3) (a : Announce) (s : State), s.dev.ptpRuns k = true → a.domain = s.dev.get F.TIME_PTP_CFG_DOMAIN →
    s.dev.time.paths.length = 3 → (s.dev.ptp k).master = none →
    ∃ t, exec (.ptpAnnounceRx k a) s = .next t ∧ (t.dev.ptp k).master =
      some [a.priority1, a.clockClass, a.accuracy, a.variance, a.priority2, a.identity, a.steps] ∧ (t.dev.ptp k).utc = a.utc ∧
      t.mem = s.mem ∧ t.otp = s.otp) ∧
  (∀ (k : Fin 3) (w : List Word) (s : State), s.dev.ptpRuns k = true → (s.dev.eventTimes EvCode.time.code).length < 64 →
    s.dev.host.lost = List.replicate 10 0 →
    ∃ t, exec (.ptpMgmtRx k w) s = .next t ∧ t.dev.host.evSeq = (s.dev.host.evSeq + 1) % 65536 ∧ s.Keeps t eventRegs) ∧
  (∀ (s : State), s.dev.get F.TIME_STAT_SRC_IN_USE ≠ 0 → s.dev.timeState = tsLocked →
    ∃ t, exec .servoRefLost s = .next t ∧ t.dev.timeState = tsHold ∧ t.dev.bit F.TIME_STAT_LOCK_LOST = true ∧ t.mem = s.mem ∧
      t.otp = s.otp) ∧
  (∀ (s : State), s.dev.timeState = tsHold →
    ∃ t, exec .timeHoldLong s = .next t ∧ t.dev.bit F.TIME_STAT_HOLD_LONG = true ∧ t.dev.timeState = tsHold ∧
      s.Keeps t (R.TIME_STAT :: eventRegs)) ∧
  (∀ (s : State), s.dev.timeState ≠ tsHold → exec .timeHoldLong s = .next s) ∧
  (∀ (s : State), s.dev.time.keepUntil.isSome = true → s.dev.timeState = tsLocked →
    ∃ t, exec .masterChangeHoldEnd s = .next t ∧ t.dev.timeState = tsAcquire ∧ t.dev.time.keepUntil = none ∧
      s.Keeps t [R.TIME_STAT, R.KEEP_SVC_STAT]) ∧
  (∀ (p : Fin 8) (x : TimeParcel) (s : State), s.dev.isTile = true → s.dev.time.running = true → lsCol ≤ s.dev.portState p →
    s.dev.time.sides.length = 8 → x.hops < 128 → x.echoValid = false →
    ∃ t, exec (.timeParcelRx p x) s = .next t ∧ (nth t.dev.time.sides p {}).echo = some (x.seq, x.arrival) ∧
      t.dev.sideHops (s.dev.tileEnd p) = x.hops ∧ t.dev.sideValid (s.dev.tileEnd p) = x.valid ∧
      s.Keeps t [R.TIME_LOOP_SIDE (s.dev.tileEnd p), R.TIME_STAT])

/-- FSYNC: no edge is measured in MODE 0; one of MODE 1 shows IN_PRESENT, joins the mean of 256, and beyond 500 ns of its place sets
IN_EDGE_ERR; an output in MODE 1 pulses on the frames its DIV and PHASE name, 1.25 ns after their start and its offset, one in MODE 3 on
every ms, twice as long at a second (R330 to R332). It rests on the choices of the assumption log 1 and 73. -/
def Obligations.Fsync : Prop :=
  (∀ (x : Int) (m : Bool) (s : State), s.dev.get F.TIME_FSYNC_IN_CFG_MODE = 0 → exec (.fsyncInEdge x m) s = .next s) ∧
  (∀ (x e : Int) (m : Bool) (s : State), s.dev.get F.TIME_FSYNC_IN_CFG_MODE = 1 → s.dev.time.running = true →
    e = x - (s.dev.get F.TIME_FSYNC_IN_CFG_CABLE_PS : Int) → 500000 < (e - s.dev.fsyncPlace e).natAbs →
    ∃ t, exec (.fsyncInEdge x m) s = .next t ∧ t.dev.bit F.TIME_FSYNC_STAT_IN_PRESENT = true ∧
      t.dev.bit F.TIME_FSYNC_STAT_IN_EDGE_ERR = true ∧ t.dev.time.fsIn = s.dev.time.fsIn ∧
      s.Keeps t (R.TIME_FSYNC_STAT :: R.TIME_STAT :: R.KEEP_SVC_STAT :: eventRegs)) ∧
  (∀ (x e : Int) (m : Bool) (s : State), s.dev.get F.TIME_FSYNC_IN_CFG_MODE = 1 → s.dev.time.running = true →
    e = x - (s.dev.get F.TIME_FSYNC_IN_CFG_CABLE_PS : Int) → (e - s.dev.fsyncPlace e).natAbs ≤ 500000 → s.dev.time.fsIn.1 < 255 →
    ∃ t, exec (.fsyncInEdge x m) s = .next t ∧ t.dev.bit F.TIME_FSYNC_STAT_IN_PRESENT = true ∧
      t.dev.time.fsIn = (s.dev.time.fsIn.1 + 1, s.dev.time.fsIn.2 + (e - s.dev.fsyncPlace e)) ∧
      s.Keeps t (R.TIME_FSYNC_STAT :: R.TIME_STAT :: R.KEEP_SVC_STAT :: eventRegs)) ∧
  (∀ (o : Fin 2) (n : Nat) (s : State), s.dev.get (F.TIME_FSYNC_OUT_CFG_MODE o) = 0 → exec (.fsyncOutPulse o n) s = .next s) ∧
  (∀ (o : Fin 2) (n : Nat) (s : State), s.dev.time.running = true → s.dev.get (F.TIME_FSYNC_OUT_CFG_MODE o) = 1 →
    n % (s.dev.get (F.TIME_FSYNC_OUT_CFG_DIV o) + 1) = s.dev.get (F.TIME_FSYNC_OUT_CFG_PHASE o) →
    ∃ t, exec (.fsyncOutPulse o n) s = .next t ∧ t.dev.out = .fsync o (s.dev.framePs10 n +
      s.dev.getInt (F.TIME_FSYNC_OUT_CFG_OFFSET o) * 1000 + 1250) (s.dev.get (F.TIME_FSYNC_OUT_CFG_WIDTH o) * 10)
      (s.dev.bit (F.TIME_FSYNC_OUT_CFG_POL o)) :: s.dev.out ∧
      s.Keeps t []) ∧
  (∀ (o : Fin 2) (n : Nat) (s : State), s.dev.time.running = true → s.dev.time.leftFree = true →
    s.dev.get (F.TIME_FSYNC_OUT_CFG_MODE o) = 3 →
    ∃ t, exec (.fsyncOutPulse o n) s = .next t ∧
      t.dev.out = .fsync o ((n : Int) * 1000000000 + 1250) (if n % 1000 = 0 then 2000 else 1000)
        (s.dev.bit (F.TIME_FSYNC_OUT_CFG_POL o)) :: s.dev.out ∧ s.Keeps t [])

/-! ### Sources (ch. 5) -/

/-- Video ports and frame stores: a port that locks on a link it offers shows the mode and LOCK, one that loses lock sets LOCK_LOST, a
change of a mode field sets MODE_CHANGE, video beyond the limits UNSUPPORTED; HDCP shows whether it holds; a whole frame of a fed source
whose rate fits goes into its slot of DRAM and nowhere else, marked protected where its port is authenticated; one that finds every slot
held is dropped and counted, a rate above the reservation sets NO_FIT, a frame of another form UNSUPPORTED or FORMAT (R147 to R149, R151
to R153, R157 to R159). It rests on the choices of the assumption log 46, 50, 51, 130 and 132. -/
def Obligations.VideoSources : Prop :=
  (∀ (p : Fin 4) (m : VinMode) (s : State), s.dev.vinOn p = true → s.dev.bit (F.INGEST_VIN_STAT_LOCK p) = false →
    s.dev.linkOffered p m = true → s.dev.ingest.vinModes.length = 4 →
    ∃ t, exec (.vinLocked p m) s = .next t ∧ t.dev.reg (R.INGEST_VIN_MODE p) = vinModeWord m ∧ nth t.dev.ingest.vinModes p none = some m ∧
      t.dev.bit (F.INGEST_VIN_STAT_LOCK p) = true ∧ (vinSupported m = false → t.dev.bit (F.INGEST_VIN_STAT_UNSUPPORTED p) = true) ∧
      s.Keeps t (R.INGEST_VIN_MODE p :: R.INGEST_VIN_STAT p :: R.INGEST_BUDGET :: eventRegs)) ∧
  (∀ (p : Fin 4) (s : State), s.dev.bit (F.INGEST_VIN_STAT_LOCK p) = true →
    ∃ t, exec (.vinLockLost p) s = .next t ∧ t.dev.bit (F.INGEST_VIN_STAT_LOCK p) = false ∧ t.dev.bit (F.INGEST_VIN_MODE_VALID p) = false ∧
      t.dev.bit (F.INGEST_VIN_STAT_LOCK_LOST p) = true ∧ s.Keeps t (R.INGEST_VIN_MODE p :: R.INGEST_VIN_STAT p :: eventRegs)) ∧
  (∀ (p : Fin 4) (m : VinMode) (s : State), s.dev.linkOffered p m = false →
    exec (.vinLocked p m) s = .next s ∧ exec (.vinModeChange p m) s = .next s) ∧
  (∀ (p : Fin 4) (m : VinMode) (s : State), s.dev.vinOn p = true → s.dev.bit (F.INGEST_VIN_STAT_LOCK p) = true →
    s.dev.linkOffered p m = true → s.dev.ingest.vinModes.length = 4 →
    (nth s.dev.ingest.vinModes p none = some m → exec (.vinModeChange p m) s = .next s) ∧
    (nth s.dev.ingest.vinModes p none ≠ some m →
      ∃ t, exec (.vinModeChange p m) s = .next t ∧ t.dev.reg (R.INGEST_VIN_MODE p) = vinModeWord m ∧
        nth t.dev.ingest.vinModes p none = some m ∧ (vinSupported m = false → t.dev.bit (F.INGEST_VIN_STAT_UNSUPPORTED p) = true) ∧
        (s.dev.reg (R.INGEST_VIN_MODE p) ≠ vinModeWord m → t.dev.bit (F.INGEST_VIN_STAT_MODE_CHANGE p) = true) ∧
        t.dev.bit (F.INGEST_VIN_STAT_LOCK p) = true ∧
        s.Keeps t (R.INGEST_VIN_MODE p :: R.INGEST_VIN_STAT p :: R.INGEST_BUDGET :: eventRegs))) ∧
  (∀ (p : Fin 4) (s : State), s.dev.ingest.asleep = false → s.dev.ingest.hpdLow.length = 4 →
    ∃ t, exec (.hpdPulseEnd p) s = .next t ∧ nth t.dev.ingest.hpdLow p true = false ∧ s.Keeps t []) ∧
  (∀ (p : Fin 4) (r : Fin 3) (one : Bool) (s : State), s.dev.vinOn p = true → s.dev.bit (F.INGEST_VIN_CFG_HDCP_EN p) = true →
    ∃ t, exec (.hdcpAuthChange p r one) s = .next t ∧ t.dev.bit (F.INGEST_VIN_STAT_HDCP_AUTH p) = (r.val == 0) ∧
      t.dev.bit (F.INGEST_VIN_STAT_HDCP_TYPE1 p) = (r.val == 0 && one) ∧ (r.val = 2 → t.dev.bit (F.INGEST_VIN_STAT_HDCP_FAIL p) = true) ∧
      s.Keeps t (R.INGEST_VIN_STAT p :: eventRegs)) ∧
  (∀ (n slot : Nat) (f : SrcFrame) (s : State), n < 36 → s.dev.sourceFed n = true → s.dev.frameFits n f = true → f.whole = true →
    s.dev.ingest.sources.length = 48 → s.dev.rateFits n f = true → s.dev.ringSlot n = some slot →
    ∃ t, exec (.sourceFrameComplete n f) s = .next t ∧
      (t.dev.source n).frames.head? =
        some ⟨(s.dev.source n).serial, slot, f.key, if n < 4 then f.began else f.key, f.w, f.h, f.tf, s.dev.cameGuarded n⟩ ∧
      t.dev.bit (F.INGEST_SRC_STAT_HAS_FRAME n) = true ∧ t.dev.bit (F.INGEST_SRC_STAT_PROTECTED n) = s.dev.cameGuarded n ∧
      t.mem = storeFrame s.mem (s.dev.get (F.INGEST_SRC_BASE_BASE n) + slot * s.dev.slotBytes n) (s.dev.get (F.INGEST_SRC_CFG_STORE n)) f ∧
      (s.MemInv → ∀ a, (a < s.dev.get (F.INGEST_SRC_BASE_BASE n) + slot * s.dev.slotBytes n ∨
        s.dev.get (F.INGEST_SRC_BASE_BASE n) + slot * s.dev.slotBytes n + f.h * strideOf (s.dev.get (F.INGEST_SRC_CFG_STORE n)) f.w ≤ a) →
        memByte t.mem a = memByte s.mem a) ∧
      s.KeepsRegs t [R.INGEST_SRC_STAT n, R.INGEST_BUDGET, R.MEM_STAT] ∧ t.otp = s.otp) ∧
  (∀ (n : Nat) (f : SrcFrame) (s : State), n < 36 → s.dev.sourceFed n = true → s.dev.frameFits n f = true →
    s.dev.ingest.sources.length = 48 → s.dev.rateFits n f = true → s.dev.ringSlot n = none →
    ∃ t, exec (.sourceFrameComplete n f) s = .next t ∧ t.dev.bit (F.INGEST_SRC_STAT_DROPPED n) = true ∧
      t.dev.get (F.INGEST_SRC_STAT_DROP_CNT n) = satTo 65535 (s.dev.get (F.INGEST_SRC_STAT_DROP_CNT n) + 1) ∧
      (t.dev.source n).frames = (s.dev.source n).frames ∧ s.Keeps t [R.INGEST_SRC_STAT n, R.INGEST_BUDGET]) ∧
  (∀ (n : Nat) (f : SrcFrame) (s : State), n < 36 → s.dev.sourceFed n = true → s.dev.frameFits n f = true →
    s.dev.ingest.sources.length = 48 → (s.dev.timed n f).fits (s.dev.get (F.INGEST_SRC_CFG_RES n)) = false → (s.dev.timed n f).slowEnough f.w f.h = true →
    ∃ t, exec (.sourceFrameComplete n f) s = .next t ∧ (t.dev.source n).noFit = true ∧ (t.dev.source n).frames = (s.dev.source n).frames ∧
      ((s.dev.source n).noFit = false → t.dev.bit (F.INGEST_SRC_STAT_NO_FIT n) = true) ∧
      s.Keeps t (R.INGEST_SRC_STAT n :: R.INGEST_BUDGET :: eventRegs)) ∧
  (∀ (n : Nat) (f : SrcFrame) (s : State), n < 36 → s.dev.sourceFed n = true → s.dev.frameFits n f = false →
    ∃ t, exec (.sourceFrameComplete n f) s = .next t ∧ (n < 4 → t.dev.bit (F.INGEST_VIN_STAT_UNSUPPORTED n) = true) ∧
      (4 ≤ n → t.dev.bit (F.INGEST_FLOW_STAT_FORMAT (n - 4)) = true) ∧ t.dev.ingest = s.dev.ingest ∧
      s.Keeps t (R.INGEST_VIN_STAT n :: R.INGEST_FLOW_STAT (n - 4) :: eventRegs)) ∧
  (∀ (n : Nat) (f : SrcFrame) (s : State), s.dev.sourceFed n = false ∨ 36 ≤ n → exec (.sourceFrameComplete n f) s = .next s)

/-- Flows and audio: a packet in order advances its flow, the numbers a single path skips are lost and counted, one that disagrees with
FLOW_FMT sets FORMAT, a flow without packets sets FLOW_LOST; an ancillary record goes to its place in the ring; a sample of AIN0 goes to
its channel's ring in DRAM, or sets OVERRUN when the ring is full; the master's trim moves by at most 10 ppm; a port starts with zeros,
stops with a fade and 256 periods of zeros, and puts its channels' samples out in its format and slots (R153 to R155, R162 to R166). It
rests on the choices of the assumption log 47, 48, 50 and 130. -/
def Obligations.FlowsAndAudio : Prop :=
  (∀ (f q n p u : Nat) (s : State), s.dev.flowOn f p = true → s.dev.ingest.flows.length = 40 → q < 65536 → n < 65536 →
    s.dev.get (F.INGEST_FLOW_DST_PORTS f) ≠ 3 → (s.dev.flow f).next = some n → (s.dev.flow f).missing = [] → (q + 65536 - n) % 65536 < 32768 →
    ∃ t, exec (.flowPacketRx f p q u true true) s = .next t ∧ (t.dev.flow f).next = some ((q + 1) % 65536) ∧
      t.dev.bit (F.INGEST_FLOW_STAT_RECEIVING f) = true ∧ t.dev.get (F.INGEST_FLOW_STAT_LOST_CNT f) =
        (if q = n then s.dev.get (F.INGEST_FLOW_STAT_LOST_CNT f)
         else satTo (2 ^ 24 - 1) (s.dev.get (F.INGEST_FLOW_STAT_LOST_CNT f) + (q + 65536 - n) % 65536)) ∧
      s.Keeps t [R.INGEST_FLOW_STAT f]) ∧
  (∀ (f q p u : Nat) (m : Bool) (s : State), s.dev.flowOn f p = true →
    ∃ t, exec (.flowPacketRx f p q u false m) s = .next t ∧ t.dev.bit (F.INGEST_FLOW_STAT_FORMAT f) = true ∧ t.dev.ingest = s.dev.ingest ∧
      s.Keeps t [R.INGEST_FLOW_STAT f]) ∧
  (∀ (f : Nat) (s : State), f < 40 → s.dev.bit (F.INGEST_FLOW_STAT_RECEIVING f) = true →
    ∃ t, exec (.flowLost f) s = .next t ∧ t.dev.bit (F.INGEST_FLOW_STAT_RECEIVING f) = false ∧
      t.dev.bit (F.INGEST_FLOW_STAT_FLOW_LOST f) = true ∧ s.Keeps t (R.INGEST_FLOW_STAT f :: eventRegs)) ∧
  (∀ (f sec ns len : Nat) (pl ws : List Word) (s : State), s.dev.flowOn f 0 = true → s.dev.get (F.INGEST_FLOW_FMT_TYPE f) = 2 → s.MemInv →
    ws = Word.pack [(0, 32, s.dev.ingest.ancCount), (32, 16, len), (48, 8, f)] :: Word.of sec :: Word.pack [(0, 30, ns)] :: pl →
    s.dev.ingest.ancAt + ceilDiv (8 * ws.length) 64 * 64 ≤ s.dev.ancArea.2 →
    ∃ t, exec (.ancPacketRx f sec ns len pl) s = .next t ∧
      (∀ i w, ws[i]? = some w → memWord t.mem (s.dev.ancArea.1 + s.dev.ingest.ancAt + 8 * i) = w) ∧
      (∀ a, a < s.dev.ancArea.1 + s.dev.ingest.ancAt ∨ s.dev.ancArea.1 + s.dev.ingest.ancAt + 8 * ws.length ≤ a →
        memByte t.mem a = memByte s.mem a) ∧
      t.dev.ingest.ancAt = s.dev.ingest.ancAt + ceilDiv (8 * ws.length) 64 * 64 ∧ s.KeepsRegs t [R.MEM_STAT] ∧ t.otp = s.otp) ∧
  (∀ (i ch st v r x : Nat) (z : Bool) (k : Fin 8) (s : State), s.dev.audioFed 2 i = true → s.MemInv →
    (∀ j, j < 8 → (s.dev.get (F.INGEST_ACH_CFG_KIND j) = 2 ↔ j = k.val)) → s.dev.get (F.INGEST_ACH_CFG_INDEX k) = i →
    s.dev.get (F.INGEST_ACH_CFG_CH k) = ch → s.dev.bit F.INGEST_AIN_CFG_CLOCK_IN = false →
    audioRate (s.dev.get F.INGEST_AIN_CFG_RATE) = s.dev.outRate k → s.dev.ingest.channels.length = 8 →
    x = slotSample (s.dev.get F.INGEST_AIN_CFG_SLOT) v * 2 ^ (32 - slotBits (s.dev.get F.INGEST_AIN_CFG_SLOT)) →
    ((s.dev.channel k).ring.length < 2 ^ s.dev.get F.INGEST_AUD_CFG_RING_LOG2 →
      ∃ t, exec (.audioSampleRx 2 i ch st v r z) s = .next t ∧ (t.dev.channel k).ring = (s.dev.channel k).ring ++ [⟨st, x, false⟩] ∧
        (∀ b, b < 4 → memByte t.mem ((s.dev.audioRing k).1 + 4 * ((s.dev.channel k).wr % 2 ^ s.dev.get F.INGEST_AUD_CFG_RING_LOG2) + b) =
          BitVec.ofNat 8 (x / 2 ^ (8 * b))) ∧
        (∀ a, a < (s.dev.audioRing k).1 + 4 * ((s.dev.channel k).wr % 2 ^ s.dev.get F.INGEST_AUD_CFG_RING_LOG2) ∨
          (s.dev.audioRing k).1 + 4 * ((s.dev.channel k).wr % 2 ^ s.dev.get F.INGEST_AUD_CFG_RING_LOG2) + 4 ≤ a →
          memByte t.mem a = memByte s.mem a) ∧ s.KeepsRegs t [R.MEM_STAT] ∧ t.otp = s.otp) ∧
    (2 ^ s.dev.get F.INGEST_AUD_CFG_RING_LOG2 ≤ (s.dev.channel k).ring.length →
      ∃ t, exec (.audioSampleRx 2 i ch st v r z) s = .next t ∧ t.dev.bit F.INGEST_AUD_STAT_OVERRUN = true ∧
        (t.dev.channel k).ring = (s.dev.channel k).ring ∧ s.Keeps t (R.INGEST_AUD_STAT :: eventRegs))) ∧
  (∀ (k i ch st v r : Nat) (z : Bool) (s : State), s.dev.audioFed k i = false → exec (.audioSampleRx k i ch st v r z) s = .next s) ∧
  (∀ (s : State), s.dev.ingestRuns = true → s.dev.bit F.INGEST_AUD_CFG_EN = true → s.dev.bit F.INGEST_AUD_CFG_TRACK = true →
    -500 ≤ s.dev.ingest.trim → s.dev.ingest.trim ≤ 500 →
    ∃ t, exec .audioTrackTrim s = .next t ∧ -500 ≤ t.dev.ingest.trim ∧ t.dev.ingest.trim ≤ 500 ∧
      (t.dev.ingest.trim - s.dev.ingest.trim).natAbs ≤ 10 ∧ s.Keeps t (R.KEEP_AMCLK_CFG :: R.INGEST_AUD_STAT :: eventRegs)) ∧
  (∀ (c : Fin 4) (s : State), s.dev.answers = true → s.dev.isSender = true → s.dev.variant.full = true → s.dev.ingest.aout.length = 4 →
    s.dev.ingest.asleep = false → s.dev.get (F.INGEST_AOUT_CFG_SLOT c) ≤ 2 → s.dev.get (F.INGEST_AOUT_CFG_RATE c) ≤ 6 →
    bclkOk (s.dev.reg R.KEEP_AMCLK_CFG) (s.dev.reg (R.INGEST_AOUT_CFG c)) = true →
    (s.dev.bit (F.INGEST_AOUT_CFG_EN c) = false → s.dev.bit F.KEEP_AMCLK_CFG_EN = true →
      ∃ t, exec (.audioPortEnable c) s = .next t ∧ t.dev.bit (F.INGEST_AOUT_CFG_EN c) = true ∧
        (s.dev.stage c = .off → t.dev.stage c = .starting 0) ∧ (∀ n, s.dev.stage c = .fading n → t.dev.stage c = .fading n) ∧
        t.dev.lastStatus = Status.ok.code ∧ s.Keeps t [R.INGEST_AOUT_CFG c, R.INGEST_AUD_STAT]) ∧
    (s.dev.bit (F.INGEST_AOUT_CFG_EN c) = true → s.dev.stage c = .run →
      ∃ t, exec (.audioPortDisable c) s = .next t ∧ t.dev.bit (F.INGEST_AOUT_CFG_EN c) = false ∧ t.dev.stage c = .fading 0 ∧
        t.dev.lastStatus = Status.ok.code ∧ s.Keeps t [R.INGEST_AOUT_CFG c, R.INGEST_AUD_STAT])) ∧
  (∀ (c : Fin 4) (n : Nat) (s : State), s.dev.ingest.aout.length = 4 → s.dev.stage c = .zeros n →
    (256 ≤ n → ∃ t, exec (.audioPortStopDone c) s = .next t ∧ t.dev.stage c = .off ∧ s.Keeps t [R.INGEST_AUD_STAT]) ∧
    (n < 256 → exec (.audioPortStopDone c) s = .next s)) ∧
  (∀ (c : Fin 4) (u : Nat) (s : State), s.dev.stage c = .off ∨ s.dev.clocked guAudio = false → exec (.aoutWordSelectPeriod c u) s = .next s) ∧
  (∀ (c : Fin 4) (u n : Nat) (s : State), s.dev.ingest.aout.length = 4 → s.dev.clocked guAudio = true →
    (s.dev.stage c = .starting n →
      ∃ t, exec (.aoutWordSelectPeriod c u) s = .next t ∧ t.dev.out = s.dev.i2sOut c 0 0 :: s.dev.out ∧
        t.dev.stage c = (if n + 1 < 256 then .starting (n + 1) else .run) ∧ s.Keeps t []) ∧
    (s.dev.stage c = .zeros n →
      ∃ t, exec (.aoutWordSelectPeriod c u) s = .next t ∧ t.dev.out = s.dev.i2sOut c 0 0 :: s.dev.out ∧
        t.dev.stage c = .zeros (min 256 (n + 1)) ∧ s.Keeps t [R.INGEST_AUD_STAT])) ∧
  (∀ (c : Fin 4) (u : Nat) (s : State), s.dev.stage c = .run → s.dev.clocked guAudio = true →
    ∃ t, exec (.aoutWordSelectPeriod c u) s = .next t ∧ t.dev.out.head? = some (s.dev.i2sOut c (s.dev.channelPeriod (2 * c) u true).2
      ((s.dev.channelPeriod (2 * c) u true).1.channelPeriod (2 * c + 1) u true).2) ∧ t.dev.stage c = .run ∧
      s.Keeps t (R.INGEST_AUD_STAT :: eventRegs))

/-! ### Composition (ch. 6, ch. 7) -/

/-- A pipe's frame: the window takes the latched set and opens the pipe of every loop that composes; a line that is not its tile's last
advances the row and, for every 1,920 bits, the INDEX; a missed checkpoint aborts the frame with PACE, of the loop alone or of every loop
as ABORT_SCOPE of the frame's set says; at the deadline an end that has not sent its copy ends it with an ABORT and sets DRAIN_ABORT (R185
to R187, R190, R264, R269). It rests on the choices of the assumption log 8, 53, 54, 55 and 58. -/
def Obligations.FramesComposed : Prop :=
  (∀ (n : Nat) (s : State), s.dev.compose.next = none → exec (.compositionWindowStart n) s = .next s) ∧
  (∀ (set : ComposeSet) (s : State), s.dev.compose.next = some set → s.dev.composes = true → s.dev.compose.pipes.length = 4 →
    ∃ t, exec (.compositionWindowStart set.frame) s = .next t ∧ t.dev.compose.cur = some set ∧ t.dev.compose.next = none ∧
      (∀ k, k < s.dev.loops → s.dev.loopComposes (s.dev.atSet set) k = true → s.dev.clocked (guBlend + k) = true → (t.dev.pipe k).opened = some set.frame) ∧
      t.mem = s.mem ∧ t.otp = s.otp) ∧
  (∀ (k : Fin 4) (set : ComposeSet) (ti : LayoutTile) (b : Nat) (s : State), s.dev.composes = true → k.val < s.dev.loops →
    s.dev.compose.cur = some set → (s.dev.loopTiles k)[(s.dev.pipe k).tile]? = some ti → (s.dev.pipe k).composing = true →
    (s.dev.pipe k).opened = some set.frame → s.dev.liveEnds k ≠ [] → s.dev.itemsLeft = [] → (s.dev.pipe k).row + 1 ≠ ti.h →
    b = (s.dev.pipe k).bits.1 + ti.w * codeBits ((s.dev.atSet set).loopCode k set.plain) → s.dev.queued k + b / 1920 ≤ 8192 →
    ∃ t, exec (.compositionLine k) s = .next t ∧ (t.dev.pipe k).row = (s.dev.pipe k).row + 1 ∧
      (t.dev.pipe k).index = (s.dev.pipe k).index + b / 1920 ∧ (t.dev.pipe k).bits.1 = b % 1920 ∧
      (∀ j, j ≠ k.val → t.dev.pipe j = s.dev.pipe j) ∧ s.Keeps t []) ∧
  (∀ (k : Fin 4) (s : State), s.dev.composes = false → exec (.compositionLine k) s = .next s) ∧
  (∀ (k : Fin 4) (sl ti n : Nat) (s : State), (s.dev.pipe k).composing = true → (s.dev.pipe k).opened = some n →
    (s.dev.pipe k).slot = sl → (s.dev.pipe k).tile ≤ ti → (s.dev.fastest k).isSome = true → s.dev.composing.bit F.COMPOSE_CFG_ABORT_SCOPE = true →
    ∃ t, exec (.checkpointMiss k sl ti) s = .next t ∧ (t.dev.pipe k).opened = none ∧ t.dev.bit (F.COMPOSE_PIPE_STAT_ABORTED k) = true ∧
      t.dev.bit F.COMPOSE_STAT_ABORTED = true ∧ t.dev.get F.COMPOSE_STAT_LAST_REASON = 1 ∧ t.dev.get F.COMPOSE_STAT_LAST_LOOPS = 2 ^ k.val ∧
      (∀ j, j ≠ k.val → t.dev.pipe j = s.dev.pipe j) ∧ s.Keeps t (R.COMPOSE_PIPE_STAT k :: R.COMPOSE_STAT :: eventRegs)) ∧
  (∀ (k : Fin 4) (sl ti n : Nat) (s : State), (s.dev.pipe k).composing = true → (s.dev.pipe k).opened = some n → k.val < s.dev.loops →
    (s.dev.pipe k).slot = sl → (s.dev.pipe k).tile ≤ ti → (s.dev.fastest k).isSome = true → s.dev.composing.bit F.COMPOSE_CFG_ABORT_SCOPE = false →
    ∃ t, exec (.checkpointMiss k sl ti) s = .next t ∧ (∀ j, j < s.dev.loops → (t.dev.pipe j).opened = none) ∧
      t.dev.bit F.COMPOSE_STAT_ABORTED = true ∧ t.dev.get F.COMPOSE_STAT_LAST_REASON = 1 ∧
      s.Keeps t ((List.range 4).map R.COMPOSE_PIPE_STAT ++ R.COMPOSE_STAT :: eventRegs)) ∧
  (∀ (k : Fin 4) (sl ti : Nat) (s : State), (s.dev.pipe k).opened = none → (s.dev.pipe k).composing = false → exec (.checkpointMiss k sl ti) s = .next s) ∧
  (∀ (n k e p : Nat) (s : State), s.dev.isSender = true → k < s.dev.loops → (s.dev.pipe k).opened = some n →
    (∀ j, j < s.dev.loops → (s.dev.pipe j).composing = false) → (e, p) ∈ s.dev.loopEnds k → (s.dev.port p).frame = some n →
    (s.dev.port p).pixSent < (s.dev.port p).pixAll → s.dev.bit F.CTRL_PAIR_STAT_MUTED = false → s.dev.link.ports.length = 8 →
    ∃ t ws, exec (.frameDeadline n) s = .next t ∧ (t.dev.pipe k).opened = none ∧ t.dev.bit (F.LINK_LOOP_STAT_DRAIN_ABORT k) = true ∧
      (t.dev.port p).stream = [ws] ∧ (ParcelHead.ofWord (nth ws 0 0)).ty = ptAbort ∧ t.mem = s.mem ∧ t.otp = s.otp) ∧
  (∀ (n : Nat) (s : State), s.dev.isSender = true → (∀ k, k < s.dev.loops → (s.dev.pipe k).opened ≠ some n) →
    ∃ t, exec (.frameDeadline n) s = .next t ∧ (∀ x ∈ t.dev.compose.reading, x.2.2 ≠ n) ∧ s.Keeps t []) ∧
  (∀ (n : Nat) (s : State), s.dev.isSender = false → exec (.frameDeadline n) s = .next s)

/-- Basins and engines: a waiting item goes to a basin that takes it, a basin that has finished the earlier frames' items takes its next
kernel set, an engine whose item completes is free; an item past its ceiling is stopped; the first fault of an engine, by its watchdog,
its item, a fourth failure or a failed diagnosis, leaves it suspect, and its frame item goes to another engine; a failure before the
fourth is corrected and counted, a fourth marks a stored word as corrupt; a diagnosis waits as a BACKGROUND item; a bad pool retires its
basin; with a library a loaded basin is ready with the recorded epoch and its set (R21 to R30, R203, R204, R219 to R222, R226, R230,
R231). It rests on the choices of the assumption log 8, 56, 57 and 114 to 117. -/
def Obligations.BasinsRun : Prop :=
  (∀ (s : State), s.dev.compose.waiting = [] → (∀ b, (s.dev.basin b).next = none) → exec .workItemDispatch s = .next s) ∧
  (∀ (i : WorkItem) (b : Nat) (s : State), s.dev.safe.inReset.contains 4 = false → (∀ c, (s.dev.basin c).next = none) →
    s.dev.compose.waiting = [i] → i.after = none → s.dev.chooseBasin i = some b → (s.dev.basin b).queue = [] →
    ∃ t, exec .workItemDispatch s = .next t ∧ t.dev.compose.waiting = [] ∧
      (i ∈ (t.dev.basin b).queue ∨ ∃ e, (e, i) ∈ (t.dev.basin b).running) ∧
      (∀ c, c ≠ b → t.dev.basin c = s.dev.basin c) ∧ s.Keeps t [R.COMPOSE_BASIN_STAT b, R.COMPOSE_BASIN_EPOCH b]) ∧
  (∀ (b n : Nat) (set slots : List Nat) (s : State), s.dev.safe.inReset.contains 4 = false → s.dev.compose.waiting = [] → b < 16 →
    b < s.dev.compose.basins.length → (s.dev.basin b).next = some (n, set, slots) →
    (∀ i ∈ s.dev.itemsLeft, i.background = true ∨ n ≤ i.frame) →
    ∃ t, exec .workItemDispatch s = .next t ∧ (t.dev.basin b).set = set ∧ (t.dev.basin b).blocks = slots ∧ (t.dev.basin b).next = none ∧
      s.Keeps t basinRegs) ∧
  (∀ (b e c : Nat) (i : WorkItem) (s : State), b < 16 → e < 16 → (s.dev.basin b).running = [(e, i)] → (s.dev.basin b).queue = [] →
    i.kernel ≠ kDiagEngine → i.kernel ≠ kDiagPool → c ≤ i.ceiling →
    ∃ t, exec (.workItemComplete (16 * b + e) c false) s = .next t ∧ (t.dev.basin b).running = [] ∧
      s.Keeps t (R.COMPOSE_BASIN_STAT b :: R.COMPOSE_BASIN_EPOCH b :: R.COMPOSE_KLOAD :: R.COMPOSE_KSTAGE_STAT i.params :: eventRegs)) ∧
  (∀ (b e c : Nat) (x : Bool) (s : State), e < 16 → (s.dev.basin b).running = [] →
    exec (.workItemComplete (16 * b + e) c x) s = .next s ∧ exec (.itemWatchdog (16 * b + e)) s = .next s) ∧
  (∀ (b e c c' : Nat) (i : WorkItem) (s : State), b < 16 → e < 16 → s.dev.calmEngine b e → (s.dev.basin b).running = [(e, i)] →
    i.background = true → 4 * kernelCost i.kernel * i.units + 2048 < c → c' ≤ 4 * kernelCost i.kernel * i.units + 2048 →
    (∃ t, exec (.itemWatchdog (16 * b + e)) s = .next t ∧ exec (.workItemComplete (16 * b + e) c false) s = .next t ∧
      s.Suspects t b e ∧ t.dev.bit (F.COMPOSE_BASIN_STAT_WATCHDOG b) = true ∧ s.KeepsRegs t (R.KEEP_INSVC :: basinRegs)) ∧
    (∃ t, exec (.workItemComplete (16 * b + e) c' true) s = .next t ∧ s.Suspects t b e ∧ s.KeepsRegs t (R.KEEP_INSVC :: basinRegs))) ∧
  (∀ (b e e' c : Nat) (i : WorkItem) (s : State), b < 16 → e < 16 → s.dev.calmEngine b e → (s.dev.basin b).running = [(e, i)] →
    i.background = false → i.pin = none → i.tries = 0 → c ≤ 4 * kernelCost i.kernel * i.units + 2048 →
    e' ≠ e → (s.dev.basin b).inService e' = true → (s.dev.basin b).suspect.testBit e' = false →
    ∃ t f, exec (.workItemComplete (16 * b + e) c true) s = .next t ∧ s.Suspects t b e ∧ f ≠ e ∧
      (t.dev.basin b).running = [(f, { i with tries := 1, avoid := some (16 * b + e) })] ∧
      t.dev.get F.COMPOSE_KERR_REDISPATCH = satTo (2 ^ F.COMPOSE_KERR_REDISPATCH.width - 1) (s.dev.get F.COMPOSE_KERR_REDISPATCH + 1) ∧
      t.dev.bit (F.COMPOSE_BASIN_STAT_REDISPATCHED b) = true ∧ s.KeepsRegs t (R.COMPOSE_KERR :: R.KEEP_INSVC :: basinRegs)) ∧
  (∀ (b e addr : Nat) (a : FabricArrival) (w : Word) (flips : List Nat) (s : State), b < 16 → e < 16 → s.dev.calmEngine b e →
    (s.dev.basin b).running = [] → s.dev.keepRuns = true → s.dev.safe.inReset.contains 4 = false → a.site = .engine (16 * b + e) →
    ((s.dev.fabric.link a.site).take a).sent[a.place]? = some w → failures w a.flips = 4 → failures 0 flips = 4 →
    (∃ t, exec (.fabricParityMismatch a []) s = .next t ∧ s.Suspects t b e ∧ s.KeepsRegs t (R.KEEP_INSVC :: basinRegs)) ∧
    (∃ t, exec (.storedWordParity ⟨a.site, addr, flips⟩ []) s = .next t ∧ s.Suspects t b e ∧ (a.site, addr) ∈ t.dev.fabric.corrupt ∧
      s.KeepsRegs t (R.KEEP_INSVC :: basinRegs))) ∧
  (∀ (b n addr : Nat) (a : FabricArrival) (w : Word) (flips : List Nat) (s : State), a.site = .basinPort b → s.dev.keepRuns = true →
    s.dev.safe.inReset.contains 4 = false → ((s.dev.fabric.link a.site).take a).sent[a.place]? = some w →
    0 < failures w a.flips → failures w a.flips < 4 → 0 < failures 0 flips → failures 0 flips < 4 →
    n = satTo (2 ^ 32 - 1) (s.dev.get F.COMPOSE_KERR_CORRECTED + 1) →
    (∃ t, exec (.fabricParityMismatch a []) s = .next t ∧ t.dev.get F.COMPOSE_KERR_CORRECTED = n ∧
      t.dev.fabric.link a.site = (s.dev.fabric.link a.site).take a ∧ t.dev.compose = s.dev.compose ∧ s.Keeps t [R.COMPOSE_KERR]) ∧
    (∃ t, exec (.storedWordParity ⟨.pool b, addr, flips⟩ []) s = .next t ∧ t.dev.get F.COMPOSE_KERR_CORRECTED = n ∧
      t.dev.fabric = s.dev.fabric ∧ t.dev.compose = s.dev.compose ∧ s.Keeps t [R.COMPOSE_KERR])) ∧
  (∀ (a : FabricArrival) (s : State), s.dev.keepRuns = true →
    (∀ w, ((s.dev.fabric.link a.site).take a).sent[a.place]? = some w → failures w a.flips = 0) →
    ∃ t, exec (.fabricParityMismatch a []) s = .next t ∧ t.dev.fabric.link a.site = (s.dev.fabric.link a.site).take a ∧
      (∀ y, y ≠ a.site → t.dev.fabric.link y = s.dev.fabric.link y) ∧
      ((s.dev.fabric.link a.site).unacked ≤ 16 → (t.dev.fabric.link a.site).unacked ≤ 16) ∧ s.Keeps t []) ∧
  (∀ (addr : Nat) (flips : List Nat) (s : State), failures 0 flips = 4 → s.dev.keepRuns = true → s.dev.safe.inReset.contains 0 = false →
    s.dev.safeNow = false →
    ∃ t, exec (.storedWordParity ⟨.region 0, addr, flips⟩ []) s = .next t ∧ s.EntersSafe t scKeep) ∧
  (∀ (b e : Nat) (x : Bool) (rs : List StoredRead) (s : State), e < 16 → (s.dev.basin b).inService e = true → (s.dev.basin b).st = 3 →
    (∃ t i, exec (.diagEngineRun (16 * b + e) x) s = .next t ∧ t.dev.compose.waiting = s.dev.compose.waiting ++ [i] ∧
      i.kernel = kDiagEngine ∧ i.background = true ∧ i.pin = some (16 * b + e) ∧ i.passes = x ∧ s.Keeps t []) ∧
    (∃ t i, exec (.diagPoolRun b rs) s = .next t ∧ t.dev.compose.waiting = s.dev.compose.waiting ++ [i] ∧
      i.kernel = kDiagPool ∧ i.background = true ∧ i.basin = some b ∧ i.reads = rs.map (fun r => { r with site := .pool b }) ∧ s.Keeps t [])) ∧
  (∀ (b e : Nat) (x : Bool) (rs : List StoredRead) (s : State), e < 16 → (s.dev.basin b).st ≠ 3 →
    exec (.diagEngineRun (16 * b + e) x) s = .next s ∧ exec (.diagPoolRun b rs) s = .next s) ∧
  (∀ (b e c : Nat) (i : WorkItem) (s : State), b < 16 → e < 16 → s.dev.calmEngine b e → (s.dev.basin b).running = [(e, i)] →
    c ≤ 4 * kernelCost i.kernel * i.units + 2048 → i.background = true →
    (i.kernel = kDiagEngine → i.passes = false →
      ∃ t, exec (.workItemComplete (16 * b + e) c false) s = .next t ∧ s.Suspects t b e) ∧
    (∀ r, i.kernel = kDiagPool → i.reads = [r] → r.site = .pool b → failures 0 r.flips = 4 → s.dev.keepRuns = true →
      s.dev.safe.inReset.contains 4 = false →
      ∃ t, exec (.workItemComplete (16 * b + e) c false) s = .next t ∧ (t.dev.basin b).st = 4 ∧ (r.site, r.addr) ∈ t.dev.fabric.corrupt ∧
        t.mem = s.mem ∧ t.otp = s.otp)) ∧
  (∀ (b e : Nat) (s : State), b < 16 → e < 16 → (s.dev.basin b).active = true →
    ∃ t, exec (.engineSuspectExpiry (16 * b + e)) s = .next t ∧ (t.dev.basin b).suspect.testBit e = false ∧
      (∀ x ∈ (t.dev.basin b).faults, x.1 ≠ e) ∧ (t.dev.basin b).running = (s.dev.basin b).running ∧
      s.Keeps t [R.COMPOSE_BASIN_STAT b, R.COMPOSE_BASIN_EPOCH b]) ∧
  (∀ (b : Nat) (s : State), (s.dev.basin b).st = 2 → s.dev.hasLibrary = true → s.dev.fewOut →
    ∃ t, exec (.basinLoadDone b []) s = .next t ∧ (t.dev.basin b).st = 3 ∧ (t.dev.basin b).epoch = s.dev.compose.record ∧
      (t.dev.basin b).set = s.dev.kernelSet (s.dev.service != 2 || s.dev.lamp.working.isEmpty) ∧ (t.dev.basin b).next = none ∧
      (t.dev.basin b).replaces = false ∧ t.dev.compose.stale = [] ∧ t.mem = s.mem ∧ t.otp = s.otp) ∧
  (∀ (b : Nat) (l : List Nat) (s : State), (s.dev.basin b).st ≠ 2 ∨ s.dev.hasLibrary = false → exec (.basinLoadDone b l) s = .next s)

/-! ### Tables, ledger, a tile's frames (ch. 9, ch. 12) -/

/-- A table push at the tile it is addressed to: DATA puts words in the staging area; END accepts a class whose CRC and rules hold, and
discards one that fails with TABLE_REJECT; COMMIT adopts a push with every class accepted, sets the epoch and replies, and fails any other
as a whole; an item from an end not accepted is counted and flagged. The ledger: a save reads the working ledger, its completion writes
the older area of flash with the next epoch and answers its command, a failed one sets SAVE_FAIL; a mark holds the wall time and the epoch
(R303, R344, R357 to R360, R366 to R368). It rests on the choices of the assumption log 80 (COMMIT replies at once), 81, 86 and 87. -/
def Obligations.TablesAndLedger : Prop :=
  (∀ (e : Fin 2) (pos cls off : Nat) (ws : List Word) (s : State), s.dev.isTile = true → s.dev.boot = .up → s.dev.endAccepted e = true →
    s.dev.atPosition pos = true →
    ∃ t, exec (.tableData e pos cls off ws) s = .next t ∧ (∀ i, i < ws.length → (cls, off + i, nth ws i 0) ∈ t.dev.lamp.staging) ∧
      (∀ x, x.1 ≠ cls ∨ x.2.1 < off ∨ off + ws.length ≤ x.2.1 → (x ∈ t.dev.lamp.staging ↔ x ∈ s.dev.lamp.staging)) ∧
      t.dev.lamp.held = s.dev.lamp.held ∧ t.dev.lamp.accepted = s.dev.lamp.accepted ∧ s.Keeps t []) ∧
  (∀ (e : Fin 2) (pos a b c : Nat) (ws : List Word) (s : State), s.dev.isTile = true → s.dev.boot = .up → s.dev.endAccepted e = true →
    s.dev.atPosition pos = false →
    exec (.tableData e pos a b ws) s = .next s ∧ exec (.tableEnd e pos a b c) s = .next s ∧ exec (.tableCommit e pos a b) s = .next s) ∧
  (∀ (e : Fin 2) (pos a b c : Nat) (ws : List Word) (s : State), s.dev.isTile = true → s.dev.boot = .up → s.dev.endAccepted e = false →
    ∃ t, exec (.tableData e pos a b ws) s = .next t ∧ exec (.tableEnd e pos a b c) s = .next t ∧ exec (.tableCommit e pos a b) s = .next t ∧
      t.dev.bit F.CTRL_PAIR_STAT_CMD_REJECT = true ∧
      t.dev.get F.CTRL_PAIR_CNT_REJECTS = satTo (2 ^ F.CTRL_PAIR_CNT_REJECTS.width - 1) (s.dev.get F.CTRL_PAIR_CNT_REJECTS + 1) ∧
      t.dev.lamp = s.dev.lamp ∧ s.Keeps t [R.CTRL_PAIR_CNT, R.CTRL_PAIR_STAT]) ∧
  (∀ (e : Fin 2) (pos cls crc len : Nat) (ws : List Word) (s : State), s.dev.isTile = true → s.dev.boot = .up → s.dev.endAccepted e = true →
    s.dev.atPosition pos = true → stagedWords s.dev.lamp.staging cls len = some ws → (checkWord 0 ws).toNat = crc →
    classRules cls ws (if holdsClass s.dev.lamp.accepted tcHeader then s.dev.lamp.accepted else s.dev.lamp.held) s.dev.tileRect
      s.dev.prog.emitters = none →
    ∃ t, exec (.tableEnd e pos cls crc len) s = .next t ∧ (cls, ws) ∈ t.dev.lamp.accepted ∧
      (∀ x ∈ t.dev.lamp.accepted, x.1 = cls → x = (cls, ws)) ∧ (∀ x ∈ t.dev.lamp.staging, x.1 ≠ cls) ∧
      t.dev.lamp.held = s.dev.lamp.held ∧ t.dev.lamp.pushBad = s.dev.lamp.pushBad ∧ s.Keeps t []) ∧
  (∀ (e : Fin 2) (pos cls crc len detail : Nat) (s : State), s.dev.isTile = true → s.dev.boot = .up → s.dev.endAccepted e = true →
    s.dev.atPosition pos = true → (∀ w, s.dev.judgeClass cls crc len ≠ .ok w) →
    ∃ t, exec (.tableEnd e pos cls crc len) s = .next t ∧ t.dev.bit F.LAMP_COR_STAT_TABLE_REJECT = true ∧
      t.dev.lamp.pushBad.isSome = true ∧ (∀ x ∈ t.dev.lamp.accepted, x.1 ≠ cls) ∧ (∀ x ∈ t.dev.lamp.staging, x.1 ≠ cls) ∧
      (s.dev.lamp.pushBad = none → s.dev.judgeClass cls crc len = .error detail → t.dev.lamp.pushBad = some (cls, detail)) ∧
      t.dev.lamp.held = s.dev.lamp.held ∧ s.Keeps t (R.LAMP_COR_STAT :: eventRegs)) ∧
  (∀ (e : Fin 2) (pos epoch mask : Nat) (s : State), s.dev.isTile = true → s.dev.boot = .up → s.dev.endAccepted e = true →
    s.dev.atPosition pos = true → epoch < 2 ^ 32 → s.dev.lamp.pushBad = none →
    (∀ c, 1 ≤ c → c ≤ 6 → mask.testBit c = true → holdsClass s.dev.lamp.accepted c = true) →
    ∃ t, exec (.tableCommit e pos epoch mask) s = .next t ∧ t.dev.get F.LAMP_TBL_EPOCH_EPOCH = epoch ∧
      t.dev.get F.LAMP_TBL_EPOCH_FLASH_EPOCH = epoch ∧
      t.dev.lamp.held = mergeClasses s.dev.lamp.held (s.dev.lamp.accepted.filter fun x => mask.testBit x.1) ∧
      t.dev.lamp.accepted = [] ∧ t.dev.lamp.staging = [] ∧ t.dev.lamp.tables = s.dev.lamp.tables ∧
      (s.dev.photo.run = none → t.dev.link = (s.dev.pushReply .ok 0 [Word.of epoch]).link) ∧ s.Keeps t adoptRegs) ∧
  (∀ (e : Fin 2) (pos epoch mask : Nat) (b : Nat × Nat) (s : State), s.dev.isTile = true → s.dev.boot = .up → s.dev.endAccepted e = true →
    s.dev.atPosition pos = true → s.dev.lamp.pushBad = some b →
    ∃ t, exec (.tableCommit e pos epoch mask) s = .next t ∧ t.dev.lamp.held = s.dev.lamp.held ∧ t.dev.lamp.accepted = [] ∧
      t.dev.lamp.staging = [] ∧ t.dev.lamp.pushBad = none ∧ t.dev.link = (s.dev.pushReply .invalid b.2 []).link ∧ s.Keeps t []) ∧
  (∀ (s : State), s.dev.isTile = true → s.dev.lamp.rebuild = 1 →
    ∃ t, exec .tableRebuildDone s = .next t ∧ t.dev.lamp.rebuild = 0 ∧
      t.dev.lamp.built = some (s.dev.lamp.held,
        (buildWorking s.dev.lamp.held s.dev.lamp.ledger s.dev.flash.map (s.dev.get F.LAMP_COR_CFG_AGE_CAP)).1) ∧
      t.dev.lamp.working = s.dev.lamp.working ∧ s.Keeps t [R.LAMP_COR_STAT]) ∧
  (∀ (s : State), s.dev.isTile = true → s.dev.lamp.rebuild = 2 →
    ∃ t, exec .tableRebuildDone s = .next t ∧ t.dev.lamp.rebuild = 1 ∧ t.dev.lamp.built = s.dev.lamp.built ∧ s.Keeps t [R.LAMP_COR_STAT]) ∧
  (∀ (s : State), s.dev.lamp.rebuild = 0 → exec .tableRebuildDone s = .next s) ∧
  (∀ (h : Hdr) (s : State), s.takes h .ledgerSave [] = true → s.dev.isTile = true → s.dev.lamp.saving = none →
    ∃ t, exec (.ledgerSave h) s = .next t ∧ t.dev.lamp.saving = some ⟨s.dev.wallS, s.dev.lamp.ledger⟩ ∧
      t.dev.lamp.saveCmds = s.dev.lamp.saveCmds ++ [hostCmd h .ledgerSave []] ∧ t.dev.bit F.LAMP_LEDGER_STAT_SAVING = true ∧
      t.dev.flash = s.dev.flash ∧ s.Keeps t [R.LAMP_LEDGER_STAT]) ∧
  (∀ (h : Hdr) (s : State), s.takes h .ledgerSave [] = true → s.dev.isSender = true →
    ∃ t, exec (.ledgerSave h) s = .next t ∧ t.Answered (hostCmd h .ledgerSave []) s.dev.responder .role 0 [] ∧
      t.dev.lamp = s.dev.lamp ∧ s.Keeps t []) ∧
  (∀ (s : State), s.dev.maySave = true → s.dev.lampsLit = true →
    ∃ t, exec .ledgerSaveTimer s = .next t ∧ t.dev.lamp.saving = some ⟨s.dev.wallS, s.dev.lamp.ledger⟩ ∧
      t.dev.bit F.LAMP_LEDGER_STAT_SAVING = true ∧ t.dev.flash = s.dev.flash ∧ s.Keeps t [R.LAMP_LEDGER_STAT]) ∧
  (∀ (s : State), s.dev.maySave = true → s.dev.lamp.saveRetry = true →
    ∃ t, exec .ledgerSaveRetry s = .next t ∧ t.dev.lamp.saving = some ⟨s.dev.wallS, s.dev.lamp.ledger⟩ ∧
      t.dev.bit F.LAMP_LEDGER_STAT_SAVING = true ∧ t.dev.flash = s.dev.flash ∧ s.Keeps t [R.LAMP_LEDGER_STAT]) ∧
  (∀ (s : State), s.dev.lampsLit = false → exec .ledgerSaveTimer s = .next s ∧ exec .ledgerMark s = .next s) ∧
  (∀ (r : SaveRun) (q : QCmd) (s : State), s.dev.lamp.saving = some r → s.dev.lamp.saveCmds = [q] → s.dev.flash.ledgers.length = 2 →
    s.dev.flash.lastArea < 2 → (s.dev.host.lostReplies.any fun x => q.isFor x.1 x.2.1 x.2.2) = false →
    ∃ t n, exec (.ledgerSaveDone true) s = .next t ∧ (∀ x, s.dev.lamp.lastStart = some x → n = r.start - x) ∧
      (s.dev.lamp.lastStart = none → n < 2 ^ 32) ∧
      t.dev.lamp.saving = none ∧ t.dev.bit F.LAMP_LEDGER_STAT_SAVING = false ∧
      t.dev.get F.LAMP_LEDGER_STAT_EPOCH = (s.dev.get F.LAMP_LEDGER_STAT_EPOCH + 1) % 2 ^ 32 ∧
      t.dev.get F.LAMP_LEDGER_TIME_SAVED_S = r.start % 2 ^ 64 ∧ t.dev.flash.lastArea = 1 - s.dev.flash.lastArea ∧
      nth t.dev.flash.ledgers s.dev.flash.lastArea [] = nth s.dev.flash.ledgers s.dev.flash.lastArea [] ∧
      nth t.dev.flash.ledgers (1 - s.dev.flash.lastArea) [] = saveWords ((s.dev.get F.LAMP_LEDGER_STAT_EPOCH + 1) % 2 ^ 32) r.start
        n r.ledger s.dev.lamp.lastSaved ∧
      t.Answered q s.dev.responder .ok 0 [Word.of ((s.dev.get F.LAMP_LEDGER_STAT_EPOCH + 1) % 2 ^ 32)] ∧
      s.Keeps t [R.LAMP_LEDGER_STAT, R.LAMP_LEDGER_TIME]) ∧
  (∀ (r : SaveRun) (s : State), s.dev.lamp.saving = some r → s.dev.flash.ledgers.length = 2 → s.dev.flash.lastArea < 2 →
    ∃ t, exec (.ledgerSaveDone false) s = .next t ∧ t.dev.lamp.saving = none ∧ t.dev.bit F.LAMP_LEDGER_STAT_SAVING = false ∧
      t.dev.bit F.LAMP_LEDGER_STAT_SAVE_FAIL = true ∧ t.dev.flash.lastArea = s.dev.flash.lastArea ∧
      nth t.dev.flash.ledgers s.dev.flash.lastArea [] = nth s.dev.flash.ledgers s.dev.flash.lastArea [] ∧
      s.Keeps t (R.LAMP_LEDGER_STAT :: eventRegs)) ∧
  (∀ (b : Bool) (s : State), s.dev.lamp.saving = none → exec (.ledgerSaveDone b) s = .next s) ∧
  (∀ (s : State), s.dev.lampsLit = true →
    ∃ t, exec .ledgerMark s = .next t ∧ t.dev.flash.marks.head? = some (s.dev.wallS, s.dev.get F.LAMP_LEDGER_STAT_EPOCH) ∧
      t.dev.flash.ledgers = s.dev.flash.ledgers ∧ s.Keeps t [])

/-- A tile's frame: at the correction start reception of the frame closes; one complete goes to correction with the set latched for it,
one not complete is counted, flagged and not shown, one aborted from every direction is counted as aborted. At F_n the frame that is ready
goes on display, else the one on display is shown again and counted; a tile asleep is dark, one in the safe state does nothing (R217,
R274, R345, R363, R364). It rests on the choices of the assumption log 81, 82, 85 and 90. -/
def Obligations.TileFrames : Prop :=
  (∀ (n : Nat) (s : State), s.dev.isTile = false → exec (.tileCorrectionStart n) s = .next s ∧ exec (.frameStart n) s = .next s) ∧
  (∀ (n : Nat) (s : State), s.dev.isTile = true → s.dev.boot = .up →
    s.dev.awake = false ∨ s.dev.safeNow = true ∨ s.dev.bit F.LINK_TILE_STAT_IDENT = false →
    ∃ t, exec (.tileCorrectionStart n) s = .next t ∧ t.dev.link.tile.closed = some n ∧ t.dev.lamp = s.dev.lamp ∧ s.Keeps t []) ∧
  (∀ (n : Nat) (s : State), s.dev.isTile = true → s.dev.boot = .up → s.dev.awake = true → s.dev.safeNow = false →
    s.dev.bit F.LINK_TILE_STAT_IDENT = true →
    (s.dev.link.tile.rx.find? fun x => x.n == n) = none ∨
      (∃ x, (s.dev.link.tile.rx.find? fun x => x.n == n) = some x ∧ x.ended = false ∧ x.aborted = [] ∧ x.tagOk ≠ some false ∧
        s.dev.rxComplete x = false) →
    ∃ t, exec (.tileCorrectionStart n) s = .next t ∧ t.dev.bit F.LINK_TILE_STAT_INCOMPLETE = true ∧
      t.dev.get F.LINK_TILE_CNT_INCOMPLETE = satTo 65535 (s.dev.get F.LINK_TILE_CNT_INCOMPLETE + 1) ∧ (n, 1) ∈ t.dev.lamp.causes ∧
      t.dev.lamp.cor = s.dev.lamp.cor ∧ t.dev.link.tile.closed = some n ∧ s.Keeps t (R.LINK_TILE_STAT :: R.LINK_TILE_CNT :: eventRegs)) ∧
  (∀ (n : Nat) (x : RxFrame) (s : State), s.dev.isTile = true → s.dev.boot = .up → s.dev.awake = true → s.dev.safeNow = false →
    s.dev.bit F.LINK_TILE_STAT_IDENT = true → (s.dev.link.tile.rx.find? fun x => x.n == n) = some x → x.ended = false →
    s.dev.rxAborted x = true →
    ∃ t, exec (.tileCorrectionStart n) s = .next t ∧ t.dev.bit F.LINK_TILE_STAT_ABORT_RX = true ∧
      t.dev.get F.LINK_TILE_CNT_ABORTED = satTo 65535 (s.dev.get F.LINK_TILE_CNT_ABORTED + 1) ∧ (n, 2) ∈ t.dev.lamp.causes ∧
      t.dev.lamp.cor = s.dev.lamp.cor ∧ t.dev.link.tile.closed = some n ∧ s.Keeps t [R.LINK_TILE_STAT, R.LINK_TILE_CNT]) ∧
  (∀ (n : Nat) (x : RxFrame) (o : FrameOpen) (set : CorSet) (s : State), s.dev.isTile = true → s.dev.boot = .up → s.dev.awake = true →
    s.dev.safeNow = false → s.dev.bit F.LINK_TILE_STAT_IDENT = true → (s.dev.link.tile.rx.find? fun x => x.n == n) = some x →
    x.ended = false → x.aborted = [] → x.tagOk ≠ some false → x.opened = some o → s.dev.rxComplete x = true →
    (∀ r, r < 16 → s.dev.bit (F.COMPOSE_SREC_CFG_EN r) = false) → s.dev.lamp.next = some set → set.frame = n →
    ∃ t, exec (.tileCorrectionStart n) s = .next t ∧
      t.dev.get F.LINK_TILE_CNT_COMPLETE = satTo (2 ^ 32 - 1) (s.dev.get F.LINK_TILE_CNT_COMPLETE + 1) ∧
      t.dev.lamp.cor = some ⟨n, o, s.dev.clearParcels n o x.kept, set⟩ ∧ t.dev.lamp.next = none ∧ t.dev.lamp.causes = s.dev.lamp.causes ∧
      t.dev.link.tile.closed = some n ∧ s.Keeps t [R.LINK_TILE_CNT]) ∧
  (∀ (n : Nat) (s : State), s.dev.safeNow = true → exec (.frameStart n) s = .next s) ∧
  (∀ (n : Nat) (s : State), s.dev.isTile = true → s.dev.boot = .up → s.dev.safeNow = false → s.dev.awake = false →
    ∃ t, exec (.frameStart n) s = .next t ∧ t.dev.safe.blank = true ∧ t.dev.lamp.shown = none ∧ t.dev.lamp.ready = none ∧ s.Keeps t []) ∧
  (∀ (n : Nat) (f : DriveFrame) (s : State), s.dev.isTile = true → s.dev.boot = .up → s.dev.safeNow = false → s.dev.awake = true →
    s.dev.lamp.ready = some f → f.n = n →
    ∃ t, exec (.frameStart n) s = .next t ∧ t.dev.lamp.shown = some f ∧ t.dev.lamp.ready = none ∧
      t.dev.get F.LAMP_COR_SHOW_FRAME = n % 2 ^ 64 ∧ t.dev.get F.COMPOSE_SLOT_STAT_MASK = f.mask % 256 ∧ t.dev.safe.repeats = 0 ∧
      s.Keeps t [R.LAMP_COR_STAT, R.LAMP_COR_SHOW, R.COMPOSE_SLOT_STAT, R.LAMP_LEDGER_STAT]) ∧
  (∀ (n : Nat) (g : DriveFrame) (s : State), s.dev.isTile = true → s.dev.boot = .up → s.dev.safeNow = false → s.dev.awake = true →
    (∀ f, s.dev.lamp.ready = some f → f.n ≠ n) → s.dev.lamp.shown = some g →
    ∃ t, exec (.frameStart n) s = .next t ∧ t.dev.lamp.shown = some g ∧ t.dev.bit F.LAMP_COR_STAT_REPEATED = true ∧
      t.dev.get F.LAMP_COR_CNT_REPEATS = satTo (2 ^ 32 - 1) (s.dev.get F.LAMP_COR_CNT_REPEATS + 1) ∧
      t.dev.get F.COMPOSE_SLOT_STAT_MASK = g.mask % 256 ∧ t.dev.safe.repeats = s.dev.safe.repeats + 1 ∧
      s.Keeps t (R.LAMP_COR_STAT :: R.LAMP_COR_CNT :: R.COMPOSE_SLOT_STAT :: R.LAMP_LEDGER_STAT :: eventRegs)) ∧
  (∀ (n : Nat) (s : State), s.dev.isTile = true → s.dev.boot = .up → s.dev.safeNow = false → s.dev.awake = true →
    s.dev.lamp.ready = none → s.dev.lamp.shown = none →
    ∃ t, exec (.frameStart n) s = .next t ∧ t.dev.lamp.shown = none ∧ s.Keeps t [])

/-! ### Photometry (ch. 14) -/

/-- Photometry. A frame's result adds a sample where the input had LIT bits, no overload and a prediction, and counts the frame; an
overload sets SAT; without photometry, light or the input nothing happens. The end of a window starts the next, and in a run its fit is
window A of its input, or B after a good A. CAL_RUN refuses what its rule names and otherwise starts a run on its mask; a run starts by
itself on every input once a condition holds. At its end an input whose two windows are judged good has its K stored with CAL_OK, any
other keeps what it had and is counted as rejected, and the run is over (R413 to R418, R420 to R423, R427). It rests on the choices of the
assumption log 99 and 100. -/
def Obligations.PhotometryRuns : Prop :=
  (∀ (i : Fin 8) (lit dark : Nat) (b c : Bool) (sh : List Int) (s : State),
    s.dev.photoRuns = false ∨ s.dev.lampsLit = false ∨ i.val ∉ s.dev.photoInputs →
    exec (.photoFrameResult i lit dark b c sh) s = .next s) ∧
  (∀ (i : Fin 8) (lit dark : Nat) (b : Bool) (sh : List Int) (s : State), s.dev.photoRuns = true → s.dev.lampsLit = true →
    i.val ∈ s.dev.photoInputs → s.dev.photo.inputs.length = 8 →
    ∃ t, exec (.photoFrameResult i lit dark b true sh) s = .next t ∧ t.dev.bit F.LAMP_CAL_STAT_SAT = true ∧
      (t.dev.input i).samples = (s.dev.input i).samples ∧ (t.dev.input i).frames = (s.dev.input i).frames + 1 ∧
      (∀ j, j ≠ i.val → t.dev.input j = s.dev.input j) ∧ s.Keeps t [R.LAMP_CAL_STAT]) ∧
  (∀ (i : Fin 8) (lit dark : Nat) (sh : List Int) (es : List Rat) (s : State), s.dev.photoRuns = true → s.dev.lampsLit = true →
    i.val ∈ s.dev.photoInputs → s.dev.photo.inputs.length = 8 → s.dev.lamp.locate = none → s.dev.photo.failed.testBit i = false →
    s.dev.predict i = some es →
    ∃ t, exec (.photoFrameResult i lit dark true false sh) s = .next t ∧
      (t.dev.input i).samples = (((lit : Rat) - dark) / 65535, es) :: (s.dev.input i).samples ∧
      (t.dev.input i).frames = (s.dev.input i).frames + 1 ∧ (t.dev.input i).shunts = sh :: (s.dev.input i).shunts ∧
      (∀ j, j ≠ i.val → t.dev.input j = s.dev.input j) ∧
      (s.dev.photo.run.isSome = true → s.Keeps t []) ∧
      (s.dev.photo.run = none → t.dev.get (F.LAMP_PHOTO_VAL_LIT i) = lit % 65536 ∧ t.dev.get (F.LAMP_PHOTO_VAL_DARK i) = dark % 65536 ∧
        s.Keeps t [R.LAMP_PHOTO_VAL i])) ∧
  (∀ (i : Fin 8) (s : State), (s.dev.input i).frames < s.dev.photoSet F.LAMP_PHOTO_CFG_WINDOW ∨ s.dev.photoRuns = false →
    exec (.photoWindowEnd i) s = .next s) ∧
  (∀ (i : Fin 8) (s : State), s.dev.photoRuns = true → i.val ∈ s.dev.photoInputs → s.dev.photo.inputs.length = 8 →
    s.dev.photoSet F.LAMP_PHOTO_CFG_WINDOW ≤ (s.dev.input i).frames → s.dev.photo.run = none →
    ∃ t, exec (.photoWindowEnd i) s = .next t ∧ (t.dev.input i).samples = [] ∧ (t.dev.input i).frames = 0 ∧
      t.dev.get (F.LAMP_PHOTO_VAL_FRAMES i) = 0 ∧ s.Keeps t [R.LAMP_PHOTO_VAL i]) ∧
  (∀ (i : Fin 8) (r : PhotoRun) (s : State), s.dev.photoRuns = true → i.val ∈ s.dev.photoInputs → s.dev.photo.inputs.length = 8 →
    s.dev.photoSet F.LAMP_PHOTO_CFG_WINDOW ≤ (s.dev.input i).frames → s.dev.photo.run = some r → r.mask.testBit i = true →
    (s.dev.input i).winB = none → (s.dev.input i).windows < s.dev.photoSet F.LAMP_PHOTO_CFG_RUN_MAX →
    ∃ t fit, exec (.photoWindowEnd i) s = .next t ∧
      fit = fitWindow (s.dev.photoSet F.LAMP_PHOTO_CFG_WINDOW) (s.dev.photoSet F.LAMP_PHOTO_LIM_MIN_SD_PERMILLE) s.dev.prog.emitters.length
        (s.dev.input i).samples ∧
      (t.dev.input i).windows = (s.dev.input i).windows + 1 ∧ (t.dev.input i).samples = [] ∧ (t.dev.input i).frames = 0 ∧
      ((s.dev.input i).winA = none → (t.dev.input i).winA = fit ∧ (t.dev.input i).winB = none) ∧
      ((s.dev.input i).winA.isSome = true → (t.dev.input i).winA = (s.dev.input i).winA ∧ (t.dev.input i).winB = fit) ∧
      t.dev.photo.run.isSome = true ∧ s.Keeps t [R.LAMP_CAL_STAT]) ∧
  (∀ (i : Fin 8) (r : PhotoRun) (s : State), s.dev.photoRuns = true → i.val ∈ s.dev.photoInputs → s.dev.photo.inputs.length = 8 →
    s.dev.photoSet F.LAMP_PHOTO_CFG_WINDOW ≤ (s.dev.input i).frames → s.dev.photo.run = some r →
    r.mask.testBit i = false ∨ (s.dev.input i).winB.isSome = true ∨
      s.dev.photoSet F.LAMP_PHOTO_CFG_RUN_MAX ≤ (s.dev.input i).windows →
    ∃ t, exec (.photoWindowEnd i) s = .next t ∧ (t.dev.input i).samples = [] ∧ (t.dev.input i).frames = 0 ∧
      (t.dev.input i).windows = (s.dev.input i).windows ∧ (t.dev.input i).winA = (s.dev.input i).winA ∧ s.Keeps t []) ∧
  (∀ (h : Hdr) (m : Word) (s : State), s.takes h .calRun [m] = true →
    s.dev.isSender = true ∨ Word.field m 0 8 = 0 ∨ s.dev.photo.run.isSome = true ∨ s.dev.calReady = false →
    ∃ t st x, exec (.calRun h m) s = .next t ∧ t.Answered (hostCmd h .calRun [m]) s.dev.responder st x [] ∧ st ≠ .ok ∧
      (s.dev.isSender = true → st = .role) ∧ (s.dev.isTile = true → Word.field m 0 8 = 0 → st = .range) ∧
      t.dev.photo = s.dev.photo ∧ s.Keeps t []) ∧
  (∀ (h : Hdr) (m : Word) (s : State), s.takes h .calRun [m] = true → s.dev.isTile = true → Word.field m 0 8 ≠ 0 →
    holdsClass s.dev.lamp.held tcPhoto = true → (∀ i, i < 8 → (Word.field m 0 8).testBit i = true → i ∈ s.dev.photoInputs) →
    s.dev.photo.run = none → s.dev.calReady = true →
    ∃ t, exec (.calRun h m) s = .next t ∧
      t.Answered (hostCmd h .calRun [m]) s.dev.responder .ok 0 [Word.of (Word.field m 0 8), Word.of (if s.dev.tfDen = 0 then 0 else
        ceilDiv (s.dev.time.wall * s.dev.tfDen + s.dev.get F.LAMP_PHOTO_CFG_RUN_MAX * s.dev.get F.LAMP_PHOTO_CFG_WINDOW * s.dev.tfScaled)
          (secU * s.dev.tfDen))] ∧
      t.dev.photo.run.map (·.mask) = some (Word.field m 0 8) ∧ t.dev.photo.inputs = List.replicate 8 {} ∧
      t.dev.get F.LAMP_CAL_STAT_STATE = 1 ∧
      (∀ i, i < 8 → t.dev.bit (F.LAMP_PHOTO_VAL_STALE i) = true) ∧ t.dev.flash = s.dev.flash ∧
      s.Keeps t (R.LAMP_CAL_STAT :: (List.range 8).map R.LAMP_PHOTO_VAL ++ eventRegs)) ∧
  (∀ (s : State), s.dev.calReady = false ∨ s.dev.photo.run.isSome = true ∨ s.dev.photoInputs = [] ∨ s.dev.calDue = false →
    exec .calRunStart s = .next s) ∧
  (∀ (s : State), s.dev.calReady = true → s.dev.photo.run = none → s.dev.photoInputs ≠ [] → s.dev.calDue = true →
    s.dev.photo.endedAt = none →
    ∃ t, exec .calRunStart s = .next t ∧ t.dev.photo.run.map (·.mask) = some (maskOf s.dev.photoInputs) ∧
      t.dev.get F.LAMP_CAL_STAT_STATE = 1 ∧ s.Keeps t (R.LAMP_CAL_STAT :: (List.range 8).map R.LAMP_PHOTO_VAL ++ eventRegs)) ∧
  (∀ (s : State), s.dev.photo.run = none → exec .calRunEnd s = .next s) ∧
  (∀ (r : PhotoRun) (i : Nat) (s : State), s.dev.photo.run = some r → i < 8 → r.mask.testBit i = true → (s.dev.input i).winB = none →
    (s.dev.input i).windows < s.dev.photoSet F.LAMP_PHOTO_CFG_RUN_MAX → exec .calRunEnd s = .next s) ∧
  (∀ (r : PhotoRun) (i : Nat) (a b : List Rat) (s : State), s.dev.photo.run = some r → i < 8 →
    (∀ j, j < 8 → (r.mask.testBit j = true ↔ j = i)) → (s.dev.input i).winA = some a → (s.dev.input i).winB = some b →
    (s.dev.input i).judge (s.dev.photoSet F.LAMP_PHOTO_CFG_AGREE_PERMILLE) = 1 → s.dev.photoSet F.LAMP_PHOTO_CFG_FB_MODE = 0 →
    s.dev.flash.photoK.length = 8 →
    ∃ t, exec .calRunEnd s = .next t ∧ t.dev.photo.run = none ∧ t.dev.reg (R.LAMP_PHOTO_K i) = acceptedK s.dev.prog.emitters a b ∧
      nth t.dev.flash.photoK i 0 = acceptedK s.dev.prog.emitters a b ∧ t.dev.flash.calOk.testBit i = true ∧
      t.dev.bit (F.LAMP_PHOTO_VAL_CAL_OK i) = true ∧ t.dev.get F.LAMP_CAL_STAT_STATE = 0 ∧ t.dev.get F.LAMP_CAL_STAT_LAST_RESULT = 1 ∧
      t.dev.bit F.LAMP_CAL_STAT_ACCEPTED = true ∧ t.dev.get F.LAMP_CAL_STAT_ACCEPTED_MASK = 2 ^ i ∧ t.dev.reg R.LAMP_CAL_TIME = Word.of s.dev.wallS ∧
      t.dev.flash.runs = satTo 65535 (s.dev.flash.runs + 1) ∧ t.dev.photo.endedAt = none ∧
      s.Keeps t (R.LAMP_PHOTO_K i :: R.LAMP_CAL_STAT :: R.LAMP_CAL_INFO :: R.LAMP_CAL_TZ :: R.LAMP_CAL_TIME ::
        (List.range 8).map R.LAMP_PHOTO_VAL ++ (List.range 12).map R.LAMP_HKA_RAIL ++ eventRegs)) ∧
  (∀ (r : PhotoRun) (i : Nat) (s : State), s.dev.photo.run = some r → i < 8 → (∀ j, j < 8 → (r.mask.testBit j = true ↔ j = i)) →
    (s.dev.input i).winB.isSome = true ∨ s.dev.photoSet F.LAMP_PHOTO_CFG_RUN_MAX ≤ (s.dev.input i).windows →
    (s.dev.input i).judge (s.dev.photoSet F.LAMP_PHOTO_CFG_AGREE_PERMILLE) ≠ 1 →
    ∃ t, exec .calRunEnd s = .next t ∧ t.dev.photo.run = none ∧ t.dev.flash.photoK = s.dev.flash.photoK ∧
      t.dev.flash.calOk = s.dev.flash.calOk ∧ t.dev.get F.LAMP_CAL_STAT_STATE = 0 ∧
      t.dev.get F.LAMP_CAL_STAT_LAST_RESULT = (s.dev.input i).judge (s.dev.photoSet F.LAMP_PHOTO_CFG_AGREE_PERMILLE) ∧
      t.dev.get F.LAMP_CAL_STAT_ACCEPTED_MASK = 0 ∧ t.dev.flash.rejects = satTo 65535 (s.dev.flash.rejects + 1) ∧
      t.dev.flash.runs = s.dev.flash.runs ∧ t.dev.photo.endedAt = some s.dev.now ∧
      s.Keeps t (R.LAMP_CAL_STAT :: R.LAMP_CAL_INFO :: (List.range 8).map R.LAMP_PHOTO_VAL ++ (List.range 12).map R.LAMP_HKA_RAIL ++ eventRegs))

/-! ### Images (ch. 16) -/

/-- IMAGE_LOAD of the device's own takes the image in from DRAM and answers the blocks it will write, or 0 where it is there, or the
refusal its header, its slot or its source brings; to a tile it is relayed, as IMAGE_ACTIVATE is, and a tile's words of it are gathered.
IMAGE_VERIFY answers the slot's state and version, and starts a recheck it is asked for. A load or a recheck that ends well leaves the
slot loaded or verified, one that fails BAD with its reason. IMAGE_ACTIVATE marks a slot pending, clears what is pending for the active
one, or refuses. ATTEST answers a report over the nonce, signed with the next index, and refuses without one. A roll-out stalls with STALL
and ends with its fields cleared; data images that load later are taken up (R452, R464 to R467, R471 to R473, R475, R477, R518, R520). It
rests on the choices of the assumption log 69, 76, 103, 104, 105 and 106. -/
def Obligations.ImagesAndTrust : Prop :=
  (∀ (h : Hdr) (sl cl : Word) (src bytes start : Nat) (ws : List Word) (s : State),
    s.takes h .imageLoad [sl, cl, Word.of src, Word.of bytes] = true → src < 2 ^ 64 → bytes < 2 ^ 64 →
    s.dev.isTile = true ∧ h.orig ≠ 9 ∨ s.dev.isSender = true ∧ (Target.ofNat h.target).scope = 0 → src % 64 = 0 → bytes % 8 = 0 →
    s.dev.memRefusal src bytes = none → s.dev.loadRefusal (Word.field cl 0 8) (Word.field sl 0 1) = none →
    ws = memWords s.mem src (bytes / 8) → s.dev.judgeLoad (Word.field cl 0 8) (Word.field sl 0 1) bytes ws = .ok (some start) →
    Word.field cl 0 8 < s.dev.images.length → (s.dev.cls (Word.field cl 0 8)).slots.length = 2 →
    ∃ t, exec (.imageLoad h sl cl src bytes) s = .next t ∧
      t.Answered (hostCmd h .imageLoad [sl, cl, Word.of src, Word.of bytes]) s.dev.responder .ok 0 [Word.of (imgBlocks ws - start)] ∧
      ((t.dev.cls (Word.field cl 0 8)).slot (Word.field sl 0 1)).state = isLoading ∧
      ((t.dev.cls (Word.field cl 0 8)).slot (Word.field sl 0 1)).words = ws ∧
      t.dev.img.jobs = s.dev.img.jobs ++ [⟨Word.field cl 0 8, Word.field sl 0 1, false, (src, bytes), false, ws, none⟩] ∧
      s.Keeps t (classRegs (Word.field cl 0 8))) ∧
  (∀ (h : Hdr) (sl cl : Word) (src bytes : Nat) (x : Status × Nat) (s : State),
    s.takes h .imageLoad [sl, cl, Word.of src, Word.of bytes] = true → src < 2 ^ 64 → bytes < 2 ^ 64 →
    s.dev.isTile = true ∧ h.orig ≠ 9 ∨ s.dev.isSender = true ∧ (Target.ofNat h.target).scope = 0 →
    ((src % 64 ≠ 0 ∨ bytes % 8 ≠ 0) ∧ x = (.range, 0) ∨
     src % 64 = 0 ∧ bytes % 8 = 0 ∧ s.dev.memRefusal src bytes = some x.1 ∧ x.2 = 0 ∨
     src % 64 = 0 ∧ bytes % 8 = 0 ∧ s.dev.memRefusal src bytes = none ∧
       s.dev.loadRefusal (Word.field cl 0 8) (Word.field sl 0 1) = some x.1 ∧ x.2 = 0 ∨
     src % 64 = 0 ∧ bytes % 8 = 0 ∧ s.dev.memRefusal src bytes = none ∧
       s.dev.loadRefusal (Word.field cl 0 8) (Word.field sl 0 1) = none ∧
       s.dev.judgeLoad (Word.field cl 0 8) (Word.field sl 0 1) bytes (memWords s.mem src (bytes / 8)) = .error x) →
    ∃ t, exec (.imageLoad h sl cl src bytes) s = .next t ∧
      t.Answered (hostCmd h .imageLoad [sl, cl, Word.of src, Word.of bytes]) s.dev.responder x.1 x.2 [] ∧ t.dev.images = s.dev.images ∧
      t.dev.img = s.dev.img ∧ s.Keeps t []) ∧
  (∀ (h : Hdr) (sl cl : Word) (src bytes k p : Nat) (s : State),
    s.takes h .imageLoad [sl, cl, Word.of src, Word.of bytes] = true → src < 2 ^ 64 → bytes < 2 ^ 64 → s.dev.isSender = true →
    (Target.ofNat h.target).scope = 1 → (Target.ofNat h.target).loop = k → (Target.ofNat h.target).position = p →
    src % 64 = 0 → bytes % 8 = 0 → s.dev.memRefusal src bytes = none → s.dev.relayRefusal (Target.ofNat h.target) = none →
    ∃ t r, exec (.imageLoad h sl cl src bytes) s = .next t ∧ t.dev.host.relays = s.dev.host.relays ++ [r] ∧ r.waiting = [(k, p)] ∧
      r.opcode = Op.imageLoad.code ∧ r.seq = h.seq ∧ r.orig = h.orig.val ∧ t.dev.host.kept = s.dev.host.kept ∧ t.dev.images = s.dev.images ∧
      s.Keeps t []) ∧
  (∀ (h : Hdr) (w : Word) (s : State), s.takes h .imageVerify [w] = true → classKnown (imgWord w).2.1 = true →
    s.dev.classRole (imgWord w).2.1 = true → (imgWord w).2.2 = false → (s.dev.isTile = true ∨ (Target.ofNat h.target).scope = 0) →
    ∃ t, exec (.imageVerify h w) s = .next t ∧ s.Reads t (hostCmd h .imageVerify [w])
      [Word.pack [(0, 3, (s.dev.cls (imgWord w).2.1).shown (imgWord w).1), (8, 8, ((s.dev.cls (imgWord w).2.1).slot (imgWord w).1).reason),
         (16, 32, ((s.dev.cls (imgWord w).2.1).slot (imgWord w).1).failBlock)],
       if ((s.dev.cls (imgWord w).2.1).slot (imgWord w).1).state = isEmpty then 0
       else imgVersion ((s.dev.cls (imgWord w).2.1).slot (imgWord w).1).words]) ∧
  (∀ (h : Hdr) (w : Word) (c sl : Nat) (s : State), s.takes h .imageVerify [w] = true → imgWord w = (sl, c, true) → isCode c = true →
    s.dev.classRole c = true → (s.dev.isTile = true ∨ (Target.ofNat h.target).scope = 0) → (∀ j ∈ s.dev.img.jobs, j.cls ≠ c) →
    2 ≤ ((s.dev.cls c).slot sl).state → ((s.dev.cls c).slot sl).state ≤ 4 → c < s.dev.images.length → (s.dev.cls c).slots.length = 2 →
    ∃ t x v, exec (.imageVerify h w) s = .next t ∧ t.Answered (hostCmd h .imageVerify [w]) s.dev.responder .ok 0 [x, v] ∧
      Word.field x 0 3 = isLoaded ∧ v = imgVersion ((s.dev.cls c).slot sl).words ∧ ((t.dev.cls c).slot sl).checking = true ∧
      t.dev.img.jobs = s.dev.img.jobs ++ [⟨c, sl, true, (0, 0), false, [], none⟩] ∧ s.Keeps t (classRegs c)) ∧
  (∀ (h : Hdr) (w : Word) (s : State), s.takes h .imageVerify [w] = true → classKnown (imgWord w).2.1 = false →
    (s.dev.isTile = true ∨ (Target.ofNat h.target).scope = 0) →
    ∃ t, exec (.imageVerify h w) s = .next t ∧ t.Answered (hostCmd h .imageVerify [w]) s.dev.responder .range 0 [] ∧
      t.dev.images = s.dev.images ∧ s.Keeps t []) ∧
  (∀ (h : Hdr) (w : Word) (c sl : Nat) (s : State), s.takes h .imageActivate [w] = true → imgWord w = (sl, c, false) →
    classKnown c = true → s.dev.classRole c = true → (s.dev.isTile = true ∨ (Target.ofNat h.target).scope = 0) →
    (∀ j ∈ s.dev.img.jobs, j.cls = c → j.recheck = true) →
    (s.dev.cls c).active = some sl ∨ activateRefusal s.dev s.otp c sl false = none → c < s.dev.images.length →
    ∃ t, exec (.imageActivate h w) s = .next t ∧ t.Answered (hostCmd h .imageActivate [w]) s.dev.responder .ok 0 [] ∧
      (t.dev.cls c).pending = (if (s.dev.cls c).active = some sl then none else some sl) ∧ (t.dev.cls c).trials = 0 ∧
      (t.dev.cls c).active = (s.dev.cls c).active ∧ (t.dev.cls c).slots = (s.dev.cls c).slots ∧ s.Keeps t (classRegs c)) ∧
  (∀ (h : Hdr) (w : Word) (c sl : Nat) (b : Bool) (x : Status × Nat) (s : State), s.takes h .imageActivate [w] = true →
    imgWord w = (sl, c, b) → classKnown c = true → s.dev.classRole c = true →
    (s.dev.isTile = true ∨ (Target.ofNat h.target).scope = 0) → (∀ j ∈ s.dev.img.jobs, j.cls = c → j.recheck = true) →
    (s.dev.cls c).active ≠ some sl → activateRefusal s.dev s.otp c sl b = some x →
    ∃ t, exec (.imageActivate h w) s = .next t ∧ t.Answered (hostCmd h .imageActivate [w]) s.dev.responder x.1 x.2 [] ∧
      t.dev.images = s.dev.images ∧ s.Keeps t []) ∧
  (∀ (h : Hdr) (w : Word) (c sl : Nat) (s : State), s.takes h .imageActivate [w] = true → imgWord w = (sl, c, true) →
    classKnown c = true → s.dev.classRole c = true → (s.dev.isTile = true ∨ (Target.ofNat h.target).scope = 0) →
    (∀ j ∈ s.dev.img.jobs, j.cls = c → j.recheck = true) →
    (s.dev.cls c).active = some sl ∨ activateRefusal s.dev s.otp c sl true = none →
    s.dev.bootEnv.hkoStable = false → s.straps.role < 3 →
    ∃ t, exec (.imageActivate h w) s = .next t ∧ t.dev.boot = .hko ∧ t.mem = [] ∧ t.dev.bit F.KEEP_RST_CAUSE_CMD = true ∧ t.otp = s.otp ∧
      t.pending = s.pending) ∧
  (∀ (h : Hdr) (w : Word) (c sl k p : Nat) (s : State), s.takes h .imageActivate [w] = true → imgWord w = (sl, c, false) →
    classKnown c = true → c ≠ icFw → s.dev.isSender = true → (Target.ofNat h.target).scope = 1 → (Target.ofNat h.target).loop = k →
    (Target.ofNat h.target).position = p → s.dev.relayRefusal (Target.ofNat h.target) = none →
    ∃ t r, exec (.imageActivate h w) s = .next t ∧ t.dev.host.relays = s.dev.host.relays ++ [r] ∧ r.waiting = [(k, p)] ∧
      r.opcode = Op.imageActivate.code ∧ r.seq = h.seq ∧ t.dev.images = s.dev.images ∧ s.Keeps t []) ∧
  (∀ (h : Hdr) (a b c d : Word) (s : State), s.takes h .attest [a, b, c, d] = true → s.dev.img.nextIndex < 2 ^ 20 →
    ∃ t body, exec (.attest h a b c d) s = .next t ∧ body = reportBody t.dev t.otp [a, b, c, d] [] ∧
      t.Answered (hostCmd h .attest [a, b, c, d]) s.dev.responder .ok 0 (body ++ wordsOf 353 (Config.xmssSign s.dev.img.nextIndex body)) ∧
      t.dev.img.nextIndex = s.dev.img.nextIndex + 1 ∧
      t.otp = { s.otp with xmssBlocks := if s.dev.img.nextIndex = s.otp.xmssBlocks * 256 then s.otp.xmssBlocks + 1 else s.otp.xmssBlocks } ∧
      s.KeepsMem t ∧ s.KeepsRegs t (R.KEEP_KEY_INFO :: R.KEEP_XMSS_INFO :: R.CTRL_BOOT_STAT :: eventRegs)) ∧
  (∀ (h : Hdr) (a b c d : Word) (s : State), s.takes h .attest [a, b, c, d] = true → 2 ^ 20 ≤ s.dev.img.nextIndex →
    ∃ t, exec (.attest h a b c d) s = .next t ∧ t.Answered (hostCmd h .attest [a, b, c, d]) s.dev.responder .state 0x0487 [] ∧
      s.Keeps t []) ∧
  (∀ (e : Fin 2) (off c : Nat) (ws : List Word) (s : State), (∀ j ∈ s.dev.img.jobs, j.cls = c → j.relayed = false) →
    exec (.imageItemRx e off c ws) s = .next s) ∧
  (∀ (e : Fin 2) (off c : Nat) (ws all : List Word) (j : ImgJob) (s : State), s.dev.isTile = true → s.dev.img.jobs = [j] → j.cls = c →
    j.relayed = true → j.recheck = false → off ≤ j.words.length → all = j.withWords off ws →
    j.cmd = none ∨ all.length < 16 ∨ all.length < 16 + imgTableWords (imgBlocks all) →
    ∃ t, exec (.imageItemRx e off c ws) s = .next t ∧ t.dev.img.jobs = [{ j with words := all }] ∧
      (j.cmd = none → c < s.dev.images.length → (s.dev.cls c).slots.length = 2 → j.slot < 2 → ((t.dev.cls c).slot j.slot).words = all) ∧
      t.dev.host = s.dev.host ∧ s.Keeps t (classRegs c)) ∧
  (∀ (e : Fin 2) (off c start : Nat) (ws all : List Word) (j : ImgJob) (q : QCmd) (s : State), s.dev.isTile = true →
    s.dev.img.jobs = [j] → j.cls = c → j.relayed = true → j.recheck = false → off ≤ j.words.length → all = j.withWords off ws →
    j.cmd = some q → 16 ≤ all.length → 16 + imgTableWords (imgBlocks all) ≤ all.length →
    s.dev.judgeLoad c j.slot (nth q.payload 3 0).toNat all = .ok (some start) → c < s.dev.images.length → (s.dev.cls c).slots.length = 2 →
    j.slot < 2 → (s.dev.host.lostReplies.any fun x => q.isFor x.1 x.2.1 x.2.2) = false →
    ∃ t, exec (.imageItemRx e off c ws) s = .next t ∧ t.Answered q s.dev.responder .ok 0 [Word.of (imgBlocks all - start)] ∧
      t.dev.img.jobs = [{ j with words := all, cmd := none }] ∧ ((t.dev.cls c).slot j.slot).state = isLoading ∧ s.Keeps t (classRegs c)) ∧
  (∀ (e : Fin 2) (off c : Nat) (ws all : List Word) (j : ImgJob) (q : QCmd) (x : Status × Nat) (s : State), s.dev.isTile = true →
    s.dev.img.jobs = [j] → j.cls = c → j.relayed = true → j.recheck = false → off ≤ j.words.length → all = j.withWords off ws →
    j.cmd = some q → 16 ≤ all.length → 16 + imgTableWords (imgBlocks all) ≤ all.length →
    s.dev.judgeLoad c j.slot (nth q.payload 3 0).toNat all = .error x →
    (s.dev.host.lostReplies.any fun x => q.isFor x.1 x.2.1 x.2.2) = false →
    ∃ t, exec (.imageItemRx e off c ws) s = .next t ∧ t.Answered q s.dev.responder x.1 x.2 [] ∧ t.dev.img.jobs = [] ∧
      t.dev.images = s.dev.images ∧ s.Keeps t []) ∧
  (∀ (c : Nat) (f x y : Bool) (s : State), (∀ j ∈ s.dev.img.jobs, j.cls ≠ c) →
    exec (.imageLoadDone c f x y) s = .next s ∧ exec (.imageRecheckDone c x y) s = .next s) ∧
  (∀ (c : Nat) (f x y : Bool) (j : ImgJob) (s : State), s.dev.img.jobs = [j] → j.cls = c → j.recheck = false → j.cmd = none →
    c < s.dev.images.length → (s.dev.cls c).slots.length = 2 → j.slot < 2 →
    ∃ t, exec (.imageLoadDone c f x y) s = .next t ∧ t.dev.img.jobs = [] ∧
      ((t.dev.cls c).slot (1 - j.slot)) = ((s.dev.cls c).slot (1 - j.slot)) ∧
      (f = true → s.dev.mc.poisoned = [] → imgWords (isCode c) (imgBlocks j.words) ≤ j.words.length →
        (isCode c = true → checkImage s.dev s.otp c j.words x y = (0, 0)) →
        ((t.dev.cls c).slot j.slot).state = (if isCode c then isVerified else isLoaded) ∧ ((t.dev.cls c).slot j.slot).words = j.words ∧
        ((t.dev.cls c).slot j.slot).done = imgBlocks j.words) ∧
      (f = false ∨ j.words.length < imgWords (isCode c) (imgBlocks j.words) →
        ((t.dev.cls c).slot j.slot).state = isBad ∧ t.dev.get (F.CTRL_IMG_INFO_REASON c) = irFlash) ∧
      (f = true → s.dev.mc.poisoned = [] → imgWords (isCode c) (imgBlocks j.words) ≤ j.words.length → isCode c = true →
        (checkImage s.dev s.otp c j.words x y).1 ≠ 0 → ((t.dev.cls c).slot j.slot).state = isBad ∧
        t.dev.get (F.CTRL_IMG_INFO_REASON c) = (checkImage s.dev s.otp c j.words x y).1) ∧
      s.Keeps t (classRegs c ++ eventRegs)) ∧
  (∀ (c : Nat) (x y : Bool) (j : ImgJob) (s : State), s.dev.img.jobs = [j] → j.cls = c → j.recheck = true →
    c < s.dev.images.length → (s.dev.cls c).slots.length = 2 → j.slot < 2 →
    ∃ t r, exec (.imageRecheckDone c x y) s = .next t ∧ r = checkImage s.dev s.otp c ((s.dev.cls c).slot j.slot).words x y ∧
      t.dev.img.jobs = [] ∧ ((t.dev.cls c).slot j.slot).checking = false ∧
      (r.1 = 0 → ((t.dev.cls c).slot j.slot).state = isVerified) ∧
      (r.1 ≠ 0 → ((t.dev.cls c).slot j.slot).state = isBad ∧ t.dev.get (F.CTRL_IMG_INFO_REASON c) = r.1) ∧
      s.Keeps t (classRegs c ++ eventRegs)) ∧
  (∀ (s : State), s.dev.img.rollout = none → exec .rolloutStall s = .next s ∧ exec .rolloutEnd s = .next s) ∧
  (∀ (s : State), s.dev.img.rollout.isSome = true →
    (∃ t, exec .rolloutStall s = .next t ∧ t.dev.bit F.CTRL_BOOT_STAT_STALL = true ∧ t.dev.img = s.dev.img ∧
      s.Keeps t (R.CTRL_BOOT_STAT :: eventRegs)) ∧
    (∃ t, exec .rolloutEnd s = .next t ∧ t.dev.img.rollout = none ∧ t.dev.get F.CTRL_BOOT_STAT_ROLL_POS = 0x7F ∧
      t.dev.bit F.CTRL_BOOT_STAT_ROLL_SELF = false ∧ s.Keeps t [R.CTRL_BOOT_STAT])) ∧
  (∀ (k p : Nat) (s : State), s.dev.isSender = true → s.dev.hasToken = true → s.dev.service = 2 → s.dev.loopRuns k = true →
    ((s.dev.tileRec k p).any fun x => !x.full) = true →
    ∃ t, exec (.tileFullCatchup k p) s = .next t ∧ (∀ r, t.dev.tileRec k p = some r → r.full = true) ∧ s.Keeps t []) ∧
  (∀ (k p : Nat) (s : State), ((s.dev.tileRec k p).any fun x => !x.full) = false ∨ s.dev.service ≠ 2 →
    exec (.tileFullCatchup k p) s = .next s) ∧
  (∀ (c : Nat) (s : State), s.dev.boot ≠ .up ∨ s.dev.isTile = true ∧ c ≠ icTables ∨ s.dev.isSender = true ∧ c ≠ icSlate ∨
    s.dev.isTile = true ∧ s.dev.img.tablesLoaded = true → exec (.dataImageLoadDone c) s = .next s) ∧
  (∀ (ws : List Word) (s : State), s.dev.boot = .up → s.dev.isTile = true → s.dev.img.tablesLoaded = false →
    (s.dev.useClass s.otp icTables).inUse icTables = some ws →
    ∃ t, exec (.dataImageLoadDone icTables) s = .next t ∧ t.dev.img.tablesLoaded = true ∧ t.dev.get F.LAMP_TBL_EPOCH_EPOCH = imgEpoch ws ∧
      t.dev.get F.LAMP_TBL_EPOCH_FLASH_EPOCH = imgEpoch ws ∧
      t.dev.lamp.held = ((caldbRecords (bodyWords ws).length (bodyWords ws)).map fun r => (r.2.2.1, r.2.2.2)) ∧ t.mem = s.mem ∧ t.otp = s.otp) ∧
  (∀ (ws : List Word) (s : State), s.dev.boot = .up → s.dev.isSender = true → s.MemInv →
    (s.dev.useClass s.otp icSlate).inUse icSlate = some ws →
    ∃ t, exec (.dataImageLoadDone icSlate) s = .next t ∧
      (∀ x, x < (nth (bodyWords ws) 0 0).toNat ∨ (nth (bodyWords ws) 0 0).toNat + (nth (bodyWords ws) 1 0).toNat ≤ x →
        memByte t.mem x = memByte s.mem x) ∧
      ((nth (bodyWords ws) 0 0).toNat % 4096 = 0 →
        (s.dev.useClass s.otp icSlate).memRefusal (nth (bodyWords ws) 0 0).toNat (nth (bodyWords ws) 1 0).toNat = none →
        ∀ i, i < (nth (bodyWords ws) 1 0).toNat → i < (((bodyWords ws).drop 2).flatMap Word.bytes).length →
          memByte t.mem ((nth (bodyWords ws) 0 0).toNat + i) = nth (((bodyWords ws).drop 2).flatMap Word.bytes) i 0) ∧ t.otp = s.otp) ∧
  (∀ (s : State), s.dev.boot ≠ .up ∨ s.dev.isTile = true ∨ s.dev.img.caldbLoaded = true → exec .caldbLoadDone s = .next s) ∧
  (∀ (ws : List Word) (s : State), s.dev.boot = .up → s.dev.isSender = true → s.dev.img.caldbLoaded = false →
    (s.dev.useClass s.otp icCaldb).inUse icCaldb = some ws →
    ∃ t, exec .caldbLoadDone s = .next t ∧ t.dev.img.caldbLoaded = true ∧ t.mem = s.mem ∧ t.otp = s.otp)

/-! ### Lamp lanes (ch. 13) -/

/-- A lane group executes an instruction only where its program holds it: then its address advances by one, or to the branch's target, and
its cycles by the instruction's. SHIFT puts out the next bits of every lane's walk stream, SHIFTK the bits of K, PINS sets the masked
pins, WAIT waits for its event and returns when that has come, TPULSE is driven unless its time is past, SETC and LOOP set and count a
counter, GCLK sets the free clock, RDIAG reads flags, END ends the routine, keeps an upload as complete, hands in what was read and starts
an UPLOAD that waited for SWAP (R377 to R379). It rests on the choices of the assumption log 92 and 93. -/
def Obligations.LaneInstructions : Prop :=
  (∀ (g : Nat) (s : State), s.dev.laneAt g = some .nop →
    ∃ t, exec (.laneNop g) s = .next t ∧
      s.LaneStep t g { s.dev.group g with pc := (s.dev.group g).pc + 1, cycles := (s.dev.group g).cycles + 1 }) ∧
  (∀ (g n : Nat) (s : State), s.dev.laneAt g = some (.shift n) →
    ∃ t bits, exec (.laneShift g n) s = .next t ∧ Out.shift g bits ∈ t.dev.out ∧ bits.length = (nth s.dev.prog.groups g {}).lanes ∧
      (∀ b ∈ bits, b.length = n) ∧
      (∀ l i, l < (nth s.dev.prog.groups g {}).lanes → i < n →
        nth (nth bits l []) i false = s.dev.walkBit g l ((s.dev.group g).stream + i)) ∧
      s.LaneStep t g { s.dev.group g with
        stream := (s.dev.group g).stream + n, pc := (s.dev.group g).pc + 1, cycles := (s.dev.group g).cycles + n }) ∧
  (∀ (g k n : Nat) (s : State), s.dev.laneAt g = some (.shiftk k n) →
    ∃ t bits, exec (.laneShiftK g k n) s = .next t ∧ bits.length = n ∧ (∀ i, i < n → nth bits i false = k.testBit (n - 1 - i)) ∧
      Out.shift g (List.replicate (nth s.dev.prog.groups g {}).lanes bits) ∈ t.dev.out ∧
      s.LaneStep t g { s.dev.group g with pc := (s.dev.group g).pc + 1, cycles := (s.dev.group g).cycles + n }) ∧
  (∀ (g : Nat) (lat blk : Bool) (m : Nat) (c : Bool) (h : Nat) (s : State), s.dev.laneAt g = some (.pins lat blk m c h) →
    ∃ t, exec (.lanePins g lat blk m c h) s = .next t ∧ Out.pins g (t.dev.group g).lat (t.dev.group g).blk h c ∈ t.dev.out ∧
      s.LaneStep t g { s.dev.group g with
        lat := if m.testBit 0 then lat else (s.dev.group g).lat, blk := if m.testBit 1 then blk else (s.dev.group g).blk,
        pc := (s.dev.group g).pc + 1, cycles := (s.dev.group g).cycles + h }) ∧
  (∀ (g e : Nat) (s : State), s.dev.laneAt g = some (.wait e) →
    ∃ t, exec (.laneWait g e) s = .next t ∧ t.dev.laneAt g = none ∧
      s.LaneStep t g { s.dev.group g with waiting := some e, woken := none }) ∧
  (∀ (g e : Nat) (x : Int) (s : State), (s.dev.group g).waiting = some e → (s.dev.group g).woken = some x →
    ∃ t, exec (.waitEventReturn g) s = .next t ∧
      s.LaneStep t g { s.dev.group g with waiting := none, woken := none, base := x, pc := (s.dev.group g).pc + 1 }) ∧
  (∀ (g : Nat) (s : State), (s.dev.group g).waiting = none ∨ (s.dev.group g).woken = none → exec (.waitEventReturn g) s = .next s) ∧
  (∀ (g p : Nat) (l : Bool) (o w : Nat) (s : State), s.dev.laneAt g = some (.tpulse p l o w) →
    (s.dev.wallPs : Int) ≤ (s.dev.group g).base + (2500 * o : Nat) →
    ∃ t, exec (.laneTPulse g p l o w) s = .next t ∧
      Out.pulse g p l ((s.dev.group g).base + (2500 * o : Nat) + 1250) (2500 * w : Nat) ∈ t.dev.out ∧
      s.LaneStep t g { s.dev.group g with pc := (s.dev.group g).pc + 1, cycles := (s.dev.group g).cycles + 1 }) ∧
  (∀ (g p : Nat) (l : Bool) (o w : Nat) (s : State), s.dev.laneAt g = some (.tpulse p l o w) →
    (s.dev.group g).base + (2500 * o : Nat) < (s.dev.wallPs : Int) →
    ∃ t, exec (.laneTPulse g p l o w) s = .next t ∧ t.dev.bit F.LAMP_DRV_STAT_TPULSE_LATE = true ∧ t.dev.out = s.dev.out ∧
      t.dev.group g = { s.dev.group g with pc := (s.dev.group g).pc + 1, cycles := (s.dev.group g).cycles + 1 } ∧
      s.Keeps t [R.LAMP_DRV_STAT]) ∧
  (∀ (g c v : Nat) (s : State), s.dev.laneAt g = some (.setc c v) →
    ∃ t, exec (.laneSetC g c v) s = .next t ∧
      s.LaneStep t g { s.dev.group g with
        counters := modifyNth (s.dev.group g).counters c (fun _ => v), pc := (s.dev.group g).pc + 1, cycles := (s.dev.group g).cycles + 1 }) ∧
  (∀ (g c x v : Nat) (s : State), s.dev.laneAt g = some (.loop c x) → nth (s.dev.group g).counters c 0 = v + 1 →
    ∃ t, exec (.laneLoop g c x) s = .next t ∧
      s.LaneStep t g { s.dev.group g with
        counters := modifyNth (s.dev.group g).counters c (fun _ => v), pc := if v = 0 then (s.dev.group g).pc + 1 else x,
        cycles := (s.dev.group g).cycles + 1 }) ∧
  (∀ (g c x : Nat) (s : State), s.dev.laneAt g = some (.loop c x) → nth (s.dev.group g).counters c 0 = 0 →
    ∃ t v, exec (.laneLoop g c x) s = .next t ∧ v < 2 ^ 20 ∧
      s.LaneStep t g { s.dev.group g with
        counters := modifyNth (s.dev.group g).counters c (fun _ => v), pc := if v = 0 then (s.dev.group g).pc + 1 else x,
        cycles := (s.dev.group g).cycles + 1 }) ∧
  (∀ (g x : Nat) (s : State), s.dev.laneAt g = some (.jump x) →
    ∃ t, exec (.laneJump g x) s = .next t ∧
      s.LaneStep t g { s.dev.group g with pc := x, cycles := (s.dev.group g).cycles + 1 }) ∧
  (∀ (g x : Nat) (s : State), s.dev.laneAt g = some (.gclk x) →
    ∃ t, exec (.laneGclk g x) s = .next t ∧ Out.gclk g x ∈ t.dev.out ∧
      s.LaneStep t g { s.dev.group g with gclk := x, pc := (s.dev.group g).pc + 1, cycles := (s.dev.group g).cycles + 1 }) ∧
  (∀ (g : Nat) (fs : List Bool) (s : State), s.dev.laneAt g = some (.rdiag fs.length) →
    ∃ t, exec (.laneRdiag g fs) s = .next t ∧
      s.LaneStep t g { s.dev.group g with
        read := (s.dev.group g).read + fs.length, flags := (s.dev.group g).flags ++ fs, pc := (s.dev.group g).pc + 1,
        cycles := (s.dev.group g).cycles + fs.length }) ∧
  (∀ (g : Nat) (s : State), s.dev.laneAt g = some .stop → s.dev.groupSeen g = [] →
    (s.dev.group g).owed = none ∨ (s.dev.group g).routine ≠ lrSwap →
    ∃ t, exec (.laneEnd g) s = .next t ∧
      s.LaneStep t g { s.dev.group g with
        routine := lrIdle, done := if (s.dev.group g).routine = lrUpload then (s.dev.group g).up else (s.dev.group g).done,
        cycles := (s.dev.group g).cycles + 1, flags := [] }) ∧
  (∀ (g n k : Nat) (x : Int) (s : State), s.dev.laneAt g = some .stop → s.dev.groupSeen g = [] → (s.dev.group g).owed = some (n, k, x) →
    (s.dev.group g).routine = lrSwap →
    ∃ t, exec (.laneEnd g) s = .next t ∧ (t.dev.group g).routine = lrUpload ∧ (t.dev.group g).pc = s.dev.prog.eUpload ∧
      (t.dev.group g).up.map (fun u => (u.frame, u.slot)) = some (n, k) ∧ (t.dev.group g).owed = none ∧
      (∀ j, j ≠ g → t.dev.group j = s.dev.group j) ∧ s.Keeps t []) ∧
  (∀ (g h : Nat) (s : State), s.dev.laneAt g = some .stop → s.dev.groupSeen g ≠ [] → s.dev.lamp.reads = [] → h ∈ s.dev.groupsUsed → h ≠ g →
    (s.dev.group g).owed = none →
    ∃ t, exec (.laneEnd g) s = .next t ∧ t.dev.lamp.reads = [(g, s.dev.groupSeen g)] ∧ (t.dev.group g).routine = lrIdle ∧
      (t.dev.group g).flags = [] ∧ (∀ j, j ≠ g → t.dev.group j = s.dev.group j) ∧ s.Keeps t []) ∧
  (∀ (g n k m c v x p l o h : Nat) (a b d : Bool) (fs : List Bool) (s : State), s.dev.laneAt g = none →
    exec (.laneNop g) s = .next s ∧ exec (.laneShift g n) s = .next s ∧ exec (.laneShiftK g k n) s = .next s ∧
    exec (.lanePins g a b m d h) s = .next s ∧ exec (.laneWait g l) s = .next s ∧ exec (.laneTPulse g p a o n) s = .next s ∧
    exec (.laneSetC g c v) s = .next s ∧ exec (.laneLoop g c x) s = .next s ∧ exec (.laneJump g x) s = .next s ∧
    exec (.laneGclk g n) s = .next s ∧ exec (.laneRdiag g fs) s = .next s ∧ exec (.laneEnd g) s = .next s)

/-- What happens to a slot's lanes: its upload starts on idle groups and waits for a SWAP that runs; at its start a group whose upload
reached END shows it, another is blank for the slot with UPLOAD_LATE; a PWM cycle raises the reference of a rail with too little headroom;
a line boundary selects its line, or none where it is dead or after the last; a proof visit starts on idle groups, or is missed; an
emitter that is due is entered, one due again counts as unverified, and one unverified too long sets COVERAGE_LOW; on dark lamps none of
it happens (R382, R383, R386, R387, R392, R398, R400, R401, R403). It rests on the choices of the assumption log 93, 95 and 98. -/
def Obligations.LaneEvents : Prop :=
  (∀ (n k c l : Nat) (xs : List (List Nat)) (s : State), s.dev.lampsRun = false ∨ s.dev.slotLit n k = false →
    exec (.slotUpload n k) s = .next s ∧ exec (.slotSwap n k) s = .next s ∧ exec (.pwmCycleStart n k c xs) s = .next s ∧
    exec (.lineBoundary n k c l) s = .next s) ∧
  (∀ (n k : Nat) (s : State), s.dev.lampsRun = true → s.dev.slotLit n k = true → s.dev.lamp.groups.length = 16 →
    ∃ t, exec (.slotUpload n k) s = .next t ∧
      (∀ g ∈ s.dev.groupsUsed, (s.dev.group g).routine = lrIdle →
        (t.dev.group g).routine = lrUpload ∧ (t.dev.group g).pc = s.dev.prog.eUpload ∧
        (t.dev.group g).up.map (fun u => (u.frame, u.slot)) = some (n, k)) ∧
      (∀ g ∈ s.dev.groupsUsed, (s.dev.group g).routine = lrSwap →
        (t.dev.group g).routine = lrSwap ∧ (t.dev.group g).owed.map (fun x => (x.1, x.2.1)) = some (n, k)) ∧
      (∀ g, (s.dev.group g).routine = lrUpload ∨ (s.dev.group g).routine = lrProof → (t.dev.group g).up = (s.dev.group g).up) ∧
      s.Keeps t []) ∧
  (∀ (n k : Nat) (s : State), s.dev.lampsRun = true → s.dev.slotLit n k = true → s.dev.lamp.groups.length = 16 →
    ∃ t, exec (.slotSwap n k) s = .next t ∧ t.dev.lamp.slot = some k ∧ t.dev.lamp.line = none ∧ t.dev.lamp.seqBlank = true ∧
      (∀ g ∈ s.dev.groupsUsed, ((s.dev.group g).done.any fun u => u.frame == n && u.slot == k) = true →
        (t.dev.group g).late = false ∧ (t.dev.group g).on = (s.dev.group g).done ∧ (t.dev.get F.LAMP_DRV_STAT_LATE_GRP).testBit g = false) ∧
      (∀ g ∈ s.dev.groupsUsed, ((s.dev.group g).done.any fun u => u.frame == n && u.slot == k) = false →
        (t.dev.group g).late = true ∧ (t.dev.group g).on = (s.dev.group g).on ∧ (t.dev.get F.LAMP_DRV_STAT_LATE_GRP).testBit g = true ∧
        t.dev.bit F.LAMP_DRV_STAT_UPLOAD_LATE = true) ∧
      (∀ g ∈ s.dev.groupsUsed, (s.dev.group g).routine ≤ lrUpload →
        (t.dev.group g).routine = lrSwap ∧ (t.dev.group g).pc = s.dev.prog.eSwap) ∧
      s.Keeps t (R.LAMP_DRV_STAT :: eventRegs)) ∧
  (∀ (n k c : Nat) (xs : List (List Nat)) (s : State), s.dev.pwmN k ≤ c → exec (.pwmCycleStart n k c xs) s = .next s) ∧
  (∀ (n k c : Nat) (xs : List (List Nat)) (s : State), s.dev.lampsRun = true → s.dev.slotLit n k = true → c < s.dev.pwmN k →
    ∃ t, exec (.pwmCycleStart n k c xs) s = .next t ∧ t.dev.lamp.skip = [] ∧
      (∀ r, r < 12 → s.dev.railState r = rsGood → s.dev.railMode r = 1 → s.dev.bit (F.LAMP_RAIL_CFG_HR_EN r) = true →
        (∃ x ∈ nth xs r [], x < s.dev.get (F.LAMP_RAIL_CFG_HR_MV r)) →
        s.dev.get (F.LAMP_RAIL_STAT_REF r) < s.dev.get (F.LAMP_RAIL_LIM_VMAX_MV r) →
        t.dev.get (F.LAMP_RAIL_STAT_REF r) = s.dev.get (F.LAMP_RAIL_STAT_REF r) + 1) ∧
      (∀ r, r < 12 → s.dev.railState r ≠ rsGood ∨ s.dev.railMode r ≠ 1 ∨ s.dev.bit (F.LAMP_RAIL_CFG_HR_EN r) = false ∨ nth xs r [] = [] →
        t.dev.reg (R.LAMP_RAIL_STAT r) = s.dev.reg (R.LAMP_RAIL_STAT r)) ∧
      s.Keeps t ((List.range 12).map R.LAMP_RAIL_STAT ++ eventRegs)) ∧
  (∀ (n k c l : Nat) (s : State), s.dev.pwmN k ≤ c ∨ s.dev.prog.lines < l → exec (.lineBoundary n k c l) s = .next s) ∧
  (∀ (n k c : Nat) (s : State), s.dev.lampsRun = true → s.dev.slotLit n k = true → c < s.dev.pwmN k →
    ∃ t, exec (.lineBoundary n k c s.dev.prog.lines) s = .next t ∧ t.dev.lamp.line = none ∧ t.dev.lamp.slot = none ∧
      t.dev.lamp.seqBlank = true ∧ s.Keeps t []) ∧
  (∀ (n k c l : Nat) (s : State), s.dev.lampsRun = true → s.dev.slotLit n k = true → c < s.dev.pwmN k → l < s.dev.prog.lines →
    ∃ t es, exec (.lineBoundary n k c l) s = .next t ∧ t.dev.lamp.slot = some k ∧
      Out.scan l (s.dev.prog.scanLevels s.dev.free t.dev.lamp.line) es ∈ t.dev.out ∧
      (l ∉ s.dev.lamp.deadLines → l ∉ s.dev.lamp.skip → t.dev.lamp.line = some l ∧ t.dev.lamp.seqBlank = false) ∧
      (l ∈ s.dev.lamp.deadLines ∨ l ∈ s.dev.lamp.skip → t.dev.lamp.line = none ∧ t.dev.lamp.seqBlank = true) ∧ s.Keeps t []) ∧
  (∀ (x : Int) (s : State), s.dev.lampsRun = false ∨ s.dev.prog.proofNs = 0 ∨ s.dev.prog.rb = false ∨
    s.dev.bit F.LAMP_FAULT_CFG_PROOF_EN = false ∨ s.dev.proofPlace x = false ∨ s.dev.nextProof = none →
    exec (.proofVisit x) s = .next s) ∧
  (∀ (x : Int) (l g : Nat) (s : State), s.dev.lampsRun = true → s.dev.prog.proofNs ≠ 0 → s.dev.prog.rb = true →
    s.dev.bit F.LAMP_FAULT_CFG_PROOF_EN = true → s.dev.proofPlace x = true → s.dev.nextProof = some l → g ∈ s.dev.groupsUsed →
    (s.dev.group g).routine = lrUpload ∨ (s.dev.group g).routine = lrSwap →
    ∃ t, exec (.proofVisit x) s = .next t ∧
      t.dev.get F.LAMP_DIAG_CNT_PROOF_MISSED = satTo 65535 (s.dev.get F.LAMP_DIAG_CNT_PROOF_MISSED + 1) ∧
      t.dev.lamp = { s.dev.lamp with proofFrame := some (s.dev.frameOfEdge x) } ∧ s.Keeps t [R.LAMP_DIAG_CNT]) ∧
  (∀ (x : Int) (l : Nat) (s : State), s.dev.lampsRun = true → s.dev.prog.proofNs ≠ 0 → s.dev.prog.rb = true →
    s.dev.bit F.LAMP_FAULT_CFG_PROOF_EN = true → s.dev.proofPlace x = true → s.dev.nextProof = some l →
    s.dev.lamp.groups.length = 16 →
    (∀ g ∈ s.dev.groupsUsed, (s.dev.group g).routine ≠ lrUpload ∧ (s.dev.group g).routine ≠ lrSwap) →
    ∃ t, exec (.proofVisit x) s = .next t ∧ t.dev.lamp.proofLine = l ∧ t.dev.lamp.line = some l ∧
      (∀ g ∈ s.dev.groupsUsed, (s.dev.group g).routine = lrIdle →
        (t.dev.group g).routine = lrProof ∧ (t.dev.group g).pc = s.dev.prog.eProof ∧ (t.dev.group g).line = l) ∧ s.Keeps t []) ∧
  (∀ (j e : Nat) (s : State), s.dev.lampsLit = false ∨ s.dev.tileN ≤ j ∨ e ∉ s.dev.prog.emitters ∨ inMap s.dev.flash.map j e = true →
    exec (.proofDue j e) s = .next s) ∧
  (∀ (j e : Nat) (s : State), s.dev.lampsLit = true → j < s.dev.tileN → e ∈ s.dev.prog.emitters → inMap s.dev.flash.map j e = false →
    ∃ t, exec (.proofDue j e) s = .next t ∧ t.dev.isDue j e = true ∧
      (s.dev.isDue j e = false → (4 * j + e, s.dev.litNow) ∈ t.dev.lamp.due) ∧
      (s.dev.isDue j e = true ∨ s.dev.bit F.LAMP_FAULT_CFG_PROOF_EN = false ∨ s.dev.prog.proofNs = 0 ∨ s.dev.prog.rb = false →
        (t.dev.lamp.unverified.any fun v => v.1 == 4 * j + e) = true) ∧
      (s.dev.isDue j e = false → s.dev.bit F.LAMP_FAULT_CFG_PROOF_EN = true → s.dev.prog.proofNs ≠ 0 → s.dev.prog.rb = true →
        t.dev.lamp.unverified = s.dev.lamp.unverified) ∧ s.Keeps t [R.LAMP_DIAG_CNT]) ∧
  (∀ (j e : Nat) (s : State), (s.dev.lamp.unverified.any fun v => v.1 == 4 * j + e) = true → s.dev.bit F.LAMP_DIAG_STAT_COVERAGE_LOW = false →
    ∃ t, exec (.coverageLow j e) s = .next t ∧ t.dev.bit F.LAMP_DIAG_STAT_COVERAGE_LOW = true ∧ t.dev.lamp = s.dev.lamp ∧
      s.Keeps t (R.LAMP_DIAG_STAT :: eventRegs)) ∧
  (∀ (j e : Nat) (s : State), (s.dev.lamp.unverified.any fun v => v.1 == 4 * j + e) = false ∨ s.dev.bit F.LAMP_DIAG_STAT_COVERAGE_LOW = true →
    exec (.coverageLow j e) s = .next s)

/-! ### Whole machine -/

/-- After reset DRAM is in its canonical form, nothing is listed in it, and every list of units has its length. The form is the model's
own: R131 says what unwritten DRAM reads as. It rests on the choices of the assumption log 4 and 5. -/
def Obligations.ResetHasInvariants : Prop :=
  State.reset.MemInv ∧ State.reset.dev.Shape ∧ State.reset.mem = [] ∧ State.reset.pending = []

/-- Every step that answers a next state keeps DRAM's canonical form: from every state that has it, whatever command is at the front. It
rests on the choices of the assumption log 5. -/
def Obligations.StepsKeepMemoryForm : Prop := ∀ (s t : State), s.MemInv → step s = .next t → t.MemInv

/-- Every step that answers a next state keeps the lengths of the lists that stand for units of a fixed number (R4, R20): what other statements
assume of a state holds on every run from a state that has it. -/
def Obligations.StepsKeepShape : Prop := ∀ (s t : State), s.dev.Shape → step s = .next t → t.dev.Shape

/-- A lane program's instruction is read back from its word whole: every operand at every value its field admits (R377). -/
def Obligations.LaneWordsDecode : Prop := ∀ (i : LaneOp), i.wf = true → LaneOp.decode i.encode = some i ∧ i.encode < 2 ^ 32
end

