-- ==== Sys2Proof/Laws/Words.lean ====
section
/-!
SUPPORT. Laws of words: a field reads what was last written to it, and a write leaves the bits outside its field.
-/
namespace Sys2Proof

theorem Word.getLsbD_mask (lo width i : Nat) :
    (Word.mask lo width).getLsbD i = (decide (i < 64) && decide (lo ≤ i) && decide (i < lo + width)) := by
  simp only [Word.mask, BitVec.getLsbD_ofNat, Nat.testBit_shiftLeft, Nat.testBit_two_pow_sub_one]
  by_cases h1 : i < 64 <;> by_cases h2 : lo ≤ i <;> by_cases h3 : i < lo + width <;> simp [h1, h2, h3] <;> omega

theorem Word.getLsbD_setField (w : Word) (lo width v i : Nat) :
    (Word.setField w lo width v).getLsbD i =
      if lo ≤ i ∧ i < lo + width then decide (i < 64) && v.testBit (i - lo) else w.getLsbD i := by
  simp only [Word.setField, BitVec.getLsbD_or, BitVec.getLsbD_and, BitVec.getLsbD_not, Word.getLsbD_mask, BitVec.getLsbD_ofNat,
    Nat.testBit_shiftLeft, Nat.testBit_mod_two_pow]
  by_cases h1 : i < 64
  · by_cases h2 : lo ≤ i <;> by_cases h3 : i < lo + width <;> simp [h1, h2, h3] <;> omega
  · have : w.getLsbD i = false := BitVec.getLsbD_of_ge w i (by omega)
    simp [h1, this]

theorem Word.testBit_field (w : Word) (lo width i : Nat) :
    (Word.field w lo width).testBit i = (decide (i < width) && w.getLsbD (lo + i)) := by
  simp [Word.field, Nat.testBit_mod_two_pow, Nat.testBit_shiftRight, BitVec.testBit_toNat]

/-- A field reads the low bits of what was written to it. -/
theorem Word.field_setField_same (w : Word) (lo width v : Nat) (h : lo + width ≤ 64) :
    Word.field (Word.setField w lo width v) lo width = v % 2 ^ width := by
  apply Nat.eq_of_testBit_eq
  intro i
  rw [Word.testBit_field, Word.getLsbD_setField, Nat.testBit_mod_two_pow]
  by_cases h1 : i < width
  · have h3 : lo + i < 64 := by omega
    simp [h1, h3]
  · simp [h1]

/-- A write to one field leaves every field outside it. -/
theorem Word.field_setField_ne (w : Word) (lo width v lo' width' : Nat) (h : lo + width ≤ lo' ∨ lo' + width' ≤ lo) :
    Word.field (Word.setField w lo width v) lo' width' = Word.field w lo' width' := by
  apply Nat.eq_of_testBit_eq
  intro i
  rw [Word.testBit_field, Word.testBit_field, Word.getLsbD_setField]
  by_cases h1 : i < width'
  · have : ¬ (lo ≤ lo' + i ∧ lo' + i < lo + width) := by omega
    simp [h1, this]
  · simp [h1]

theorem Word.field_lt (w : Word) (lo width : Nat) : Word.field w lo width < 2 ^ width := Nat.mod_lt _ (Nat.two_pow_pos _)

theorem Word.field_zero (lo width : Nat) : Word.field 0 lo width = 0 := by simp [Word.field]

end Sys2Proof
end

