-- ==== Sys2Proof/Laws/Registers.lean ====
section
/-!
SUPPORT. Laws of registers and fields: what a load changes, and that it changes nothing else.
-/
namespace Sys2Proof.Machine

open Sys2Proof

/-! ### Sparse maps -/

@[simp] theorem lookupWord_putWord_same (a : Nat) (w : Word) (m : List (Nat × Word)) : lookupWord a (putWord a w m) = some w := by
  induction m with
  | nil => simp [putWord, lookupWord]
  | cons x rest ih =>
    obtain ⟨k, v⟩ := x
    by_cases h1 : a < k
    · simp [putWord, lookupWord, h1]
    · by_cases h2 : k = a
      · simp [putWord, lookupWord, h2]
      · simp [putWord, lookupWord, h1, h2, ih]

@[simp] theorem lookupWord_putWord_ne (a b : Nat) (w : Word) (m : List (Nat × Word)) (h : b ≠ a) :
    lookupWord b (putWord a w m) = lookupWord b m := by
  induction m with
  | nil => simp [putWord, lookupWord, Ne.symm h]
  | cons x rest ih =>
    obtain ⟨k, v⟩ := x
    by_cases h1 : a < k
    · simp [putWord, lookupWord, h1, Ne.symm h]
    · by_cases h2 : k = a
      · subst h2
        simp [putWord, lookupWord, Ne.symm h]
      · by_cases h3 : k = b
        · subst h3
          simp [putWord, lookupWord, h1, h2]
        · simp [putWord, lookupWord, h1, h2, h3, ih]

/-! ### Registers -/

@[simp] theorem Dev.reg_setReg_same (d : Dev) (a : Nat) (w : Word) : (d.setReg a w).reg a = w := by
  simp [Dev.reg, Dev.setReg]

@[simp] theorem Dev.reg_setReg_ne (d : Dev) (a b : Nat) (w : Word) (h : b ≠ a) : (d.setReg a w).reg b = d.reg b := by
  simp [Dev.reg, Dev.setReg, h]

theorem Dev.reg_set_same (d : Dev) (f : Fld) (v : Nat) :
    (d.set f v).reg f.addr = Word.setField (d.reg f.addr) f.lo f.width v := by
  simp [Dev.set]

/-- A field load leaves every other register. -/
@[simp] theorem Dev.reg_set_ne (d : Dev) (f : Fld) (v b : Nat) (h : b ≠ f.addr) : (d.set f v).reg b = d.reg b := by
  simp [Dev.set, h]

/-! ### Fields -/

/-- A field reads the low bits of what it was loaded with. -/
@[simp] theorem Dev.get_set_same (d : Dev) (f : Fld) (v : Nat) (h : f.lo + f.width ≤ 64) : (d.set f v).get f = v % 2 ^ f.width := by
  simp [Dev.get, Dev.set, Word.field_setField_same, h]

/-- Two fields that share no bit. -/
def Fld.apart (f g : Fld) : Bool := f.addr != g.addr || decide (f.lo + f.width ≤ g.lo) || decide (g.lo + g.width ≤ f.lo)

/-- A field load leaves every field that shares no bit with it. -/
theorem Dev.get_set_apart (d : Dev) (f g : Fld) (v : Nat) (h : f.apart g = true) : (d.set f v).get g = d.get g := by
  by_cases ha : g.addr = f.addr
  · simp only [Fld.apart, ha, bne_self_eq_false, Bool.false_or, Bool.or_eq_true, decide_eq_true_eq] at h
    simp only [Dev.get, Dev.set, ha, Dev.reg_setReg_same]
    exact Word.field_setField_ne _ _ _ _ _ _ h
  · simp [Dev.get, Dev.set, ha]

theorem Dev.get_of_reg_eq {d d' : Dev} {f : Fld} (h : d'.reg f.addr = d.reg f.addr) : d'.get f = d.get f := by
  simp [Dev.get, h]

theorem Dev.bit_of_reg_eq {d d' : Dev} {f : Fld} (h : d'.reg f.addr = d.reg f.addr) : d'.bit f = d.bit f := by
  simp [Dev.bit, Dev.get_of_reg_eq h]

/-! ### Several loads -/

@[simp] theorem Dev.setAll_nil (d : Dev) : d.setAll [] = d := rfl
@[simp] theorem Dev.setAll_cons (d : Dev) (x : Fld × Nat) (l : List (Fld × Nat)) : d.setAll (x :: l) = (d.set x.1 x.2).setAll l := rfl

/-- Several loads leave every register none of them names. -/
theorem Dev.reg_setAll_ne (l : List (Fld × Nat)) : ∀ (d : Dev) (b : Nat), (∀ x ∈ l, b ≠ x.1.addr) → (d.setAll l).reg b = d.reg b := by
  induction l with
  | nil => intro d b _; rfl
  | cons x l ih =>
    intro d b h
    rw [Dev.setAll_cons, ih _ _ fun y hy => h y (List.mem_cons_of_mem _ hy)]
    exact Dev.reg_set_ne _ _ _ _ (h x List.mem_cons_self)

/-! ### Loads by flags, conditions, counts -/

@[simp] theorem Dev.raiseFlag_eq (d : Dev) (f : Fld) : d.raiseFlag f = d.set f 1 := rfl
@[simp] theorem Dev.setBit_eq (d : Dev) (f : Fld) (b : Bool) : d.setBit f b = d.set f b.toNat := rfl

end Sys2Proof.Machine
end

