-- ==== Sys2Proof/Laws/Talk.lean ====
section
/-!
SUPPORT. What talking to the outside can change: sending a packet, raising a vector, raising an event or replying touches the
host paths, the link's queues and the record of outputs, and of the registers at most two status registers.
-/
namespace Sys2Proof.Machine

open Sys2Proof

/-- Nothing but the host paths, the link, the outputs and two status registers differs. -/
structure Dev.Talk (d e : Dev) : Prop where
  rest : e = { d with regs := e.regs, host := e.host, link := e.link, out := e.out }
  regs : ∀ a, a ≠ R.CTRL_CMD_STAT → a ≠ R.KEEP_SAFE_STAT → e.reg a = d.reg a

theorem Dev.Talk.refl (d : Dev) : d.Talk d := ⟨rfl, fun _ _ _ => rfl⟩

theorem Dev.Talk.trans {d e f : Dev} (h : d.Talk e) (g : e.Talk f) : d.Talk f :=
  ⟨by rw [g.rest, h.rest], fun a x y => (g.regs a x y).trans (h.regs a x y)⟩

/-- Nothing but the host paths, the link and the outputs differs. -/
def Dev.Sends (d e : Dev) : Prop := e = { d with host := e.host, link := e.link, out := e.out }

theorem Dev.Sends.refl (d : Dev) : d.Sends d := rfl

theorem Dev.Sends.trans {d e f : Dev} (h : d.Sends e) (g : e.Sends f) : d.Sends f := by
  unfold Dev.Sends at *
  rw [g, h]

theorem Dev.Sends.regs {d e : Dev} (h : d.Sends e) : e.regs = d.regs := by
  unfold Dev.Sends at h
  rw [h]

theorem Dev.Sends.reg {d e : Dev} (h : d.Sends e) (a : Nat) : e.reg a = d.reg a := by simp [Dev.reg, h.regs]

/-- Changes that leave the registers. -/
theorem Dev.Talk.of {d e : Dev} (h : d.Sends e) : d.Talk e :=
  ⟨by unfold Dev.Sends at h; rw [h], fun a _ _ => h.reg a⟩

theorem Dev.sends_emit (d : Dev) (o : Out) : d.Sends (d.emit o) := rfl
theorem Dev.sends_onPcie (d : Dev) (q : Nat) (f : PcieQ → PcieQ) : d.Sends (d.onPcie q f) := rfl
theorem Dev.sends_onHost (d : Dev) (f : HostPaths → HostPaths) : d.Sends (d.onHost f) := rfl
theorem Dev.sends_queueReply (d : Dev) (c : Nat) (b : List Word) : d.Sends (d.queueReply c b) := rfl

theorem Dev.sends_msix (d : Dev) (v : Nat) : d.Sends (d.msix v) := by
  unfold Dev.msix
  dsimp only
  repeat' split
  all_goals rfl

theorem Dev.sends_pcieStall (d : Dev) (q : Nat) : d.Sends (d.pcieStall q) := by
  unfold Dev.pcieStall
  dsimp only
  split
  · exact (sends_onPcie d q _).trans (sends_msix _ _)
  · exact sends_onPcie d q _

theorem Dev.sends_pciePut (d : Dev) (q : Nat) (ws : List Word) : d.Sends (d.pciePut q ws) :=
  (((sends_onPcie d q _).trans (sends_emit _ _)).trans (sends_msix _ _)).trans (sends_pcieStall _ _)

theorem Dev.sends_pcieReply (d : Dev) (q : Nat) (ws : List Word) : d.Sends (d.pcieReply q ws) := by
  unfold Dev.pcieReply
  dsimp only
  repeat' split
  · exact .refl d
  · exact sends_pciePut d q ws
  · exact (sends_onPcie d q _).trans (sends_pcieStall _ _)

/-- Sending a packet. -/
theorem Dev.sends_sendTo (d : Dev) (o : Nat) (ws : List Word) : d.Sends (d.sendTo o ws) := by
  unfold Dev.sendTo
  repeat' split
  all_goals first
    | exact sends_pcieReply d o ws
    | exact sends_emit d _
    | exact sends_queueReply d _ _
    | rfl

theorem Dev.sends_foldl {α : Type} (f : Dev → α → Dev) (hf : ∀ (d : Dev) (x : α), d.Sends (f d x)) (l : List α) :
    ∀ d : Dev, d.Sends (l.foldl f d) := by
  induction l with
  | nil => exact fun d => .refl d
  | cons x l ih => exact fun d => (hf d x).trans (ih _)

/-- Replying to a command (R49, R52). -/
theorem Dev.sends_replyFrom (d : Dev) (q : QCmd) (r s dt : Nat) (more : Bool) (p : List Word) : d.Sends (d.replyFrom q r s dt more p) := by
  unfold Dev.replyFrom
  dsimp only
  repeat' split
  all_goals first
    | rfl
    | exact sends_foldl _ (fun d x => sends_sendTo d _ x) _ _
    | exact (sends_foldl _ (fun d x => sends_sendTo d _ x) _ _).trans rfl

theorem Dev.sends_reply (d : Dev) (q : QCmd) (st : Status) (dt : Nat) (p : List Word) : d.Sends (d.reply q st dt p) :=
  sends_replyFrom _ _ _ _ _ _ _

theorem Dev.sends_answer (d : Dev) (q : QCmd) (a : Answer) : d.Sends (d.answer q a) := by
  cases a
  · exact sends_reply _ _ _ _ _
  · rfl
  · rfl

theorem Dev.talk_putEvent (d : Dev) (o : Nat) (ws : List Word) : d.Talk (d.putEvent o ws) := by
  unfold Dev.putEvent
  split
  · refine .trans ?_ (.of (sends_msix _ _))
    refine .trans ?_ (.of (sends_emit _ _))
    exact .of rfl
  · exact .of (sends_sendTo d o ws)

theorem Dev.talk_holdEvent (d e : Dev) (o : Nat) (ws : List Word) (h : d.holdEvent o ws = some e) : d.Talk e := by
  unfold Dev.holdEvent at h
  repeat' split at h
  all_goals simp only [Option.some.injEq, reduceCtorEq] at h
  all_goals
    subst h
    exact .of rfl

theorem Dev.talk_deliverLost (d : Dev) (o : Nat) : d.Talk (d.deliverLost o) := by
  unfold Dev.deliverLost
  dsimp only
  split
  · exact .refl d
  · refine .trans ?_ (talk_putEvent _ _ _)
    exact .of rfl

theorem Dev.talk_lostFlag (d : Dev) (f : HostPaths → HostPaths) :
    d.Talk { d.raiseFlag F.CTRL_CMD_STAT_EVENT_LOST with host := f d.host } :=
  ⟨rfl, fun a h _ => Dev.reg_set_ne d _ _ a h⟩

theorem Dev.talk_deliverEvent (d : Dev) (o : Nat) (ws : List Word) : d.Talk (d.deliverEvent o ws) := by
  unfold Dev.deliverEvent
  dsimp only
  split
  · exact (talk_deliverLost d o).trans (talk_putEvent _ _ _)
  · split
    · next e h =>
      split at h
      · exact (talk_deliverLost d o).trans (talk_holdEvent _ _ _ _ h)
      · exact absurd h (by simp)
    · exact (talk_deliverLost d o).trans ⟨rfl, fun a h _ => Dev.reg_set_ne _ _ _ a h⟩

theorem Dev.talk_foldl {α : Type} (f : Dev → α → Dev) (hf : ∀ (d : Dev) (x : α), d.Talk (f d x)) (l : List α) : ∀ d : Dev, d.Talk (l.foldl f d) := by
  induction l with
  | nil => exact fun d => .refl d
  | cons x l ih => exact fun d => (hf d x).trans (ih _)

/-- Raising an event (R72 to R75). -/
theorem Dev.talk_event (d : Dev) (c : EvCode) (v : Severity) (ws : List Word) : d.Talk (d.event c v ws) := by
  have h0 : d.Talk (d.noteSeverity v) := by
    cases v
    · exact .refl d
    · exact .refl d
    · exact ⟨rfl, fun a _ h => Dev.reg_set_ne d _ _ a h⟩
    · exact ⟨rfl, fun a _ h => Dev.reg_set_ne d _ _ a h⟩
  unfold Dev.event
  dsimp only
  split
  · refine h0.trans ?_
    exact .of rfl
  · refine h0.trans ?_
    refine .trans ?_ (talk_foldl _ (fun d o => talk_deliverEvent d o _) _ _)
    exact .of rfl

theorem Dev.talk_reply (d : Dev) (q : QCmd) (st : Status) (dt : Nat) (p : List Word) : d.Talk (d.reply q st dt p) :=
  .of (sends_reply _ _ _ _ _)

/-! ### What follows -/

theorem Dev.Talk.reg {d e : Dev} (h : d.Talk e) {a : Nat} (h1 : a ≠ R.CTRL_CMD_STAT) (h2 : a ≠ R.KEEP_SAFE_STAT) : e.reg a = d.reg a :=
  h.regs a h1 h2
theorem Dev.Talk.get {d e : Dev} (h : d.Talk e) {f : Fld} (h1 : f.addr ≠ R.CTRL_CMD_STAT) (h2 : f.addr ≠ R.KEEP_SAFE_STAT) :
    e.get f = d.get f := Dev.get_of_reg_eq (h.regs _ h1 h2)
theorem Dev.Talk.lamp {d e : Dev} (h : d.Talk e) : e.lamp = d.lamp := by rw [h.rest]
theorem Dev.Talk.clk {d e : Dev} (h : d.Talk e) : e.clk = d.clk := by rw [h.rest]
theorem Dev.Talk.time {d e : Dev} (h : d.Talk e) : e.time = d.time := by rw [h.rest]
theorem Dev.Talk.safe {d e : Dev} (h : d.Talk e) : e.safe = d.safe := by rw [h.rest]
theorem Dev.Talk.mc {d e : Dev} (h : d.Talk e) : e.mc = d.mc := by rw [h.rest]
theorem Dev.Talk.img {d e : Dev} (h : d.Talk e) : e.img = d.img := by rw [h.rest]
theorem Dev.Talk.images {d e : Dev} (h : d.Talk e) : e.images = d.images := by rw [h.rest]
theorem Dev.Talk.flash {d e : Dev} (h : d.Talk e) : e.flash = d.flash := by rw [h.rest]
theorem Dev.Talk.ingest {d e : Dev} (h : d.Talk e) : e.ingest = d.ingest := by rw [h.rest]
theorem Dev.Talk.compose {d e : Dev} (h : d.Talk e) : e.compose = d.compose := by rw [h.rest]
theorem Dev.Talk.twin {d e : Dev} (h : d.Talk e) : e.twin = d.twin := by rw [h.rest]
theorem Dev.Talk.photo {d e : Dev} (h : d.Talk e) : e.photo = d.photo := by rw [h.rest]
theorem Dev.Talk.cap {d e : Dev} (h : d.Talk e) : e.cap = d.cap := by rw [h.rest]
theorem Dev.Talk.cvu {d e : Dev} (h : d.Talk e) : e.cvu = d.cvu := by rw [h.rest]
theorem Dev.Talk.txns {d e : Dev} (h : d.Talk e) : e.txns = d.txns := by rw [h.rest]
theorem Dev.Talk.commits {d e : Dev} (h : d.Talk e) : e.commits = d.commits := by rw [h.rest]
theorem Dev.Talk.prepared {d e : Dev} (h : d.Talk e) : e.prepared = d.prepared := by rw [h.rest]
theorem Dev.Talk.boot {d e : Dev} (h : d.Talk e) : e.boot = d.boot := by rw [h.rest]
theorem Dev.Talk.power {d e : Dev} (h : d.Talk e) : e.power = d.power := by rw [h.rest]
theorem Dev.Talk.role {d e : Dev} (h : d.Talk e) : e.role = d.role := by rw [h.rest]
theorem Dev.Talk.variant {d e : Dev} (h : d.Talk e) : e.variant = d.variant := by rw [h.rest]
theorem Dev.Talk.now {d e : Dev} (h : d.Talk e) : e.now = d.now := by rw [h.rest]

end Sys2Proof.Machine
end

