-- ==== Sys2Proof/Laws/Host.lean ====
section
/-!
SUPPORT. What running a host command comes to when the device takes it: its own meaning, then its reply.
-/
namespace Sys2Proof.Machine

open Sys2Proof

/-- Nothing but open transactions' times and sessions' times differs. -/
theorem Dev.touch_eq (d : Dev) (q : QCmd) : d.touch q = { d with txns := (d.touch q).txns, host := (d.touch q).host } := by
  unfold Dev.touch
  dsimp only
  repeat' split
  all_goals rfl

@[simp] theorem Dev.touch_reg (d : Dev) (q : QCmd) (a : Nat) : (d.touch q).reg a = d.reg a := by rw [Dev.touch_eq]; rfl
@[simp] theorem Dev.touch_get (d : Dev) (q : QCmd) (f : Fld) : (d.touch q).get f = d.get f := by simp [Dev.get]
@[simp] theorem Dev.touch_commits (d : Dev) (q : QCmd) : (d.touch q).commits = d.commits := by rw [Dev.touch_eq]
@[simp] theorem Dev.touch_compose (d : Dev) (q : QCmd) : (d.touch q).compose = d.compose := by rw [Dev.touch_eq]
@[simp] theorem Dev.touch_lamp (d : Dev) (q : QCmd) : (d.touch q).lamp = d.lamp := by rw [Dev.touch_eq]
@[simp] theorem Dev.touch_ingest (d : Dev) (q : QCmd) : (d.touch q).ingest = d.ingest := by rw [Dev.touch_eq]
@[simp] theorem Dev.touch_images (d : Dev) (q : QCmd) : (d.touch q).images = d.images := by rw [Dev.touch_eq]
@[simp] theorem Dev.touch_img (d : Dev) (q : QCmd) : (d.touch q).img = d.img := by rw [Dev.touch_eq]
@[simp] theorem Dev.touch_time (d : Dev) (q : QCmd) : (d.touch q).time = d.time := by rw [Dev.touch_eq]
@[simp] theorem Dev.touch_power (d : Dev) (q : QCmd) : (d.touch q).power = d.power := by rw [Dev.touch_eq]
@[simp] theorem Dev.touch_role (d : Dev) (q : QCmd) : (d.touch q).role = d.role := by rw [Dev.touch_eq]
@[simp] theorem Dev.touch_responder (d : Dev) (q : QCmd) : (d.touch q).responder = d.responder := by
  rw [Dev.touch_eq]
  rfl

@[simp] theorem Dev.touch_lost (d : Dev) (q : QCmd) : (d.touch q).host.lostReplies = d.host.lostReplies := by
  unfold Dev.touch
  dsimp only
  repeat' split
  all_goals rfl

/-- A command the device takes runs its own meaning, which is answered. -/
theorem State.command_takes (s : State) (h : Hdr) (op : Op) (pl : List Word) (body : State → QCmd → State × Answer)
    (ht : s.takes h op pl = true) : s.command h op pl body = (s.touched (hostCmd h op pl)).runBody (hostCmd h op pl) body := by
  simp only [State.takes, Bool.and_eq_true, Bool.not_eq_true', Option.isNone_iff_eq_none] at ht
  obtain ⟨⟨⟨⟨⟨⟨⟨h1, h2⟩, h3⟩, h4⟩, h5⟩, h6⟩, h7⟩, h8⟩ := ht
  have hq : (s.dev.host.queue.find? fun x => x.orig == h.orig.val) = none := by
    rw [List.find?_eq_none]
    intro x hx
    have := List.any_eq_false.mp h4 x hx
    simpa using this
  have h7' : (s.dev.isSender && (Target.ofNat h.target).scope != 0 && !senderRuns op) = false := by
    have hs : s.dev.isSender = !s.dev.isTile := rfl
    rw [hs]
    rcases Bool.eq_false_or_eq_true s.dev.isTile with a | a <;> rcases Bool.eq_false_or_eq_true (senderRuns op) with b | b <;>
      simp_all
  have hs : ∀ q, (s.dev.touch q).isSender = s.dev.isSender := fun q => by simp [Dev.isSender]
  unfold State.command
  simp only [hostCmd] at h3 h6 ⊢
  simp only [h1, h2, h3, h8, hq, Bool.not_true, Bool.or_self, Bool.false_eq_true, if_false]
  simp only [State.runCommand, h6, hs, h7', Bool.false_eq_true, if_false]
  rfl

/-- The reply that ends a command is the newest kept (R49). -/
theorem Dev.reply_kept (d : Dev) (q : QCmd) (st : Status) (dt : Nat) (pl : List Word)
    (h : (d.host.lostReplies.any fun w => q.isFor w.1 w.2.1 w.2.2) = false) :
    ∃ parts, (d.reply q st dt pl).host.kept.head? =
      some ⟨q.orig, q.seq, q.check, parts ++ replyPackets q d.responder st.code dt false pl⟩ := by
  unfold Dev.reply Dev.replyFrom
  simp only [h, Bool.false_eq_true, if_false]
  exact ⟨_, rfl⟩

/-- A command that the device takes and whose meaning is an answer OK. -/
theorem State.reads_of (s : State) (h : Hdr) (op : Op) (pl ws : List Word) (body : State → QCmd → State × Answer)
    (ht : s.takes h op pl = true)
    (hb : body (s.touched (hostCmd h op pl)) (hostCmd h op pl) = (s.touched (hostCmd h op pl), .ok ws)) :
    ∃ t, runRow h op pl body s = .next t ∧ s.Reads t (hostCmd h op pl) ws := by
  refine ⟨_, by rw [runRow, State.command_takes _ _ _ _ _ ht], ?_⟩
  have hl : ((s.dev.touch (hostCmd h op pl)).host.lostReplies.any fun w => (hostCmd h op pl).isFor w.1 w.2.1 w.2.2) = false := by
    simp only [State.takes, Bool.and_eq_true, Bool.not_eq_true'] at ht
    simpa using ht.1.1.1.2
  simp only [State.runBody, hb]
  have hs := Dev.sends_answer (s.dev.touch (hostCmd h op pl)) (hostCmd h op pl) (.ok ws)
  refine ⟨?_, ⟨?_, ?_, rfl, rfl, rfl⟩, ?_, ?_, ?_, ?_, ?_⟩
  · have := Dev.reply_kept (s.dev.touch (hostCmd h op pl)) (hostCmd h op pl) .ok 0 ws hl
    simpa [State.Answered, State.touched, Dev.answer, Answer.ok] using this
  · intro a _
    exact (hs.reg a).trans (Dev.touch_reg _ _ _)
  · exact fun a => rfl
  all_goals
    unfold Dev.Sends at hs
    simp only [State.touched]
    rw [hs]
    simp

end Sys2Proof.Machine
end

