-- ==== Sys2Proof/Laws/State.lean ====
section
/-!
SUPPORT. Every field of the device under every update: the one it updates, and each of the others, which stays. So no proof unfolds a record
update.
-/
namespace Sys2Proof.Machine

open Sys2Proof

/-! ### setReg -/

section
variable (d : Dev) (a : Nat) (w : Word)
@[simp] theorem Dev.setReg_boot : (d.setReg a w).boot = d.boot := rfl
@[simp] theorem Dev.setReg_porst : (d.setReg a w).porst = d.porst := rfl
@[simp] theorem Dev.setReg_supplyLow : (d.setReg a w).supplyLow = d.supplyLow := rfl
@[simp] theorem Dev.setReg_deepPorst : (d.setReg a w).deepPorst = d.deepPorst := rfl
@[simp] theorem Dev.setReg_power : (d.setReg a w).power = d.power := rfl
@[simp] theorem Dev.setReg_powerGoal : (d.setReg a w).powerGoal = d.powerGoal := rfl
@[simp] theorem Dev.setReg_powerCmd : (d.setReg a w).powerCmd = d.powerCmd := rfl
@[simp] theorem Dev.setReg_wakeLate : (d.setReg a w).wakeLate = d.wakeLate := rfl
@[simp] theorem Dev.setReg_lastStatus : (d.setReg a w).lastStatus = d.lastStatus := rfl
@[simp] theorem Dev.setReg_lastDetail : (d.setReg a w).lastDetail = d.lastDetail := rfl
@[simp] theorem Dev.setReg_role : (d.setReg a w).role = d.role := rfl
@[simp] theorem Dev.setReg_variant : (d.setReg a w).variant = d.variant := rfl
@[simp] theorem Dev.setReg_roleForced : (d.setReg a w).roleForced = d.roleForced := rfl
@[simp] theorem Dev.setReg_now : (d.setReg a w).now = d.now := rfl
@[simp] theorem Dev.setReg_free : (d.setReg a w).free = d.free := rfl
@[simp] theorem Dev.setReg_corAhead : (d.setReg a w).corAhead = d.corAhead := rfl
@[simp] theorem Dev.setReg_env : (d.setReg a w).env = d.env := rfl
@[simp] theorem Dev.setReg_host : (d.setReg a w).host = d.host := rfl
@[simp] theorem Dev.setReg_txns : (d.setReg a w).txns = d.txns := rfl
@[simp] theorem Dev.setReg_commits : (d.setReg a w).commits = d.commits := rfl
@[simp] theorem Dev.setReg_prepared : (d.setReg a w).prepared = d.prepared := rfl
@[simp] theorem Dev.setReg_cvu : (d.setReg a w).cvu = d.cvu := rfl
@[simp] theorem Dev.setReg_clk : (d.setReg a w).clk = d.clk := rfl
@[simp] theorem Dev.setReg_safe : (d.setReg a w).safe = d.safe := rfl
@[simp] theorem Dev.setReg_mc : (d.setReg a w).mc = d.mc := rfl
@[simp] theorem Dev.setReg_images : (d.setReg a w).images = d.images := rfl
@[simp] theorem Dev.setReg_img : (d.setReg a w).img = d.img := rfl
@[simp] theorem Dev.setReg_time : (d.setReg a w).time = d.time := rfl
@[simp] theorem Dev.setReg_senderNo : (d.setReg a w).senderNo = d.senderNo := rfl
@[simp] theorem Dev.setReg_link : (d.setReg a w).link = d.link := rfl
@[simp] theorem Dev.setReg_twin : (d.setReg a w).twin = d.twin := rfl
@[simp] theorem Dev.setReg_ingest : (d.setReg a w).ingest = d.ingest := rfl
@[simp] theorem Dev.setReg_flash : (d.setReg a w).flash = d.flash := rfl
@[simp] theorem Dev.setReg_compose : (d.setReg a w).compose = d.compose := rfl
@[simp] theorem Dev.setReg_fabric : (d.setReg a w).fabric = d.fabric := rfl
@[simp] theorem Dev.setReg_lamp : (d.setReg a w).lamp = d.lamp := rfl
@[simp] theorem Dev.setReg_cap : (d.setReg a w).cap = d.cap := rfl
@[simp] theorem Dev.setReg_photo : (d.setReg a w).photo = d.photo := rfl
@[simp] theorem Dev.setReg_out : (d.setReg a w).out = d.out := rfl
@[simp] theorem Dev.setReg_isSender : (d.setReg a w).isSender = d.isSender := rfl
@[simp] theorem Dev.setReg_isTile : (d.setReg a w).isTile = d.isTile := rfl
end

/-! ### set -/

section
variable (d : Dev) (x : Fld) (v : Nat)
@[simp] theorem Dev.set_boot : (d.set x v).boot = d.boot := rfl
@[simp] theorem Dev.set_porst : (d.set x v).porst = d.porst := rfl
@[simp] theorem Dev.set_supplyLow : (d.set x v).supplyLow = d.supplyLow := rfl
@[simp] theorem Dev.set_deepPorst : (d.set x v).deepPorst = d.deepPorst := rfl
@[simp] theorem Dev.set_power : (d.set x v).power = d.power := rfl
@[simp] theorem Dev.set_powerGoal : (d.set x v).powerGoal = d.powerGoal := rfl
@[simp] theorem Dev.set_powerCmd : (d.set x v).powerCmd = d.powerCmd := rfl
@[simp] theorem Dev.set_wakeLate : (d.set x v).wakeLate = d.wakeLate := rfl
@[simp] theorem Dev.set_lastStatus : (d.set x v).lastStatus = d.lastStatus := rfl
@[simp] theorem Dev.set_lastDetail : (d.set x v).lastDetail = d.lastDetail := rfl
@[simp] theorem Dev.set_role : (d.set x v).role = d.role := rfl
@[simp] theorem Dev.set_variant : (d.set x v).variant = d.variant := rfl
@[simp] theorem Dev.set_roleForced : (d.set x v).roleForced = d.roleForced := rfl
@[simp] theorem Dev.set_now : (d.set x v).now = d.now := rfl
@[simp] theorem Dev.set_free : (d.set x v).free = d.free := rfl
@[simp] theorem Dev.set_corAhead : (d.set x v).corAhead = d.corAhead := rfl
@[simp] theorem Dev.set_env : (d.set x v).env = d.env := rfl
@[simp] theorem Dev.set_host : (d.set x v).host = d.host := rfl
@[simp] theorem Dev.set_txns : (d.set x v).txns = d.txns := rfl
@[simp] theorem Dev.set_commits : (d.set x v).commits = d.commits := rfl
@[simp] theorem Dev.set_prepared : (d.set x v).prepared = d.prepared := rfl
@[simp] theorem Dev.set_cvu : (d.set x v).cvu = d.cvu := rfl
@[simp] theorem Dev.set_clk : (d.set x v).clk = d.clk := rfl
@[simp] theorem Dev.set_safe : (d.set x v).safe = d.safe := rfl
@[simp] theorem Dev.set_mc : (d.set x v).mc = d.mc := rfl
@[simp] theorem Dev.set_images : (d.set x v).images = d.images := rfl
@[simp] theorem Dev.set_img : (d.set x v).img = d.img := rfl
@[simp] theorem Dev.set_time : (d.set x v).time = d.time := rfl
@[simp] theorem Dev.set_senderNo : (d.set x v).senderNo = d.senderNo := rfl
@[simp] theorem Dev.set_link : (d.set x v).link = d.link := rfl
@[simp] theorem Dev.set_twin : (d.set x v).twin = d.twin := rfl
@[simp] theorem Dev.set_ingest : (d.set x v).ingest = d.ingest := rfl
@[simp] theorem Dev.set_flash : (d.set x v).flash = d.flash := rfl
@[simp] theorem Dev.set_compose : (d.set x v).compose = d.compose := rfl
@[simp] theorem Dev.set_fabric : (d.set x v).fabric = d.fabric := rfl
@[simp] theorem Dev.set_lamp : (d.set x v).lamp = d.lamp := rfl
@[simp] theorem Dev.set_cap : (d.set x v).cap = d.cap := rfl
@[simp] theorem Dev.set_photo : (d.set x v).photo = d.photo := rfl
@[simp] theorem Dev.set_out : (d.set x v).out = d.out := rfl
@[simp] theorem Dev.set_isSender : (d.set x v).isSender = d.isSender := rfl
@[simp] theorem Dev.set_isTile : (d.set x v).isTile = d.isTile := rfl
end

/-! ### draw -/

section
variable (d : Dev)
@[simp] theorem Dev.draw_boot : (d.draw).boot = d.boot := rfl
@[simp] theorem Dev.draw_porst : (d.draw).porst = d.porst := rfl
@[simp] theorem Dev.draw_supplyLow : (d.draw).supplyLow = d.supplyLow := rfl
@[simp] theorem Dev.draw_deepPorst : (d.draw).deepPorst = d.deepPorst := rfl
@[simp] theorem Dev.draw_power : (d.draw).power = d.power := rfl
@[simp] theorem Dev.draw_powerGoal : (d.draw).powerGoal = d.powerGoal := rfl
@[simp] theorem Dev.draw_powerCmd : (d.draw).powerCmd = d.powerCmd := rfl
@[simp] theorem Dev.draw_wakeLate : (d.draw).wakeLate = d.wakeLate := rfl
@[simp] theorem Dev.draw_lastStatus : (d.draw).lastStatus = d.lastStatus := rfl
@[simp] theorem Dev.draw_lastDetail : (d.draw).lastDetail = d.lastDetail := rfl
@[simp] theorem Dev.draw_role : (d.draw).role = d.role := rfl
@[simp] theorem Dev.draw_variant : (d.draw).variant = d.variant := rfl
@[simp] theorem Dev.draw_roleForced : (d.draw).roleForced = d.roleForced := rfl
@[simp] theorem Dev.draw_now : (d.draw).now = d.now := rfl
@[simp] theorem Dev.draw_free : (d.draw).free = d.free + 1 := rfl
@[simp] theorem Dev.draw_regs : (d.draw).regs = d.regs := rfl
@[simp] theorem Dev.draw_corAhead : (d.draw).corAhead = d.corAhead := rfl
@[simp] theorem Dev.draw_env : (d.draw).env = d.env := rfl
@[simp] theorem Dev.draw_host : (d.draw).host = d.host := rfl
@[simp] theorem Dev.draw_txns : (d.draw).txns = d.txns := rfl
@[simp] theorem Dev.draw_commits : (d.draw).commits = d.commits := rfl
@[simp] theorem Dev.draw_prepared : (d.draw).prepared = d.prepared := rfl
@[simp] theorem Dev.draw_cvu : (d.draw).cvu = d.cvu := rfl
@[simp] theorem Dev.draw_clk : (d.draw).clk = d.clk := rfl
@[simp] theorem Dev.draw_safe : (d.draw).safe = d.safe := rfl
@[simp] theorem Dev.draw_mc : (d.draw).mc = d.mc := rfl
@[simp] theorem Dev.draw_images : (d.draw).images = d.images := rfl
@[simp] theorem Dev.draw_img : (d.draw).img = d.img := rfl
@[simp] theorem Dev.draw_time : (d.draw).time = d.time := rfl
@[simp] theorem Dev.draw_senderNo : (d.draw).senderNo = d.senderNo := rfl
@[simp] theorem Dev.draw_link : (d.draw).link = d.link := rfl
@[simp] theorem Dev.draw_twin : (d.draw).twin = d.twin := rfl
@[simp] theorem Dev.draw_ingest : (d.draw).ingest = d.ingest := rfl
@[simp] theorem Dev.draw_flash : (d.draw).flash = d.flash := rfl
@[simp] theorem Dev.draw_compose : (d.draw).compose = d.compose := rfl
@[simp] theorem Dev.draw_fabric : (d.draw).fabric = d.fabric := rfl
@[simp] theorem Dev.draw_lamp : (d.draw).lamp = d.lamp := rfl
@[simp] theorem Dev.draw_cap : (d.draw).cap = d.cap := rfl
@[simp] theorem Dev.draw_photo : (d.draw).photo = d.photo := rfl
@[simp] theorem Dev.draw_out : (d.draw).out = d.out := rfl
@[simp] theorem Dev.draw_reg (r : Nat) : (d.draw).reg r = d.reg r := rfl
@[simp] theorem Dev.draw_get (x : Fld) : (d.draw).get x = d.get x := rfl
@[simp] theorem Dev.draw_bit (x : Fld) : (d.draw).bit x = d.bit x := rfl
@[simp] theorem Dev.draw_isSender : (d.draw).isSender = d.isSender := rfl
@[simp] theorem Dev.draw_isTile : (d.draw).isTile = d.isTile := rfl
@[simp] theorem Dev.draw_service : (d.draw).service = d.service := rfl
end

/-! ### emit -/

section
variable (d : Dev) (o : Out)
@[simp] theorem Dev.emit_boot : (d.emit o).boot = d.boot := rfl
@[simp] theorem Dev.emit_porst : (d.emit o).porst = d.porst := rfl
@[simp] theorem Dev.emit_supplyLow : (d.emit o).supplyLow = d.supplyLow := rfl
@[simp] theorem Dev.emit_deepPorst : (d.emit o).deepPorst = d.deepPorst := rfl
@[simp] theorem Dev.emit_power : (d.emit o).power = d.power := rfl
@[simp] theorem Dev.emit_powerGoal : (d.emit o).powerGoal = d.powerGoal := rfl
@[simp] theorem Dev.emit_powerCmd : (d.emit o).powerCmd = d.powerCmd := rfl
@[simp] theorem Dev.emit_wakeLate : (d.emit o).wakeLate = d.wakeLate := rfl
@[simp] theorem Dev.emit_lastStatus : (d.emit o).lastStatus = d.lastStatus := rfl
@[simp] theorem Dev.emit_lastDetail : (d.emit o).lastDetail = d.lastDetail := rfl
@[simp] theorem Dev.emit_role : (d.emit o).role = d.role := rfl
@[simp] theorem Dev.emit_variant : (d.emit o).variant = d.variant := rfl
@[simp] theorem Dev.emit_roleForced : (d.emit o).roleForced = d.roleForced := rfl
@[simp] theorem Dev.emit_now : (d.emit o).now = d.now := rfl
@[simp] theorem Dev.emit_free : (d.emit o).free = d.free := rfl
@[simp] theorem Dev.emit_regs : (d.emit o).regs = d.regs := rfl
@[simp] theorem Dev.emit_corAhead : (d.emit o).corAhead = d.corAhead := rfl
@[simp] theorem Dev.emit_env : (d.emit o).env = d.env := rfl
@[simp] theorem Dev.emit_host : (d.emit o).host = d.host := rfl
@[simp] theorem Dev.emit_txns : (d.emit o).txns = d.txns := rfl
@[simp] theorem Dev.emit_commits : (d.emit o).commits = d.commits := rfl
@[simp] theorem Dev.emit_prepared : (d.emit o).prepared = d.prepared := rfl
@[simp] theorem Dev.emit_cvu : (d.emit o).cvu = d.cvu := rfl
@[simp] theorem Dev.emit_clk : (d.emit o).clk = d.clk := rfl
@[simp] theorem Dev.emit_safe : (d.emit o).safe = d.safe := rfl
@[simp] theorem Dev.emit_mc : (d.emit o).mc = d.mc := rfl
@[simp] theorem Dev.emit_images : (d.emit o).images = d.images := rfl
@[simp] theorem Dev.emit_img : (d.emit o).img = d.img := rfl
@[simp] theorem Dev.emit_time : (d.emit o).time = d.time := rfl
@[simp] theorem Dev.emit_senderNo : (d.emit o).senderNo = d.senderNo := rfl
@[simp] theorem Dev.emit_link : (d.emit o).link = d.link := rfl
@[simp] theorem Dev.emit_twin : (d.emit o).twin = d.twin := rfl
@[simp] theorem Dev.emit_ingest : (d.emit o).ingest = d.ingest := rfl
@[simp] theorem Dev.emit_flash : (d.emit o).flash = d.flash := rfl
@[simp] theorem Dev.emit_compose : (d.emit o).compose = d.compose := rfl
@[simp] theorem Dev.emit_fabric : (d.emit o).fabric = d.fabric := rfl
@[simp] theorem Dev.emit_lamp : (d.emit o).lamp = d.lamp := rfl
@[simp] theorem Dev.emit_cap : (d.emit o).cap = d.cap := rfl
@[simp] theorem Dev.emit_photo : (d.emit o).photo = d.photo := rfl
@[simp] theorem Dev.emit_out : (d.emit o).out = o :: d.out := rfl
@[simp] theorem Dev.emit_reg (r : Nat) : (d.emit o).reg r = d.reg r := rfl
@[simp] theorem Dev.emit_get (x : Fld) : (d.emit o).get x = d.get x := rfl
@[simp] theorem Dev.emit_bit (x : Fld) : (d.emit o).bit x = d.bit x := rfl
@[simp] theorem Dev.emit_isSender : (d.emit o).isSender = d.isSender := rfl
@[simp] theorem Dev.emit_isTile : (d.emit o).isTile = d.isTile := rfl
@[simp] theorem Dev.emit_service : (d.emit o).service = d.service := rfl
end

/-! ### onHost -/

section
variable (d : Dev) (f : HostPaths → HostPaths)
@[simp] theorem Dev.onHost_boot : (d.onHost f).boot = d.boot := rfl
@[simp] theorem Dev.onHost_porst : (d.onHost f).porst = d.porst := rfl
@[simp] theorem Dev.onHost_supplyLow : (d.onHost f).supplyLow = d.supplyLow := rfl
@[simp] theorem Dev.onHost_deepPorst : (d.onHost f).deepPorst = d.deepPorst := rfl
@[simp] theorem Dev.onHost_power : (d.onHost f).power = d.power := rfl
@[simp] theorem Dev.onHost_powerGoal : (d.onHost f).powerGoal = d.powerGoal := rfl
@[simp] theorem Dev.onHost_powerCmd : (d.onHost f).powerCmd = d.powerCmd := rfl
@[simp] theorem Dev.onHost_wakeLate : (d.onHost f).wakeLate = d.wakeLate := rfl
@[simp] theorem Dev.onHost_lastStatus : (d.onHost f).lastStatus = d.lastStatus := rfl
@[simp] theorem Dev.onHost_lastDetail : (d.onHost f).lastDetail = d.lastDetail := rfl
@[simp] theorem Dev.onHost_role : (d.onHost f).role = d.role := rfl
@[simp] theorem Dev.onHost_variant : (d.onHost f).variant = d.variant := rfl
@[simp] theorem Dev.onHost_roleForced : (d.onHost f).roleForced = d.roleForced := rfl
@[simp] theorem Dev.onHost_now : (d.onHost f).now = d.now := rfl
@[simp] theorem Dev.onHost_free : (d.onHost f).free = d.free := rfl
@[simp] theorem Dev.onHost_regs : (d.onHost f).regs = d.regs := rfl
@[simp] theorem Dev.onHost_corAhead : (d.onHost f).corAhead = d.corAhead := rfl
@[simp] theorem Dev.onHost_env : (d.onHost f).env = d.env := rfl
@[simp] theorem Dev.onHost_host : (d.onHost f).host = f d.host := rfl
@[simp] theorem Dev.onHost_txns : (d.onHost f).txns = d.txns := rfl
@[simp] theorem Dev.onHost_commits : (d.onHost f).commits = d.commits := rfl
@[simp] theorem Dev.onHost_prepared : (d.onHost f).prepared = d.prepared := rfl
@[simp] theorem Dev.onHost_cvu : (d.onHost f).cvu = d.cvu := rfl
@[simp] theorem Dev.onHost_clk : (d.onHost f).clk = d.clk := rfl
@[simp] theorem Dev.onHost_safe : (d.onHost f).safe = d.safe := rfl
@[simp] theorem Dev.onHost_mc : (d.onHost f).mc = d.mc := rfl
@[simp] theorem Dev.onHost_images : (d.onHost f).images = d.images := rfl
@[simp] theorem Dev.onHost_img : (d.onHost f).img = d.img := rfl
@[simp] theorem Dev.onHost_time : (d.onHost f).time = d.time := rfl
@[simp] theorem Dev.onHost_senderNo : (d.onHost f).senderNo = d.senderNo := rfl
@[simp] theorem Dev.onHost_link : (d.onHost f).link = d.link := rfl
@[simp] theorem Dev.onHost_twin : (d.onHost f).twin = d.twin := rfl
@[simp] theorem Dev.onHost_ingest : (d.onHost f).ingest = d.ingest := rfl
@[simp] theorem Dev.onHost_flash : (d.onHost f).flash = d.flash := rfl
@[simp] theorem Dev.onHost_compose : (d.onHost f).compose = d.compose := rfl
@[simp] theorem Dev.onHost_fabric : (d.onHost f).fabric = d.fabric := rfl
@[simp] theorem Dev.onHost_lamp : (d.onHost f).lamp = d.lamp := rfl
@[simp] theorem Dev.onHost_cap : (d.onHost f).cap = d.cap := rfl
@[simp] theorem Dev.onHost_photo : (d.onHost f).photo = d.photo := rfl
@[simp] theorem Dev.onHost_out : (d.onHost f).out = d.out := rfl
@[simp] theorem Dev.onHost_reg (r : Nat) : (d.onHost f).reg r = d.reg r := rfl
@[simp] theorem Dev.onHost_get (x : Fld) : (d.onHost f).get x = d.get x := rfl
@[simp] theorem Dev.onHost_bit (x : Fld) : (d.onHost f).bit x = d.bit x := rfl
@[simp] theorem Dev.onHost_isSender : (d.onHost f).isSender = d.isSender := rfl
@[simp] theorem Dev.onHost_isTile : (d.onHost f).isTile = d.isTile := rfl
@[simp] theorem Dev.onHost_service : (d.onHost f).service = d.service := rfl
end

/-! ### onClk -/

section
variable (d : Dev) (f : Clk → Clk)
@[simp] theorem Dev.onClk_boot : (d.onClk f).boot = d.boot := rfl
@[simp] theorem Dev.onClk_porst : (d.onClk f).porst = d.porst := rfl
@[simp] theorem Dev.onClk_supplyLow : (d.onClk f).supplyLow = d.supplyLow := rfl
@[simp] theorem Dev.onClk_deepPorst : (d.onClk f).deepPorst = d.deepPorst := rfl
@[simp] theorem Dev.onClk_power : (d.onClk f).power = d.power := rfl
@[simp] theorem Dev.onClk_powerGoal : (d.onClk f).powerGoal = d.powerGoal := rfl
@[simp] theorem Dev.onClk_powerCmd : (d.onClk f).powerCmd = d.powerCmd := rfl
@[simp] theorem Dev.onClk_wakeLate : (d.onClk f).wakeLate = d.wakeLate := rfl
@[simp] theorem Dev.onClk_lastStatus : (d.onClk f).lastStatus = d.lastStatus := rfl
@[simp] theorem Dev.onClk_lastDetail : (d.onClk f).lastDetail = d.lastDetail := rfl
@[simp] theorem Dev.onClk_role : (d.onClk f).role = d.role := rfl
@[simp] theorem Dev.onClk_variant : (d.onClk f).variant = d.variant := rfl
@[simp] theorem Dev.onClk_roleForced : (d.onClk f).roleForced = d.roleForced := rfl
@[simp] theorem Dev.onClk_now : (d.onClk f).now = d.now := rfl
@[simp] theorem Dev.onClk_free : (d.onClk f).free = d.free := rfl
@[simp] theorem Dev.onClk_regs : (d.onClk f).regs = d.regs := rfl
@[simp] theorem Dev.onClk_corAhead : (d.onClk f).corAhead = d.corAhead := rfl
@[simp] theorem Dev.onClk_env : (d.onClk f).env = d.env := rfl
@[simp] theorem Dev.onClk_host : (d.onClk f).host = d.host := rfl
@[simp] theorem Dev.onClk_txns : (d.onClk f).txns = d.txns := rfl
@[simp] theorem Dev.onClk_commits : (d.onClk f).commits = d.commits := rfl
@[simp] theorem Dev.onClk_prepared : (d.onClk f).prepared = d.prepared := rfl
@[simp] theorem Dev.onClk_cvu : (d.onClk f).cvu = d.cvu := rfl
@[simp] theorem Dev.onClk_clk : (d.onClk f).clk = f d.clk := rfl
@[simp] theorem Dev.onClk_safe : (d.onClk f).safe = d.safe := rfl
@[simp] theorem Dev.onClk_mc : (d.onClk f).mc = d.mc := rfl
@[simp] theorem Dev.onClk_images : (d.onClk f).images = d.images := rfl
@[simp] theorem Dev.onClk_img : (d.onClk f).img = d.img := rfl
@[simp] theorem Dev.onClk_time : (d.onClk f).time = d.time := rfl
@[simp] theorem Dev.onClk_senderNo : (d.onClk f).senderNo = d.senderNo := rfl
@[simp] theorem Dev.onClk_link : (d.onClk f).link = d.link := rfl
@[simp] theorem Dev.onClk_twin : (d.onClk f).twin = d.twin := rfl
@[simp] theorem Dev.onClk_ingest : (d.onClk f).ingest = d.ingest := rfl
@[simp] theorem Dev.onClk_flash : (d.onClk f).flash = d.flash := rfl
@[simp] theorem Dev.onClk_compose : (d.onClk f).compose = d.compose := rfl
@[simp] theorem Dev.onClk_fabric : (d.onClk f).fabric = d.fabric := rfl
@[simp] theorem Dev.onClk_lamp : (d.onClk f).lamp = d.lamp := rfl
@[simp] theorem Dev.onClk_cap : (d.onClk f).cap = d.cap := rfl
@[simp] theorem Dev.onClk_photo : (d.onClk f).photo = d.photo := rfl
@[simp] theorem Dev.onClk_out : (d.onClk f).out = d.out := rfl
@[simp] theorem Dev.onClk_reg (r : Nat) : (d.onClk f).reg r = d.reg r := rfl
@[simp] theorem Dev.onClk_get (x : Fld) : (d.onClk f).get x = d.get x := rfl
@[simp] theorem Dev.onClk_bit (x : Fld) : (d.onClk f).bit x = d.bit x := rfl
@[simp] theorem Dev.onClk_isSender : (d.onClk f).isSender = d.isSender := rfl
@[simp] theorem Dev.onClk_isTile : (d.onClk f).isTile = d.isTile := rfl
@[simp] theorem Dev.onClk_service : (d.onClk f).service = d.service := rfl
end

/-! ### onSafe -/

section
variable (d : Dev) (f : Safe → Safe)
@[simp] theorem Dev.onSafe_boot : (d.onSafe f).boot = d.boot := rfl
@[simp] theorem Dev.onSafe_porst : (d.onSafe f).porst = d.porst := rfl
@[simp] theorem Dev.onSafe_supplyLow : (d.onSafe f).supplyLow = d.supplyLow := rfl
@[simp] theorem Dev.onSafe_deepPorst : (d.onSafe f).deepPorst = d.deepPorst := rfl
@[simp] theorem Dev.onSafe_power : (d.onSafe f).power = d.power := rfl
@[simp] theorem Dev.onSafe_powerGoal : (d.onSafe f).powerGoal = d.powerGoal := rfl
@[simp] theorem Dev.onSafe_powerCmd : (d.onSafe f).powerCmd = d.powerCmd := rfl
@[simp] theorem Dev.onSafe_wakeLate : (d.onSafe f).wakeLate = d.wakeLate := rfl
@[simp] theorem Dev.onSafe_lastStatus : (d.onSafe f).lastStatus = d.lastStatus := rfl
@[simp] theorem Dev.onSafe_lastDetail : (d.onSafe f).lastDetail = d.lastDetail := rfl
@[simp] theorem Dev.onSafe_role : (d.onSafe f).role = d.role := rfl
@[simp] theorem Dev.onSafe_variant : (d.onSafe f).variant = d.variant := rfl
@[simp] theorem Dev.onSafe_roleForced : (d.onSafe f).roleForced = d.roleForced := rfl
@[simp] theorem Dev.onSafe_now : (d.onSafe f).now = d.now := rfl
@[simp] theorem Dev.onSafe_free : (d.onSafe f).free = d.free := rfl
@[simp] theorem Dev.onSafe_regs : (d.onSafe f).regs = d.regs := rfl
@[simp] theorem Dev.onSafe_corAhead : (d.onSafe f).corAhead = d.corAhead := rfl
@[simp] theorem Dev.onSafe_env : (d.onSafe f).env = d.env := rfl
@[simp] theorem Dev.onSafe_host : (d.onSafe f).host = d.host := rfl
@[simp] theorem Dev.onSafe_txns : (d.onSafe f).txns = d.txns := rfl
@[simp] theorem Dev.onSafe_commits : (d.onSafe f).commits = d.commits := rfl
@[simp] theorem Dev.onSafe_prepared : (d.onSafe f).prepared = d.prepared := rfl
@[simp] theorem Dev.onSafe_cvu : (d.onSafe f).cvu = d.cvu := rfl
@[simp] theorem Dev.onSafe_clk : (d.onSafe f).clk = d.clk := rfl
@[simp] theorem Dev.onSafe_safe : (d.onSafe f).safe = f d.safe := rfl
@[simp] theorem Dev.onSafe_mc : (d.onSafe f).mc = d.mc := rfl
@[simp] theorem Dev.onSafe_images : (d.onSafe f).images = d.images := rfl
@[simp] theorem Dev.onSafe_img : (d.onSafe f).img = d.img := rfl
@[simp] theorem Dev.onSafe_time : (d.onSafe f).time = d.time := rfl
@[simp] theorem Dev.onSafe_senderNo : (d.onSafe f).senderNo = d.senderNo := rfl
@[simp] theorem Dev.onSafe_link : (d.onSafe f).link = d.link := rfl
@[simp] theorem Dev.onSafe_twin : (d.onSafe f).twin = d.twin := rfl
@[simp] theorem Dev.onSafe_ingest : (d.onSafe f).ingest = d.ingest := rfl
@[simp] theorem Dev.onSafe_flash : (d.onSafe f).flash = d.flash := rfl
@[simp] theorem Dev.onSafe_compose : (d.onSafe f).compose = d.compose := rfl
@[simp] theorem Dev.onSafe_fabric : (d.onSafe f).fabric = d.fabric := rfl
@[simp] theorem Dev.onSafe_lamp : (d.onSafe f).lamp = d.lamp := rfl
@[simp] theorem Dev.onSafe_cap : (d.onSafe f).cap = d.cap := rfl
@[simp] theorem Dev.onSafe_photo : (d.onSafe f).photo = d.photo := rfl
@[simp] theorem Dev.onSafe_out : (d.onSafe f).out = d.out := rfl
@[simp] theorem Dev.onSafe_reg (r : Nat) : (d.onSafe f).reg r = d.reg r := rfl
@[simp] theorem Dev.onSafe_get (x : Fld) : (d.onSafe f).get x = d.get x := rfl
@[simp] theorem Dev.onSafe_bit (x : Fld) : (d.onSafe f).bit x = d.bit x := rfl
@[simp] theorem Dev.onSafe_isSender : (d.onSafe f).isSender = d.isSender := rfl
@[simp] theorem Dev.onSafe_isTile : (d.onSafe f).isTile = d.isTile := rfl
@[simp] theorem Dev.onSafe_service : (d.onSafe f).service = d.service := rfl
end

/-! ### onMc -/

section
variable (d : Dev) (f : MemCtl → MemCtl)
@[simp] theorem Dev.onMc_boot : (d.onMc f).boot = d.boot := rfl
@[simp] theorem Dev.onMc_porst : (d.onMc f).porst = d.porst := rfl
@[simp] theorem Dev.onMc_supplyLow : (d.onMc f).supplyLow = d.supplyLow := rfl
@[simp] theorem Dev.onMc_deepPorst : (d.onMc f).deepPorst = d.deepPorst := rfl
@[simp] theorem Dev.onMc_power : (d.onMc f).power = d.power := rfl
@[simp] theorem Dev.onMc_powerGoal : (d.onMc f).powerGoal = d.powerGoal := rfl
@[simp] theorem Dev.onMc_powerCmd : (d.onMc f).powerCmd = d.powerCmd := rfl
@[simp] theorem Dev.onMc_wakeLate : (d.onMc f).wakeLate = d.wakeLate := rfl
@[simp] theorem Dev.onMc_lastStatus : (d.onMc f).lastStatus = d.lastStatus := rfl
@[simp] theorem Dev.onMc_lastDetail : (d.onMc f).lastDetail = d.lastDetail := rfl
@[simp] theorem Dev.onMc_role : (d.onMc f).role = d.role := rfl
@[simp] theorem Dev.onMc_variant : (d.onMc f).variant = d.variant := rfl
@[simp] theorem Dev.onMc_roleForced : (d.onMc f).roleForced = d.roleForced := rfl
@[simp] theorem Dev.onMc_now : (d.onMc f).now = d.now := rfl
@[simp] theorem Dev.onMc_free : (d.onMc f).free = d.free := rfl
@[simp] theorem Dev.onMc_regs : (d.onMc f).regs = d.regs := rfl
@[simp] theorem Dev.onMc_corAhead : (d.onMc f).corAhead = d.corAhead := rfl
@[simp] theorem Dev.onMc_env : (d.onMc f).env = d.env := rfl
@[simp] theorem Dev.onMc_host : (d.onMc f).host = d.host := rfl
@[simp] theorem Dev.onMc_txns : (d.onMc f).txns = d.txns := rfl
@[simp] theorem Dev.onMc_commits : (d.onMc f).commits = d.commits := rfl
@[simp] theorem Dev.onMc_prepared : (d.onMc f).prepared = d.prepared := rfl
@[simp] theorem Dev.onMc_cvu : (d.onMc f).cvu = d.cvu := rfl
@[simp] theorem Dev.onMc_clk : (d.onMc f).clk = d.clk := rfl
@[simp] theorem Dev.onMc_safe : (d.onMc f).safe = d.safe := rfl
@[simp] theorem Dev.onMc_mc : (d.onMc f).mc = f d.mc := rfl
@[simp] theorem Dev.onMc_images : (d.onMc f).images = d.images := rfl
@[simp] theorem Dev.onMc_img : (d.onMc f).img = d.img := rfl
@[simp] theorem Dev.onMc_time : (d.onMc f).time = d.time := rfl
@[simp] theorem Dev.onMc_senderNo : (d.onMc f).senderNo = d.senderNo := rfl
@[simp] theorem Dev.onMc_link : (d.onMc f).link = d.link := rfl
@[simp] theorem Dev.onMc_twin : (d.onMc f).twin = d.twin := rfl
@[simp] theorem Dev.onMc_ingest : (d.onMc f).ingest = d.ingest := rfl
@[simp] theorem Dev.onMc_flash : (d.onMc f).flash = d.flash := rfl
@[simp] theorem Dev.onMc_compose : (d.onMc f).compose = d.compose := rfl
@[simp] theorem Dev.onMc_fabric : (d.onMc f).fabric = d.fabric := rfl
@[simp] theorem Dev.onMc_lamp : (d.onMc f).lamp = d.lamp := rfl
@[simp] theorem Dev.onMc_cap : (d.onMc f).cap = d.cap := rfl
@[simp] theorem Dev.onMc_photo : (d.onMc f).photo = d.photo := rfl
@[simp] theorem Dev.onMc_out : (d.onMc f).out = d.out := rfl
@[simp] theorem Dev.onMc_reg (r : Nat) : (d.onMc f).reg r = d.reg r := rfl
@[simp] theorem Dev.onMc_get (x : Fld) : (d.onMc f).get x = d.get x := rfl
@[simp] theorem Dev.onMc_bit (x : Fld) : (d.onMc f).bit x = d.bit x := rfl
@[simp] theorem Dev.onMc_isSender : (d.onMc f).isSender = d.isSender := rfl
@[simp] theorem Dev.onMc_isTile : (d.onMc f).isTile = d.isTile := rfl
@[simp] theorem Dev.onMc_service : (d.onMc f).service = d.service := rfl
end

/-! ### onImg -/

section
variable (d : Dev) (f : Img → Img)
@[simp] theorem Dev.onImg_boot : (d.onImg f).boot = d.boot := rfl
@[simp] theorem Dev.onImg_porst : (d.onImg f).porst = d.porst := rfl
@[simp] theorem Dev.onImg_supplyLow : (d.onImg f).supplyLow = d.supplyLow := rfl
@[simp] theorem Dev.onImg_deepPorst : (d.onImg f).deepPorst = d.deepPorst := rfl
@[simp] theorem Dev.onImg_power : (d.onImg f).power = d.power := rfl
@[simp] theorem Dev.onImg_powerGoal : (d.onImg f).powerGoal = d.powerGoal := rfl
@[simp] theorem Dev.onImg_powerCmd : (d.onImg f).powerCmd = d.powerCmd := rfl
@[simp] theorem Dev.onImg_wakeLate : (d.onImg f).wakeLate = d.wakeLate := rfl
@[simp] theorem Dev.onImg_lastStatus : (d.onImg f).lastStatus = d.lastStatus := rfl
@[simp] theorem Dev.onImg_lastDetail : (d.onImg f).lastDetail = d.lastDetail := rfl
@[simp] theorem Dev.onImg_role : (d.onImg f).role = d.role := rfl
@[simp] theorem Dev.onImg_variant : (d.onImg f).variant = d.variant := rfl
@[simp] theorem Dev.onImg_roleForced : (d.onImg f).roleForced = d.roleForced := rfl
@[simp] theorem Dev.onImg_now : (d.onImg f).now = d.now := rfl
@[simp] theorem Dev.onImg_free : (d.onImg f).free = d.free := rfl
@[simp] theorem Dev.onImg_regs : (d.onImg f).regs = d.regs := rfl
@[simp] theorem Dev.onImg_corAhead : (d.onImg f).corAhead = d.corAhead := rfl
@[simp] theorem Dev.onImg_env : (d.onImg f).env = d.env := rfl
@[simp] theorem Dev.onImg_host : (d.onImg f).host = d.host := rfl
@[simp] theorem Dev.onImg_txns : (d.onImg f).txns = d.txns := rfl
@[simp] theorem Dev.onImg_commits : (d.onImg f).commits = d.commits := rfl
@[simp] theorem Dev.onImg_prepared : (d.onImg f).prepared = d.prepared := rfl
@[simp] theorem Dev.onImg_cvu : (d.onImg f).cvu = d.cvu := rfl
@[simp] theorem Dev.onImg_clk : (d.onImg f).clk = d.clk := rfl
@[simp] theorem Dev.onImg_safe : (d.onImg f).safe = d.safe := rfl
@[simp] theorem Dev.onImg_mc : (d.onImg f).mc = d.mc := rfl
@[simp] theorem Dev.onImg_images : (d.onImg f).images = d.images := rfl
@[simp] theorem Dev.onImg_img : (d.onImg f).img = f d.img := rfl
@[simp] theorem Dev.onImg_time : (d.onImg f).time = d.time := rfl
@[simp] theorem Dev.onImg_senderNo : (d.onImg f).senderNo = d.senderNo := rfl
@[simp] theorem Dev.onImg_link : (d.onImg f).link = d.link := rfl
@[simp] theorem Dev.onImg_twin : (d.onImg f).twin = d.twin := rfl
@[simp] theorem Dev.onImg_ingest : (d.onImg f).ingest = d.ingest := rfl
@[simp] theorem Dev.onImg_flash : (d.onImg f).flash = d.flash := rfl
@[simp] theorem Dev.onImg_compose : (d.onImg f).compose = d.compose := rfl
@[simp] theorem Dev.onImg_fabric : (d.onImg f).fabric = d.fabric := rfl
@[simp] theorem Dev.onImg_lamp : (d.onImg f).lamp = d.lamp := rfl
@[simp] theorem Dev.onImg_cap : (d.onImg f).cap = d.cap := rfl
@[simp] theorem Dev.onImg_photo : (d.onImg f).photo = d.photo := rfl
@[simp] theorem Dev.onImg_out : (d.onImg f).out = d.out := rfl
@[simp] theorem Dev.onImg_reg (r : Nat) : (d.onImg f).reg r = d.reg r := rfl
@[simp] theorem Dev.onImg_get (x : Fld) : (d.onImg f).get x = d.get x := rfl
@[simp] theorem Dev.onImg_bit (x : Fld) : (d.onImg f).bit x = d.bit x := rfl
@[simp] theorem Dev.onImg_isSender : (d.onImg f).isSender = d.isSender := rfl
@[simp] theorem Dev.onImg_isTile : (d.onImg f).isTile = d.isTile := rfl
@[simp] theorem Dev.onImg_service : (d.onImg f).service = d.service := rfl
end

/-! ### onTime -/

section
variable (d : Dev) (f : TimeState → TimeState)
@[simp] theorem Dev.onTime_boot : (d.onTime f).boot = d.boot := rfl
@[simp] theorem Dev.onTime_porst : (d.onTime f).porst = d.porst := rfl
@[simp] theorem Dev.onTime_supplyLow : (d.onTime f).supplyLow = d.supplyLow := rfl
@[simp] theorem Dev.onTime_deepPorst : (d.onTime f).deepPorst = d.deepPorst := rfl
@[simp] theorem Dev.onTime_power : (d.onTime f).power = d.power := rfl
@[simp] theorem Dev.onTime_powerGoal : (d.onTime f).powerGoal = d.powerGoal := rfl
@[simp] theorem Dev.onTime_powerCmd : (d.onTime f).powerCmd = d.powerCmd := rfl
@[simp] theorem Dev.onTime_wakeLate : (d.onTime f).wakeLate = d.wakeLate := rfl
@[simp] theorem Dev.onTime_lastStatus : (d.onTime f).lastStatus = d.lastStatus := rfl
@[simp] theorem Dev.onTime_lastDetail : (d.onTime f).lastDetail = d.lastDetail := rfl
@[simp] theorem Dev.onTime_role : (d.onTime f).role = d.role := rfl
@[simp] theorem Dev.onTime_variant : (d.onTime f).variant = d.variant := rfl
@[simp] theorem Dev.onTime_roleForced : (d.onTime f).roleForced = d.roleForced := rfl
@[simp] theorem Dev.onTime_now : (d.onTime f).now = d.now := rfl
@[simp] theorem Dev.onTime_free : (d.onTime f).free = d.free := rfl
@[simp] theorem Dev.onTime_regs : (d.onTime f).regs = d.regs := rfl
@[simp] theorem Dev.onTime_corAhead : (d.onTime f).corAhead = d.corAhead := rfl
@[simp] theorem Dev.onTime_env : (d.onTime f).env = d.env := rfl
@[simp] theorem Dev.onTime_host : (d.onTime f).host = d.host := rfl
@[simp] theorem Dev.onTime_txns : (d.onTime f).txns = d.txns := rfl
@[simp] theorem Dev.onTime_commits : (d.onTime f).commits = d.commits := rfl
@[simp] theorem Dev.onTime_prepared : (d.onTime f).prepared = d.prepared := rfl
@[simp] theorem Dev.onTime_cvu : (d.onTime f).cvu = d.cvu := rfl
@[simp] theorem Dev.onTime_clk : (d.onTime f).clk = d.clk := rfl
@[simp] theorem Dev.onTime_safe : (d.onTime f).safe = d.safe := rfl
@[simp] theorem Dev.onTime_mc : (d.onTime f).mc = d.mc := rfl
@[simp] theorem Dev.onTime_images : (d.onTime f).images = d.images := rfl
@[simp] theorem Dev.onTime_img : (d.onTime f).img = d.img := rfl
@[simp] theorem Dev.onTime_time : (d.onTime f).time = f d.time := rfl
@[simp] theorem Dev.onTime_senderNo : (d.onTime f).senderNo = d.senderNo := rfl
@[simp] theorem Dev.onTime_link : (d.onTime f).link = d.link := rfl
@[simp] theorem Dev.onTime_twin : (d.onTime f).twin = d.twin := rfl
@[simp] theorem Dev.onTime_ingest : (d.onTime f).ingest = d.ingest := rfl
@[simp] theorem Dev.onTime_flash : (d.onTime f).flash = d.flash := rfl
@[simp] theorem Dev.onTime_compose : (d.onTime f).compose = d.compose := rfl
@[simp] theorem Dev.onTime_fabric : (d.onTime f).fabric = d.fabric := rfl
@[simp] theorem Dev.onTime_lamp : (d.onTime f).lamp = d.lamp := rfl
@[simp] theorem Dev.onTime_cap : (d.onTime f).cap = d.cap := rfl
@[simp] theorem Dev.onTime_photo : (d.onTime f).photo = d.photo := rfl
@[simp] theorem Dev.onTime_out : (d.onTime f).out = d.out := rfl
@[simp] theorem Dev.onTime_reg (r : Nat) : (d.onTime f).reg r = d.reg r := rfl
@[simp] theorem Dev.onTime_get (x : Fld) : (d.onTime f).get x = d.get x := rfl
@[simp] theorem Dev.onTime_bit (x : Fld) : (d.onTime f).bit x = d.bit x := rfl
@[simp] theorem Dev.onTime_isSender : (d.onTime f).isSender = d.isSender := rfl
@[simp] theorem Dev.onTime_isTile : (d.onTime f).isTile = d.isTile := rfl
@[simp] theorem Dev.onTime_service : (d.onTime f).service = d.service := rfl
end

/-! ### onLink -/

section
variable (d : Dev) (f : LinkState → LinkState)
@[simp] theorem Dev.onLink_boot : (d.onLink f).boot = d.boot := rfl
@[simp] theorem Dev.onLink_porst : (d.onLink f).porst = d.porst := rfl
@[simp] theorem Dev.onLink_supplyLow : (d.onLink f).supplyLow = d.supplyLow := rfl
@[simp] theorem Dev.onLink_deepPorst : (d.onLink f).deepPorst = d.deepPorst := rfl
@[simp] theorem Dev.onLink_power : (d.onLink f).power = d.power := rfl
@[simp] theorem Dev.onLink_powerGoal : (d.onLink f).powerGoal = d.powerGoal := rfl
@[simp] theorem Dev.onLink_powerCmd : (d.onLink f).powerCmd = d.powerCmd := rfl
@[simp] theorem Dev.onLink_wakeLate : (d.onLink f).wakeLate = d.wakeLate := rfl
@[simp] theorem Dev.onLink_lastStatus : (d.onLink f).lastStatus = d.lastStatus := rfl
@[simp] theorem Dev.onLink_lastDetail : (d.onLink f).lastDetail = d.lastDetail := rfl
@[simp] theorem Dev.onLink_role : (d.onLink f).role = d.role := rfl
@[simp] theorem Dev.onLink_variant : (d.onLink f).variant = d.variant := rfl
@[simp] theorem Dev.onLink_roleForced : (d.onLink f).roleForced = d.roleForced := rfl
@[simp] theorem Dev.onLink_now : (d.onLink f).now = d.now := rfl
@[simp] theorem Dev.onLink_free : (d.onLink f).free = d.free := rfl
@[simp] theorem Dev.onLink_regs : (d.onLink f).regs = d.regs := rfl
@[simp] theorem Dev.onLink_corAhead : (d.onLink f).corAhead = d.corAhead := rfl
@[simp] theorem Dev.onLink_env : (d.onLink f).env = d.env := rfl
@[simp] theorem Dev.onLink_host : (d.onLink f).host = d.host := rfl
@[simp] theorem Dev.onLink_txns : (d.onLink f).txns = d.txns := rfl
@[simp] theorem Dev.onLink_commits : (d.onLink f).commits = d.commits := rfl
@[simp] theorem Dev.onLink_prepared : (d.onLink f).prepared = d.prepared := rfl
@[simp] theorem Dev.onLink_cvu : (d.onLink f).cvu = d.cvu := rfl
@[simp] theorem Dev.onLink_clk : (d.onLink f).clk = d.clk := rfl
@[simp] theorem Dev.onLink_safe : (d.onLink f).safe = d.safe := rfl
@[simp] theorem Dev.onLink_mc : (d.onLink f).mc = d.mc := rfl
@[simp] theorem Dev.onLink_images : (d.onLink f).images = d.images := rfl
@[simp] theorem Dev.onLink_img : (d.onLink f).img = d.img := rfl
@[simp] theorem Dev.onLink_time : (d.onLink f).time = d.time := rfl
@[simp] theorem Dev.onLink_senderNo : (d.onLink f).senderNo = d.senderNo := rfl
@[simp] theorem Dev.onLink_link : (d.onLink f).link = f d.link := rfl
@[simp] theorem Dev.onLink_twin : (d.onLink f).twin = d.twin := rfl
@[simp] theorem Dev.onLink_ingest : (d.onLink f).ingest = d.ingest := rfl
@[simp] theorem Dev.onLink_flash : (d.onLink f).flash = d.flash := rfl
@[simp] theorem Dev.onLink_compose : (d.onLink f).compose = d.compose := rfl
@[simp] theorem Dev.onLink_fabric : (d.onLink f).fabric = d.fabric := rfl
@[simp] theorem Dev.onLink_lamp : (d.onLink f).lamp = d.lamp := rfl
@[simp] theorem Dev.onLink_cap : (d.onLink f).cap = d.cap := rfl
@[simp] theorem Dev.onLink_photo : (d.onLink f).photo = d.photo := rfl
@[simp] theorem Dev.onLink_out : (d.onLink f).out = d.out := rfl
@[simp] theorem Dev.onLink_reg (r : Nat) : (d.onLink f).reg r = d.reg r := rfl
@[simp] theorem Dev.onLink_get (x : Fld) : (d.onLink f).get x = d.get x := rfl
@[simp] theorem Dev.onLink_bit (x : Fld) : (d.onLink f).bit x = d.bit x := rfl
@[simp] theorem Dev.onLink_isSender : (d.onLink f).isSender = d.isSender := rfl
@[simp] theorem Dev.onLink_isTile : (d.onLink f).isTile = d.isTile := rfl
@[simp] theorem Dev.onLink_service : (d.onLink f).service = d.service := rfl
end

/-! ### onTwin -/

section
variable (d : Dev) (f : Twin → Twin)
@[simp] theorem Dev.onTwin_boot : (d.onTwin f).boot = d.boot := rfl
@[simp] theorem Dev.onTwin_porst : (d.onTwin f).porst = d.porst := rfl
@[simp] theorem Dev.onTwin_supplyLow : (d.onTwin f).supplyLow = d.supplyLow := rfl
@[simp] theorem Dev.onTwin_deepPorst : (d.onTwin f).deepPorst = d.deepPorst := rfl
@[simp] theorem Dev.onTwin_power : (d.onTwin f).power = d.power := rfl
@[simp] theorem Dev.onTwin_powerGoal : (d.onTwin f).powerGoal = d.powerGoal := rfl
@[simp] theorem Dev.onTwin_powerCmd : (d.onTwin f).powerCmd = d.powerCmd := rfl
@[simp] theorem Dev.onTwin_wakeLate : (d.onTwin f).wakeLate = d.wakeLate := rfl
@[simp] theorem Dev.onTwin_lastStatus : (d.onTwin f).lastStatus = d.lastStatus := rfl
@[simp] theorem Dev.onTwin_lastDetail : (d.onTwin f).lastDetail = d.lastDetail := rfl
@[simp] theorem Dev.onTwin_role : (d.onTwin f).role = d.role := rfl
@[simp] theorem Dev.onTwin_variant : (d.onTwin f).variant = d.variant := rfl
@[simp] theorem Dev.onTwin_roleForced : (d.onTwin f).roleForced = d.roleForced := rfl
@[simp] theorem Dev.onTwin_now : (d.onTwin f).now = d.now := rfl
@[simp] theorem Dev.onTwin_free : (d.onTwin f).free = d.free := rfl
@[simp] theorem Dev.onTwin_regs : (d.onTwin f).regs = d.regs := rfl
@[simp] theorem Dev.onTwin_corAhead : (d.onTwin f).corAhead = d.corAhead := rfl
@[simp] theorem Dev.onTwin_env : (d.onTwin f).env = d.env := rfl
@[simp] theorem Dev.onTwin_host : (d.onTwin f).host = d.host := rfl
@[simp] theorem Dev.onTwin_txns : (d.onTwin f).txns = d.txns := rfl
@[simp] theorem Dev.onTwin_commits : (d.onTwin f).commits = d.commits := rfl
@[simp] theorem Dev.onTwin_prepared : (d.onTwin f).prepared = d.prepared := rfl
@[simp] theorem Dev.onTwin_cvu : (d.onTwin f).cvu = d.cvu := rfl
@[simp] theorem Dev.onTwin_clk : (d.onTwin f).clk = d.clk := rfl
@[simp] theorem Dev.onTwin_safe : (d.onTwin f).safe = d.safe := rfl
@[simp] theorem Dev.onTwin_mc : (d.onTwin f).mc = d.mc := rfl
@[simp] theorem Dev.onTwin_images : (d.onTwin f).images = d.images := rfl
@[simp] theorem Dev.onTwin_img : (d.onTwin f).img = d.img := rfl
@[simp] theorem Dev.onTwin_time : (d.onTwin f).time = d.time := rfl
@[simp] theorem Dev.onTwin_senderNo : (d.onTwin f).senderNo = d.senderNo := rfl
@[simp] theorem Dev.onTwin_link : (d.onTwin f).link = d.link := rfl
@[simp] theorem Dev.onTwin_twin : (d.onTwin f).twin = f d.twin := rfl
@[simp] theorem Dev.onTwin_ingest : (d.onTwin f).ingest = d.ingest := rfl
@[simp] theorem Dev.onTwin_flash : (d.onTwin f).flash = d.flash := rfl
@[simp] theorem Dev.onTwin_compose : (d.onTwin f).compose = d.compose := rfl
@[simp] theorem Dev.onTwin_fabric : (d.onTwin f).fabric = d.fabric := rfl
@[simp] theorem Dev.onTwin_lamp : (d.onTwin f).lamp = d.lamp := rfl
@[simp] theorem Dev.onTwin_cap : (d.onTwin f).cap = d.cap := rfl
@[simp] theorem Dev.onTwin_photo : (d.onTwin f).photo = d.photo := rfl
@[simp] theorem Dev.onTwin_out : (d.onTwin f).out = d.out := rfl
@[simp] theorem Dev.onTwin_reg (r : Nat) : (d.onTwin f).reg r = d.reg r := rfl
@[simp] theorem Dev.onTwin_get (x : Fld) : (d.onTwin f).get x = d.get x := rfl
@[simp] theorem Dev.onTwin_bit (x : Fld) : (d.onTwin f).bit x = d.bit x := rfl
@[simp] theorem Dev.onTwin_isSender : (d.onTwin f).isSender = d.isSender := rfl
@[simp] theorem Dev.onTwin_isTile : (d.onTwin f).isTile = d.isTile := rfl
@[simp] theorem Dev.onTwin_service : (d.onTwin f).service = d.service := rfl
end

/-! ### onCompose -/

section
variable (d : Dev) (f : Compose → Compose)
@[simp] theorem Dev.onCompose_boot : (d.onCompose f).boot = d.boot := rfl
@[simp] theorem Dev.onCompose_porst : (d.onCompose f).porst = d.porst := rfl
@[simp] theorem Dev.onCompose_supplyLow : (d.onCompose f).supplyLow = d.supplyLow := rfl
@[simp] theorem Dev.onCompose_deepPorst : (d.onCompose f).deepPorst = d.deepPorst := rfl
@[simp] theorem Dev.onCompose_power : (d.onCompose f).power = d.power := rfl
@[simp] theorem Dev.onCompose_powerGoal : (d.onCompose f).powerGoal = d.powerGoal := rfl
@[simp] theorem Dev.onCompose_powerCmd : (d.onCompose f).powerCmd = d.powerCmd := rfl
@[simp] theorem Dev.onCompose_wakeLate : (d.onCompose f).wakeLate = d.wakeLate := rfl
@[simp] theorem Dev.onCompose_lastStatus : (d.onCompose f).lastStatus = d.lastStatus := rfl
@[simp] theorem Dev.onCompose_lastDetail : (d.onCompose f).lastDetail = d.lastDetail := rfl
@[simp] theorem Dev.onCompose_role : (d.onCompose f).role = d.role := rfl
@[simp] theorem Dev.onCompose_variant : (d.onCompose f).variant = d.variant := rfl
@[simp] theorem Dev.onCompose_roleForced : (d.onCompose f).roleForced = d.roleForced := rfl
@[simp] theorem Dev.onCompose_now : (d.onCompose f).now = d.now := rfl
@[simp] theorem Dev.onCompose_free : (d.onCompose f).free = d.free := rfl
@[simp] theorem Dev.onCompose_regs : (d.onCompose f).regs = d.regs := rfl
@[simp] theorem Dev.onCompose_corAhead : (d.onCompose f).corAhead = d.corAhead := rfl
@[simp] theorem Dev.onCompose_env : (d.onCompose f).env = d.env := rfl
@[simp] theorem Dev.onCompose_host : (d.onCompose f).host = d.host := rfl
@[simp] theorem Dev.onCompose_txns : (d.onCompose f).txns = d.txns := rfl
@[simp] theorem Dev.onCompose_commits : (d.onCompose f).commits = d.commits := rfl
@[simp] theorem Dev.onCompose_prepared : (d.onCompose f).prepared = d.prepared := rfl
@[simp] theorem Dev.onCompose_cvu : (d.onCompose f).cvu = d.cvu := rfl
@[simp] theorem Dev.onCompose_clk : (d.onCompose f).clk = d.clk := rfl
@[simp] theorem Dev.onCompose_safe : (d.onCompose f).safe = d.safe := rfl
@[simp] theorem Dev.onCompose_mc : (d.onCompose f).mc = d.mc := rfl
@[simp] theorem Dev.onCompose_images : (d.onCompose f).images = d.images := rfl
@[simp] theorem Dev.onCompose_img : (d.onCompose f).img = d.img := rfl
@[simp] theorem Dev.onCompose_time : (d.onCompose f).time = d.time := rfl
@[simp] theorem Dev.onCompose_senderNo : (d.onCompose f).senderNo = d.senderNo := rfl
@[simp] theorem Dev.onCompose_link : (d.onCompose f).link = d.link := rfl
@[simp] theorem Dev.onCompose_twin : (d.onCompose f).twin = d.twin := rfl
@[simp] theorem Dev.onCompose_ingest : (d.onCompose f).ingest = d.ingest := rfl
@[simp] theorem Dev.onCompose_flash : (d.onCompose f).flash = d.flash := rfl
@[simp] theorem Dev.onCompose_compose : (d.onCompose f).compose = f d.compose := rfl
@[simp] theorem Dev.onCompose_fabric : (d.onCompose f).fabric = d.fabric := rfl
@[simp] theorem Dev.onCompose_lamp : (d.onCompose f).lamp = d.lamp := rfl
@[simp] theorem Dev.onCompose_cap : (d.onCompose f).cap = d.cap := rfl
@[simp] theorem Dev.onCompose_photo : (d.onCompose f).photo = d.photo := rfl
@[simp] theorem Dev.onCompose_out : (d.onCompose f).out = d.out := rfl
@[simp] theorem Dev.onCompose_reg (r : Nat) : (d.onCompose f).reg r = d.reg r := rfl
@[simp] theorem Dev.onCompose_get (x : Fld) : (d.onCompose f).get x = d.get x := rfl
@[simp] theorem Dev.onCompose_bit (x : Fld) : (d.onCompose f).bit x = d.bit x := rfl
@[simp] theorem Dev.onCompose_isSender : (d.onCompose f).isSender = d.isSender := rfl
@[simp] theorem Dev.onCompose_isTile : (d.onCompose f).isTile = d.isTile := rfl
@[simp] theorem Dev.onCompose_service : (d.onCompose f).service = d.service := rfl
end

/-! ### onLamp -/

section
variable (d : Dev) (f : Lamp → Lamp)
@[simp] theorem Dev.onLamp_boot : (d.onLamp f).boot = d.boot := rfl
@[simp] theorem Dev.onLamp_porst : (d.onLamp f).porst = d.porst := rfl
@[simp] theorem Dev.onLamp_supplyLow : (d.onLamp f).supplyLow = d.supplyLow := rfl
@[simp] theorem Dev.onLamp_deepPorst : (d.onLamp f).deepPorst = d.deepPorst := rfl
@[simp] theorem Dev.onLamp_power : (d.onLamp f).power = d.power := rfl
@[simp] theorem Dev.onLamp_powerGoal : (d.onLamp f).powerGoal = d.powerGoal := rfl
@[simp] theorem Dev.onLamp_powerCmd : (d.onLamp f).powerCmd = d.powerCmd := rfl
@[simp] theorem Dev.onLamp_wakeLate : (d.onLamp f).wakeLate = d.wakeLate := rfl
@[simp] theorem Dev.onLamp_lastStatus : (d.onLamp f).lastStatus = d.lastStatus := rfl
@[simp] theorem Dev.onLamp_lastDetail : (d.onLamp f).lastDetail = d.lastDetail := rfl
@[simp] theorem Dev.onLamp_role : (d.onLamp f).role = d.role := rfl
@[simp] theorem Dev.onLamp_variant : (d.onLamp f).variant = d.variant := rfl
@[simp] theorem Dev.onLamp_roleForced : (d.onLamp f).roleForced = d.roleForced := rfl
@[simp] theorem Dev.onLamp_now : (d.onLamp f).now = d.now := rfl
@[simp] theorem Dev.onLamp_free : (d.onLamp f).free = d.free := rfl
@[simp] theorem Dev.onLamp_regs : (d.onLamp f).regs = d.regs := rfl
@[simp] theorem Dev.onLamp_corAhead : (d.onLamp f).corAhead = d.corAhead := rfl
@[simp] theorem Dev.onLamp_env : (d.onLamp f).env = d.env := rfl
@[simp] theorem Dev.onLamp_host : (d.onLamp f).host = d.host := rfl
@[simp] theorem Dev.onLamp_txns : (d.onLamp f).txns = d.txns := rfl
@[simp] theorem Dev.onLamp_commits : (d.onLamp f).commits = d.commits := rfl
@[simp] theorem Dev.onLamp_prepared : (d.onLamp f).prepared = d.prepared := rfl
@[simp] theorem Dev.onLamp_cvu : (d.onLamp f).cvu = d.cvu := rfl
@[simp] theorem Dev.onLamp_clk : (d.onLamp f).clk = d.clk := rfl
@[simp] theorem Dev.onLamp_safe : (d.onLamp f).safe = d.safe := rfl
@[simp] theorem Dev.onLamp_mc : (d.onLamp f).mc = d.mc := rfl
@[simp] theorem Dev.onLamp_images : (d.onLamp f).images = d.images := rfl
@[simp] theorem Dev.onLamp_img : (d.onLamp f).img = d.img := rfl
@[simp] theorem Dev.onLamp_time : (d.onLamp f).time = d.time := rfl
@[simp] theorem Dev.onLamp_senderNo : (d.onLamp f).senderNo = d.senderNo := rfl
@[simp] theorem Dev.onLamp_link : (d.onLamp f).link = d.link := rfl
@[simp] theorem Dev.onLamp_twin : (d.onLamp f).twin = d.twin := rfl
@[simp] theorem Dev.onLamp_ingest : (d.onLamp f).ingest = d.ingest := rfl
@[simp] theorem Dev.onLamp_flash : (d.onLamp f).flash = d.flash := rfl
@[simp] theorem Dev.onLamp_compose : (d.onLamp f).compose = d.compose := rfl
@[simp] theorem Dev.onLamp_fabric : (d.onLamp f).fabric = d.fabric := rfl
@[simp] theorem Dev.onLamp_lamp : (d.onLamp f).lamp = f d.lamp := rfl
@[simp] theorem Dev.onLamp_cap : (d.onLamp f).cap = d.cap := rfl
@[simp] theorem Dev.onLamp_photo : (d.onLamp f).photo = d.photo := rfl
@[simp] theorem Dev.onLamp_out : (d.onLamp f).out = d.out := rfl
@[simp] theorem Dev.onLamp_reg (r : Nat) : (d.onLamp f).reg r = d.reg r := rfl
@[simp] theorem Dev.onLamp_get (x : Fld) : (d.onLamp f).get x = d.get x := rfl
@[simp] theorem Dev.onLamp_bit (x : Fld) : (d.onLamp f).bit x = d.bit x := rfl
@[simp] theorem Dev.onLamp_isSender : (d.onLamp f).isSender = d.isSender := rfl
@[simp] theorem Dev.onLamp_isTile : (d.onLamp f).isTile = d.isTile := rfl
@[simp] theorem Dev.onLamp_service : (d.onLamp f).service = d.service := rfl
end

/-! ### onPhoto -/

section
variable (d : Dev) (f : Photo → Photo)
@[simp] theorem Dev.onPhoto_boot : (d.onPhoto f).boot = d.boot := rfl
@[simp] theorem Dev.onPhoto_porst : (d.onPhoto f).porst = d.porst := rfl
@[simp] theorem Dev.onPhoto_supplyLow : (d.onPhoto f).supplyLow = d.supplyLow := rfl
@[simp] theorem Dev.onPhoto_deepPorst : (d.onPhoto f).deepPorst = d.deepPorst := rfl
@[simp] theorem Dev.onPhoto_power : (d.onPhoto f).power = d.power := rfl
@[simp] theorem Dev.onPhoto_powerGoal : (d.onPhoto f).powerGoal = d.powerGoal := rfl
@[simp] theorem Dev.onPhoto_powerCmd : (d.onPhoto f).powerCmd = d.powerCmd := rfl
@[simp] theorem Dev.onPhoto_wakeLate : (d.onPhoto f).wakeLate = d.wakeLate := rfl
@[simp] theorem Dev.onPhoto_lastStatus : (d.onPhoto f).lastStatus = d.lastStatus := rfl
@[simp] theorem Dev.onPhoto_lastDetail : (d.onPhoto f).lastDetail = d.lastDetail := rfl
@[simp] theorem Dev.onPhoto_role : (d.onPhoto f).role = d.role := rfl
@[simp] theorem Dev.onPhoto_variant : (d.onPhoto f).variant = d.variant := rfl
@[simp] theorem Dev.onPhoto_roleForced : (d.onPhoto f).roleForced = d.roleForced := rfl
@[simp] theorem Dev.onPhoto_now : (d.onPhoto f).now = d.now := rfl
@[simp] theorem Dev.onPhoto_free : (d.onPhoto f).free = d.free := rfl
@[simp] theorem Dev.onPhoto_regs : (d.onPhoto f).regs = d.regs := rfl
@[simp] theorem Dev.onPhoto_corAhead : (d.onPhoto f).corAhead = d.corAhead := rfl
@[simp] theorem Dev.onPhoto_env : (d.onPhoto f).env = d.env := rfl
@[simp] theorem Dev.onPhoto_host : (d.onPhoto f).host = d.host := rfl
@[simp] theorem Dev.onPhoto_txns : (d.onPhoto f).txns = d.txns := rfl
@[simp] theorem Dev.onPhoto_commits : (d.onPhoto f).commits = d.commits := rfl
@[simp] theorem Dev.onPhoto_prepared : (d.onPhoto f).prepared = d.prepared := rfl
@[simp] theorem Dev.onPhoto_cvu : (d.onPhoto f).cvu = d.cvu := rfl
@[simp] theorem Dev.onPhoto_clk : (d.onPhoto f).clk = d.clk := rfl
@[simp] theorem Dev.onPhoto_safe : (d.onPhoto f).safe = d.safe := rfl
@[simp] theorem Dev.onPhoto_mc : (d.onPhoto f).mc = d.mc := rfl
@[simp] theorem Dev.onPhoto_images : (d.onPhoto f).images = d.images := rfl
@[simp] theorem Dev.onPhoto_img : (d.onPhoto f).img = d.img := rfl
@[simp] theorem Dev.onPhoto_time : (d.onPhoto f).time = d.time := rfl
@[simp] theorem Dev.onPhoto_senderNo : (d.onPhoto f).senderNo = d.senderNo := rfl
@[simp] theorem Dev.onPhoto_link : (d.onPhoto f).link = d.link := rfl
@[simp] theorem Dev.onPhoto_twin : (d.onPhoto f).twin = d.twin := rfl
@[simp] theorem Dev.onPhoto_ingest : (d.onPhoto f).ingest = d.ingest := rfl
@[simp] theorem Dev.onPhoto_flash : (d.onPhoto f).flash = d.flash := rfl
@[simp] theorem Dev.onPhoto_compose : (d.onPhoto f).compose = d.compose := rfl
@[simp] theorem Dev.onPhoto_fabric : (d.onPhoto f).fabric = d.fabric := rfl
@[simp] theorem Dev.onPhoto_lamp : (d.onPhoto f).lamp = d.lamp := rfl
@[simp] theorem Dev.onPhoto_cap : (d.onPhoto f).cap = d.cap := rfl
@[simp] theorem Dev.onPhoto_photo : (d.onPhoto f).photo = f d.photo := rfl
@[simp] theorem Dev.onPhoto_out : (d.onPhoto f).out = d.out := rfl
@[simp] theorem Dev.onPhoto_reg (r : Nat) : (d.onPhoto f).reg r = d.reg r := rfl
@[simp] theorem Dev.onPhoto_get (x : Fld) : (d.onPhoto f).get x = d.get x := rfl
@[simp] theorem Dev.onPhoto_bit (x : Fld) : (d.onPhoto f).bit x = d.bit x := rfl
@[simp] theorem Dev.onPhoto_isSender : (d.onPhoto f).isSender = d.isSender := rfl
@[simp] theorem Dev.onPhoto_isTile : (d.onPhoto f).isTile = d.isTile := rfl
@[simp] theorem Dev.onPhoto_service : (d.onPhoto f).service = d.service := rfl
end

/-! ### onFlash -/

section
variable (d : Dev) (f : Flash → Flash)
@[simp] theorem Dev.onFlash_boot : (d.onFlash f).boot = d.boot := rfl
@[simp] theorem Dev.onFlash_porst : (d.onFlash f).porst = d.porst := rfl
@[simp] theorem Dev.onFlash_supplyLow : (d.onFlash f).supplyLow = d.supplyLow := rfl
@[simp] theorem Dev.onFlash_deepPorst : (d.onFlash f).deepPorst = d.deepPorst := rfl
@[simp] theorem Dev.onFlash_power : (d.onFlash f).power = d.power := rfl
@[simp] theorem Dev.onFlash_powerGoal : (d.onFlash f).powerGoal = d.powerGoal := rfl
@[simp] theorem Dev.onFlash_powerCmd : (d.onFlash f).powerCmd = d.powerCmd := rfl
@[simp] theorem Dev.onFlash_wakeLate : (d.onFlash f).wakeLate = d.wakeLate := rfl
@[simp] theorem Dev.onFlash_lastStatus : (d.onFlash f).lastStatus = d.lastStatus := rfl
@[simp] theorem Dev.onFlash_lastDetail : (d.onFlash f).lastDetail = d.lastDetail := rfl
@[simp] theorem Dev.onFlash_role : (d.onFlash f).role = d.role := rfl
@[simp] theorem Dev.onFlash_variant : (d.onFlash f).variant = d.variant := rfl
@[simp] theorem Dev.onFlash_roleForced : (d.onFlash f).roleForced = d.roleForced := rfl
@[simp] theorem Dev.onFlash_now : (d.onFlash f).now = d.now := rfl
@[simp] theorem Dev.onFlash_free : (d.onFlash f).free = d.free := rfl
@[simp] theorem Dev.onFlash_regs : (d.onFlash f).regs = d.regs := rfl
@[simp] theorem Dev.onFlash_corAhead : (d.onFlash f).corAhead = d.corAhead := rfl
@[simp] theorem Dev.onFlash_env : (d.onFlash f).env = d.env := rfl
@[simp] theorem Dev.onFlash_host : (d.onFlash f).host = d.host := rfl
@[simp] theorem Dev.onFlash_txns : (d.onFlash f).txns = d.txns := rfl
@[simp] theorem Dev.onFlash_commits : (d.onFlash f).commits = d.commits := rfl
@[simp] theorem Dev.onFlash_prepared : (d.onFlash f).prepared = d.prepared := rfl
@[simp] theorem Dev.onFlash_cvu : (d.onFlash f).cvu = d.cvu := rfl
@[simp] theorem Dev.onFlash_clk : (d.onFlash f).clk = d.clk := rfl
@[simp] theorem Dev.onFlash_safe : (d.onFlash f).safe = d.safe := rfl
@[simp] theorem Dev.onFlash_mc : (d.onFlash f).mc = d.mc := rfl
@[simp] theorem Dev.onFlash_images : (d.onFlash f).images = d.images := rfl
@[simp] theorem Dev.onFlash_img : (d.onFlash f).img = d.img := rfl
@[simp] theorem Dev.onFlash_time : (d.onFlash f).time = d.time := rfl
@[simp] theorem Dev.onFlash_senderNo : (d.onFlash f).senderNo = d.senderNo := rfl
@[simp] theorem Dev.onFlash_link : (d.onFlash f).link = d.link := rfl
@[simp] theorem Dev.onFlash_twin : (d.onFlash f).twin = d.twin := rfl
@[simp] theorem Dev.onFlash_ingest : (d.onFlash f).ingest = d.ingest := rfl
@[simp] theorem Dev.onFlash_flash : (d.onFlash f).flash = f d.flash := rfl
@[simp] theorem Dev.onFlash_compose : (d.onFlash f).compose = d.compose := rfl
@[simp] theorem Dev.onFlash_fabric : (d.onFlash f).fabric = d.fabric := rfl
@[simp] theorem Dev.onFlash_lamp : (d.onFlash f).lamp = d.lamp := rfl
@[simp] theorem Dev.onFlash_cap : (d.onFlash f).cap = d.cap := rfl
@[simp] theorem Dev.onFlash_photo : (d.onFlash f).photo = d.photo := rfl
@[simp] theorem Dev.onFlash_out : (d.onFlash f).out = d.out := rfl
@[simp] theorem Dev.onFlash_reg (r : Nat) : (d.onFlash f).reg r = d.reg r := rfl
@[simp] theorem Dev.onFlash_get (x : Fld) : (d.onFlash f).get x = d.get x := rfl
@[simp] theorem Dev.onFlash_bit (x : Fld) : (d.onFlash f).bit x = d.bit x := rfl
@[simp] theorem Dev.onFlash_isSender : (d.onFlash f).isSender = d.isSender := rfl
@[simp] theorem Dev.onFlash_isTile : (d.onFlash f).isTile = d.isTile := rfl
@[simp] theorem Dev.onFlash_service : (d.onFlash f).service = d.service := rfl
end

/-! ### onIngest -/

section
variable (d : Dev) (f : Ingest → Ingest)
@[simp] theorem Dev.onIngest_boot : (d.onIngest f).boot = d.boot := rfl
@[simp] theorem Dev.onIngest_porst : (d.onIngest f).porst = d.porst := rfl
@[simp] theorem Dev.onIngest_supplyLow : (d.onIngest f).supplyLow = d.supplyLow := rfl
@[simp] theorem Dev.onIngest_deepPorst : (d.onIngest f).deepPorst = d.deepPorst := rfl
@[simp] theorem Dev.onIngest_power : (d.onIngest f).power = d.power := rfl
@[simp] theorem Dev.onIngest_powerGoal : (d.onIngest f).powerGoal = d.powerGoal := rfl
@[simp] theorem Dev.onIngest_powerCmd : (d.onIngest f).powerCmd = d.powerCmd := rfl
@[simp] theorem Dev.onIngest_wakeLate : (d.onIngest f).wakeLate = d.wakeLate := rfl
@[simp] theorem Dev.onIngest_lastStatus : (d.onIngest f).lastStatus = d.lastStatus := rfl
@[simp] theorem Dev.onIngest_lastDetail : (d.onIngest f).lastDetail = d.lastDetail := rfl
@[simp] theorem Dev.onIngest_role : (d.onIngest f).role = d.role := rfl
@[simp] theorem Dev.onIngest_variant : (d.onIngest f).variant = d.variant := rfl
@[simp] theorem Dev.onIngest_roleForced : (d.onIngest f).roleForced = d.roleForced := rfl
@[simp] theorem Dev.onIngest_now : (d.onIngest f).now = d.now := rfl
@[simp] theorem Dev.onIngest_free : (d.onIngest f).free = d.free := rfl
@[simp] theorem Dev.onIngest_regs : (d.onIngest f).regs = d.regs := rfl
@[simp] theorem Dev.onIngest_corAhead : (d.onIngest f).corAhead = d.corAhead := rfl
@[simp] theorem Dev.onIngest_env : (d.onIngest f).env = d.env := rfl
@[simp] theorem Dev.onIngest_host : (d.onIngest f).host = d.host := rfl
@[simp] theorem Dev.onIngest_txns : (d.onIngest f).txns = d.txns := rfl
@[simp] theorem Dev.onIngest_commits : (d.onIngest f).commits = d.commits := rfl
@[simp] theorem Dev.onIngest_prepared : (d.onIngest f).prepared = d.prepared := rfl
@[simp] theorem Dev.onIngest_cvu : (d.onIngest f).cvu = d.cvu := rfl
@[simp] theorem Dev.onIngest_clk : (d.onIngest f).clk = d.clk := rfl
@[simp] theorem Dev.onIngest_safe : (d.onIngest f).safe = d.safe := rfl
@[simp] theorem Dev.onIngest_mc : (d.onIngest f).mc = d.mc := rfl
@[simp] theorem Dev.onIngest_images : (d.onIngest f).images = d.images := rfl
@[simp] theorem Dev.onIngest_img : (d.onIngest f).img = d.img := rfl
@[simp] theorem Dev.onIngest_time : (d.onIngest f).time = d.time := rfl
@[simp] theorem Dev.onIngest_senderNo : (d.onIngest f).senderNo = d.senderNo := rfl
@[simp] theorem Dev.onIngest_link : (d.onIngest f).link = d.link := rfl
@[simp] theorem Dev.onIngest_twin : (d.onIngest f).twin = d.twin := rfl
@[simp] theorem Dev.onIngest_ingest : (d.onIngest f).ingest = f d.ingest := rfl
@[simp] theorem Dev.onIngest_flash : (d.onIngest f).flash = d.flash := rfl
@[simp] theorem Dev.onIngest_compose : (d.onIngest f).compose = d.compose := rfl
@[simp] theorem Dev.onIngest_fabric : (d.onIngest f).fabric = d.fabric := rfl
@[simp] theorem Dev.onIngest_lamp : (d.onIngest f).lamp = d.lamp := rfl
@[simp] theorem Dev.onIngest_cap : (d.onIngest f).cap = d.cap := rfl
@[simp] theorem Dev.onIngest_photo : (d.onIngest f).photo = d.photo := rfl
@[simp] theorem Dev.onIngest_out : (d.onIngest f).out = d.out := rfl
@[simp] theorem Dev.onIngest_reg (r : Nat) : (d.onIngest f).reg r = d.reg r := rfl
@[simp] theorem Dev.onIngest_get (x : Fld) : (d.onIngest f).get x = d.get x := rfl
@[simp] theorem Dev.onIngest_bit (x : Fld) : (d.onIngest f).bit x = d.bit x := rfl
@[simp] theorem Dev.onIngest_isSender : (d.onIngest f).isSender = d.isSender := rfl
@[simp] theorem Dev.onIngest_isTile : (d.onIngest f).isTile = d.isTile := rfl
@[simp] theorem Dev.onIngest_service : (d.onIngest f).service = d.service := rfl
end

/-! ### onPcie -/

section
variable (d : Dev) (n : Nat) (f : PcieQ → PcieQ)
@[simp] theorem Dev.onPcie_boot : (d.onPcie n f).boot = d.boot := rfl
@[simp] theorem Dev.onPcie_porst : (d.onPcie n f).porst = d.porst := rfl
@[simp] theorem Dev.onPcie_supplyLow : (d.onPcie n f).supplyLow = d.supplyLow := rfl
@[simp] theorem Dev.onPcie_deepPorst : (d.onPcie n f).deepPorst = d.deepPorst := rfl
@[simp] theorem Dev.onPcie_power : (d.onPcie n f).power = d.power := rfl
@[simp] theorem Dev.onPcie_powerGoal : (d.onPcie n f).powerGoal = d.powerGoal := rfl
@[simp] theorem Dev.onPcie_powerCmd : (d.onPcie n f).powerCmd = d.powerCmd := rfl
@[simp] theorem Dev.onPcie_wakeLate : (d.onPcie n f).wakeLate = d.wakeLate := rfl
@[simp] theorem Dev.onPcie_lastStatus : (d.onPcie n f).lastStatus = d.lastStatus := rfl
@[simp] theorem Dev.onPcie_lastDetail : (d.onPcie n f).lastDetail = d.lastDetail := rfl
@[simp] theorem Dev.onPcie_role : (d.onPcie n f).role = d.role := rfl
@[simp] theorem Dev.onPcie_variant : (d.onPcie n f).variant = d.variant := rfl
@[simp] theorem Dev.onPcie_roleForced : (d.onPcie n f).roleForced = d.roleForced := rfl
@[simp] theorem Dev.onPcie_now : (d.onPcie n f).now = d.now := rfl
@[simp] theorem Dev.onPcie_free : (d.onPcie n f).free = d.free := rfl
@[simp] theorem Dev.onPcie_regs : (d.onPcie n f).regs = d.regs := rfl
@[simp] theorem Dev.onPcie_corAhead : (d.onPcie n f).corAhead = d.corAhead := rfl
@[simp] theorem Dev.onPcie_env : (d.onPcie n f).env = d.env := rfl
@[simp] theorem Dev.onPcie_txns : (d.onPcie n f).txns = d.txns := rfl
@[simp] theorem Dev.onPcie_commits : (d.onPcie n f).commits = d.commits := rfl
@[simp] theorem Dev.onPcie_prepared : (d.onPcie n f).prepared = d.prepared := rfl
@[simp] theorem Dev.onPcie_cvu : (d.onPcie n f).cvu = d.cvu := rfl
@[simp] theorem Dev.onPcie_clk : (d.onPcie n f).clk = d.clk := rfl
@[simp] theorem Dev.onPcie_safe : (d.onPcie n f).safe = d.safe := rfl
@[simp] theorem Dev.onPcie_mc : (d.onPcie n f).mc = d.mc := rfl
@[simp] theorem Dev.onPcie_images : (d.onPcie n f).images = d.images := rfl
@[simp] theorem Dev.onPcie_img : (d.onPcie n f).img = d.img := rfl
@[simp] theorem Dev.onPcie_time : (d.onPcie n f).time = d.time := rfl
@[simp] theorem Dev.onPcie_senderNo : (d.onPcie n f).senderNo = d.senderNo := rfl
@[simp] theorem Dev.onPcie_link : (d.onPcie n f).link = d.link := rfl
@[simp] theorem Dev.onPcie_twin : (d.onPcie n f).twin = d.twin := rfl
@[simp] theorem Dev.onPcie_ingest : (d.onPcie n f).ingest = d.ingest := rfl
@[simp] theorem Dev.onPcie_flash : (d.onPcie n f).flash = d.flash := rfl
@[simp] theorem Dev.onPcie_compose : (d.onPcie n f).compose = d.compose := rfl
@[simp] theorem Dev.onPcie_fabric : (d.onPcie n f).fabric = d.fabric := rfl
@[simp] theorem Dev.onPcie_lamp : (d.onPcie n f).lamp = d.lamp := rfl
@[simp] theorem Dev.onPcie_cap : (d.onPcie n f).cap = d.cap := rfl
@[simp] theorem Dev.onPcie_photo : (d.onPcie n f).photo = d.photo := rfl
@[simp] theorem Dev.onPcie_out : (d.onPcie n f).out = d.out := rfl
@[simp] theorem Dev.onPcie_reg (r : Nat) : (d.onPcie n f).reg r = d.reg r := rfl
@[simp] theorem Dev.onPcie_get (x : Fld) : (d.onPcie n f).get x = d.get x := rfl
@[simp] theorem Dev.onPcie_bit (x : Fld) : (d.onPcie n f).bit x = d.bit x := rfl
@[simp] theorem Dev.onPcie_isSender : (d.onPcie n f).isSender = d.isSender := rfl
@[simp] theorem Dev.onPcie_isTile : (d.onPcie n f).isTile = d.isTile := rfl
@[simp] theorem Dev.onPcie_service : (d.onPcie n f).service = d.service := rfl
end

/-! ### onCvu -/

section
variable (d : Dev) (n : Nat) (f : Cvu → Cvu)
@[simp] theorem Dev.onCvu_boot : (d.onCvu n f).boot = d.boot := rfl
@[simp] theorem Dev.onCvu_porst : (d.onCvu n f).porst = d.porst := rfl
@[simp] theorem Dev.onCvu_supplyLow : (d.onCvu n f).supplyLow = d.supplyLow := rfl
@[simp] theorem Dev.onCvu_deepPorst : (d.onCvu n f).deepPorst = d.deepPorst := rfl
@[simp] theorem Dev.onCvu_power : (d.onCvu n f).power = d.power := rfl
@[simp] theorem Dev.onCvu_powerGoal : (d.onCvu n f).powerGoal = d.powerGoal := rfl
@[simp] theorem Dev.onCvu_powerCmd : (d.onCvu n f).powerCmd = d.powerCmd := rfl
@[simp] theorem Dev.onCvu_wakeLate : (d.onCvu n f).wakeLate = d.wakeLate := rfl
@[simp] theorem Dev.onCvu_lastStatus : (d.onCvu n f).lastStatus = d.lastStatus := rfl
@[simp] theorem Dev.onCvu_lastDetail : (d.onCvu n f).lastDetail = d.lastDetail := rfl
@[simp] theorem Dev.onCvu_role : (d.onCvu n f).role = d.role := rfl
@[simp] theorem Dev.onCvu_variant : (d.onCvu n f).variant = d.variant := rfl
@[simp] theorem Dev.onCvu_roleForced : (d.onCvu n f).roleForced = d.roleForced := rfl
@[simp] theorem Dev.onCvu_now : (d.onCvu n f).now = d.now := rfl
@[simp] theorem Dev.onCvu_free : (d.onCvu n f).free = d.free := rfl
@[simp] theorem Dev.onCvu_regs : (d.onCvu n f).regs = d.regs := rfl
@[simp] theorem Dev.onCvu_corAhead : (d.onCvu n f).corAhead = d.corAhead := rfl
@[simp] theorem Dev.onCvu_env : (d.onCvu n f).env = d.env := rfl
@[simp] theorem Dev.onCvu_host : (d.onCvu n f).host = d.host := rfl
@[simp] theorem Dev.onCvu_txns : (d.onCvu n f).txns = d.txns := rfl
@[simp] theorem Dev.onCvu_commits : (d.onCvu n f).commits = d.commits := rfl
@[simp] theorem Dev.onCvu_prepared : (d.onCvu n f).prepared = d.prepared := rfl
@[simp] theorem Dev.onCvu_clk : (d.onCvu n f).clk = d.clk := rfl
@[simp] theorem Dev.onCvu_safe : (d.onCvu n f).safe = d.safe := rfl
@[simp] theorem Dev.onCvu_mc : (d.onCvu n f).mc = d.mc := rfl
@[simp] theorem Dev.onCvu_images : (d.onCvu n f).images = d.images := rfl
@[simp] theorem Dev.onCvu_img : (d.onCvu n f).img = d.img := rfl
@[simp] theorem Dev.onCvu_time : (d.onCvu n f).time = d.time := rfl
@[simp] theorem Dev.onCvu_senderNo : (d.onCvu n f).senderNo = d.senderNo := rfl
@[simp] theorem Dev.onCvu_link : (d.onCvu n f).link = d.link := rfl
@[simp] theorem Dev.onCvu_twin : (d.onCvu n f).twin = d.twin := rfl
@[simp] theorem Dev.onCvu_ingest : (d.onCvu n f).ingest = d.ingest := rfl
@[simp] theorem Dev.onCvu_flash : (d.onCvu n f).flash = d.flash := rfl
@[simp] theorem Dev.onCvu_compose : (d.onCvu n f).compose = d.compose := rfl
@[simp] theorem Dev.onCvu_fabric : (d.onCvu n f).fabric = d.fabric := rfl
@[simp] theorem Dev.onCvu_lamp : (d.onCvu n f).lamp = d.lamp := rfl
@[simp] theorem Dev.onCvu_cap : (d.onCvu n f).cap = d.cap := rfl
@[simp] theorem Dev.onCvu_photo : (d.onCvu n f).photo = d.photo := rfl
@[simp] theorem Dev.onCvu_out : (d.onCvu n f).out = d.out := rfl
@[simp] theorem Dev.onCvu_reg (r : Nat) : (d.onCvu n f).reg r = d.reg r := rfl
@[simp] theorem Dev.onCvu_get (x : Fld) : (d.onCvu n f).get x = d.get x := rfl
@[simp] theorem Dev.onCvu_bit (x : Fld) : (d.onCvu n f).bit x = d.bit x := rfl
@[simp] theorem Dev.onCvu_isSender : (d.onCvu n f).isSender = d.isSender := rfl
@[simp] theorem Dev.onCvu_isTile : (d.onCvu n f).isTile = d.isTile := rfl
@[simp] theorem Dev.onCvu_service : (d.onCvu n f).service = d.service := rfl
end

/-! ### onPort -/

section
variable (d : Dev) (n : Nat) (f : Port → Port)
@[simp] theorem Dev.onPort_boot : (d.onPort n f).boot = d.boot := rfl
@[simp] theorem Dev.onPort_porst : (d.onPort n f).porst = d.porst := rfl
@[simp] theorem Dev.onPort_supplyLow : (d.onPort n f).supplyLow = d.supplyLow := rfl
@[simp] theorem Dev.onPort_deepPorst : (d.onPort n f).deepPorst = d.deepPorst := rfl
@[simp] theorem Dev.onPort_power : (d.onPort n f).power = d.power := rfl
@[simp] theorem Dev.onPort_powerGoal : (d.onPort n f).powerGoal = d.powerGoal := rfl
@[simp] theorem Dev.onPort_powerCmd : (d.onPort n f).powerCmd = d.powerCmd := rfl
@[simp] theorem Dev.onPort_wakeLate : (d.onPort n f).wakeLate = d.wakeLate := rfl
@[simp] theorem Dev.onPort_lastStatus : (d.onPort n f).lastStatus = d.lastStatus := rfl
@[simp] theorem Dev.onPort_lastDetail : (d.onPort n f).lastDetail = d.lastDetail := rfl
@[simp] theorem Dev.onPort_role : (d.onPort n f).role = d.role := rfl
@[simp] theorem Dev.onPort_variant : (d.onPort n f).variant = d.variant := rfl
@[simp] theorem Dev.onPort_roleForced : (d.onPort n f).roleForced = d.roleForced := rfl
@[simp] theorem Dev.onPort_now : (d.onPort n f).now = d.now := rfl
@[simp] theorem Dev.onPort_free : (d.onPort n f).free = d.free := rfl
@[simp] theorem Dev.onPort_regs : (d.onPort n f).regs = d.regs := rfl
@[simp] theorem Dev.onPort_corAhead : (d.onPort n f).corAhead = d.corAhead := rfl
@[simp] theorem Dev.onPort_env : (d.onPort n f).env = d.env := rfl
@[simp] theorem Dev.onPort_host : (d.onPort n f).host = d.host := rfl
@[simp] theorem Dev.onPort_txns : (d.onPort n f).txns = d.txns := rfl
@[simp] theorem Dev.onPort_commits : (d.onPort n f).commits = d.commits := rfl
@[simp] theorem Dev.onPort_prepared : (d.onPort n f).prepared = d.prepared := rfl
@[simp] theorem Dev.onPort_cvu : (d.onPort n f).cvu = d.cvu := rfl
@[simp] theorem Dev.onPort_clk : (d.onPort n f).clk = d.clk := rfl
@[simp] theorem Dev.onPort_safe : (d.onPort n f).safe = d.safe := rfl
@[simp] theorem Dev.onPort_mc : (d.onPort n f).mc = d.mc := rfl
@[simp] theorem Dev.onPort_images : (d.onPort n f).images = d.images := rfl
@[simp] theorem Dev.onPort_img : (d.onPort n f).img = d.img := rfl
@[simp] theorem Dev.onPort_time : (d.onPort n f).time = d.time := rfl
@[simp] theorem Dev.onPort_senderNo : (d.onPort n f).senderNo = d.senderNo := rfl
@[simp] theorem Dev.onPort_twin : (d.onPort n f).twin = d.twin := rfl
@[simp] theorem Dev.onPort_ingest : (d.onPort n f).ingest = d.ingest := rfl
@[simp] theorem Dev.onPort_flash : (d.onPort n f).flash = d.flash := rfl
@[simp] theorem Dev.onPort_compose : (d.onPort n f).compose = d.compose := rfl
@[simp] theorem Dev.onPort_fabric : (d.onPort n f).fabric = d.fabric := rfl
@[simp] theorem Dev.onPort_lamp : (d.onPort n f).lamp = d.lamp := rfl
@[simp] theorem Dev.onPort_cap : (d.onPort n f).cap = d.cap := rfl
@[simp] theorem Dev.onPort_photo : (d.onPort n f).photo = d.photo := rfl
@[simp] theorem Dev.onPort_out : (d.onPort n f).out = d.out := rfl
@[simp] theorem Dev.onPort_reg (r : Nat) : (d.onPort n f).reg r = d.reg r := rfl
@[simp] theorem Dev.onPort_get (x : Fld) : (d.onPort n f).get x = d.get x := rfl
@[simp] theorem Dev.onPort_bit (x : Fld) : (d.onPort n f).bit x = d.bit x := rfl
@[simp] theorem Dev.onPort_isSender : (d.onPort n f).isSender = d.isSender := rfl
@[simp] theorem Dev.onPort_isTile : (d.onPort n f).isTile = d.isTile := rfl
@[simp] theorem Dev.onPort_service : (d.onPort n f).service = d.service := rfl
end

/-! ### onLoop -/

section
variable (d : Dev) (n : Nat) (f : LoopState → LoopState)
@[simp] theorem Dev.onLoop_boot : (d.onLoop n f).boot = d.boot := rfl
@[simp] theorem Dev.onLoop_porst : (d.onLoop n f).porst = d.porst := rfl
@[simp] theorem Dev.onLoop_supplyLow : (d.onLoop n f).supplyLow = d.supplyLow := rfl
@[simp] theorem Dev.onLoop_deepPorst : (d.onLoop n f).deepPorst = d.deepPorst := rfl
@[simp] theorem Dev.onLoop_power : (d.onLoop n f).power = d.power := rfl
@[simp] theorem Dev.onLoop_powerGoal : (d.onLoop n f).powerGoal = d.powerGoal := rfl
@[simp] theorem Dev.onLoop_powerCmd : (d.onLoop n f).powerCmd = d.powerCmd := rfl
@[simp] theorem Dev.onLoop_wakeLate : (d.onLoop n f).wakeLate = d.wakeLate := rfl
@[simp] theorem Dev.onLoop_lastStatus : (d.onLoop n f).lastStatus = d.lastStatus := rfl
@[simp] theorem Dev.onLoop_lastDetail : (d.onLoop n f).lastDetail = d.lastDetail := rfl
@[simp] theorem Dev.onLoop_role : (d.onLoop n f).role = d.role := rfl
@[simp] theorem Dev.onLoop_variant : (d.onLoop n f).variant = d.variant := rfl
@[simp] theorem Dev.onLoop_roleForced : (d.onLoop n f).roleForced = d.roleForced := rfl
@[simp] theorem Dev.onLoop_now : (d.onLoop n f).now = d.now := rfl
@[simp] theorem Dev.onLoop_free : (d.onLoop n f).free = d.free := rfl
@[simp] theorem Dev.onLoop_regs : (d.onLoop n f).regs = d.regs := rfl
@[simp] theorem Dev.onLoop_corAhead : (d.onLoop n f).corAhead = d.corAhead := rfl
@[simp] theorem Dev.onLoop_env : (d.onLoop n f).env = d.env := rfl
@[simp] theorem Dev.onLoop_host : (d.onLoop n f).host = d.host := rfl
@[simp] theorem Dev.onLoop_txns : (d.onLoop n f).txns = d.txns := rfl
@[simp] theorem Dev.onLoop_commits : (d.onLoop n f).commits = d.commits := rfl
@[simp] theorem Dev.onLoop_prepared : (d.onLoop n f).prepared = d.prepared := rfl
@[simp] theorem Dev.onLoop_cvu : (d.onLoop n f).cvu = d.cvu := rfl
@[simp] theorem Dev.onLoop_clk : (d.onLoop n f).clk = d.clk := rfl
@[simp] theorem Dev.onLoop_safe : (d.onLoop n f).safe = d.safe := rfl
@[simp] theorem Dev.onLoop_mc : (d.onLoop n f).mc = d.mc := rfl
@[simp] theorem Dev.onLoop_images : (d.onLoop n f).images = d.images := rfl
@[simp] theorem Dev.onLoop_img : (d.onLoop n f).img = d.img := rfl
@[simp] theorem Dev.onLoop_time : (d.onLoop n f).time = d.time := rfl
@[simp] theorem Dev.onLoop_senderNo : (d.onLoop n f).senderNo = d.senderNo := rfl
@[simp] theorem Dev.onLoop_twin : (d.onLoop n f).twin = d.twin := rfl
@[simp] theorem Dev.onLoop_ingest : (d.onLoop n f).ingest = d.ingest := rfl
@[simp] theorem Dev.onLoop_flash : (d.onLoop n f).flash = d.flash := rfl
@[simp] theorem Dev.onLoop_compose : (d.onLoop n f).compose = d.compose := rfl
@[simp] theorem Dev.onLoop_fabric : (d.onLoop n f).fabric = d.fabric := rfl
@[simp] theorem Dev.onLoop_lamp : (d.onLoop n f).lamp = d.lamp := rfl
@[simp] theorem Dev.onLoop_cap : (d.onLoop n f).cap = d.cap := rfl
@[simp] theorem Dev.onLoop_photo : (d.onLoop n f).photo = d.photo := rfl
@[simp] theorem Dev.onLoop_out : (d.onLoop n f).out = d.out := rfl
@[simp] theorem Dev.onLoop_reg (r : Nat) : (d.onLoop n f).reg r = d.reg r := rfl
@[simp] theorem Dev.onLoop_get (x : Fld) : (d.onLoop n f).get x = d.get x := rfl
@[simp] theorem Dev.onLoop_bit (x : Fld) : (d.onLoop n f).bit x = d.bit x := rfl
@[simp] theorem Dev.onLoop_isSender : (d.onLoop n f).isSender = d.isSender := rfl
@[simp] theorem Dev.onLoop_isTile : (d.onLoop n f).isTile = d.isTile := rfl
@[simp] theorem Dev.onLoop_service : (d.onLoop n f).service = d.service := rfl
end

/-! ### onPipe -/

section
variable (d : Dev) (n : Nat) (f : Pipe → Pipe)
@[simp] theorem Dev.onPipe_boot : (d.onPipe n f).boot = d.boot := rfl
@[simp] theorem Dev.onPipe_porst : (d.onPipe n f).porst = d.porst := rfl
@[simp] theorem Dev.onPipe_supplyLow : (d.onPipe n f).supplyLow = d.supplyLow := rfl
@[simp] theorem Dev.onPipe_deepPorst : (d.onPipe n f).deepPorst = d.deepPorst := rfl
@[simp] theorem Dev.onPipe_power : (d.onPipe n f).power = d.power := rfl
@[simp] theorem Dev.onPipe_powerGoal : (d.onPipe n f).powerGoal = d.powerGoal := rfl
@[simp] theorem Dev.onPipe_powerCmd : (d.onPipe n f).powerCmd = d.powerCmd := rfl
@[simp] theorem Dev.onPipe_wakeLate : (d.onPipe n f).wakeLate = d.wakeLate := rfl
@[simp] theorem Dev.onPipe_lastStatus : (d.onPipe n f).lastStatus = d.lastStatus := rfl
@[simp] theorem Dev.onPipe_lastDetail : (d.onPipe n f).lastDetail = d.lastDetail := rfl
@[simp] theorem Dev.onPipe_role : (d.onPipe n f).role = d.role := rfl
@[simp] theorem Dev.onPipe_variant : (d.onPipe n f).variant = d.variant := rfl
@[simp] theorem Dev.onPipe_roleForced : (d.onPipe n f).roleForced = d.roleForced := rfl
@[simp] theorem Dev.onPipe_now : (d.onPipe n f).now = d.now := rfl
@[simp] theorem Dev.onPipe_free : (d.onPipe n f).free = d.free := rfl
@[simp] theorem Dev.onPipe_regs : (d.onPipe n f).regs = d.regs := rfl
@[simp] theorem Dev.onPipe_corAhead : (d.onPipe n f).corAhead = d.corAhead := rfl
@[simp] theorem Dev.onPipe_env : (d.onPipe n f).env = d.env := rfl
@[simp] theorem Dev.onPipe_host : (d.onPipe n f).host = d.host := rfl
@[simp] theorem Dev.onPipe_txns : (d.onPipe n f).txns = d.txns := rfl
@[simp] theorem Dev.onPipe_commits : (d.onPipe n f).commits = d.commits := rfl
@[simp] theorem Dev.onPipe_prepared : (d.onPipe n f).prepared = d.prepared := rfl
@[simp] theorem Dev.onPipe_cvu : (d.onPipe n f).cvu = d.cvu := rfl
@[simp] theorem Dev.onPipe_clk : (d.onPipe n f).clk = d.clk := rfl
@[simp] theorem Dev.onPipe_safe : (d.onPipe n f).safe = d.safe := rfl
@[simp] theorem Dev.onPipe_mc : (d.onPipe n f).mc = d.mc := rfl
@[simp] theorem Dev.onPipe_images : (d.onPipe n f).images = d.images := rfl
@[simp] theorem Dev.onPipe_img : (d.onPipe n f).img = d.img := rfl
@[simp] theorem Dev.onPipe_time : (d.onPipe n f).time = d.time := rfl
@[simp] theorem Dev.onPipe_senderNo : (d.onPipe n f).senderNo = d.senderNo := rfl
@[simp] theorem Dev.onPipe_link : (d.onPipe n f).link = d.link := rfl
@[simp] theorem Dev.onPipe_twin : (d.onPipe n f).twin = d.twin := rfl
@[simp] theorem Dev.onPipe_ingest : (d.onPipe n f).ingest = d.ingest := rfl
@[simp] theorem Dev.onPipe_flash : (d.onPipe n f).flash = d.flash := rfl
@[simp] theorem Dev.onPipe_fabric : (d.onPipe n f).fabric = d.fabric := rfl
@[simp] theorem Dev.onPipe_lamp : (d.onPipe n f).lamp = d.lamp := rfl
@[simp] theorem Dev.onPipe_cap : (d.onPipe n f).cap = d.cap := rfl
@[simp] theorem Dev.onPipe_photo : (d.onPipe n f).photo = d.photo := rfl
@[simp] theorem Dev.onPipe_out : (d.onPipe n f).out = d.out := rfl
@[simp] theorem Dev.onPipe_reg (r : Nat) : (d.onPipe n f).reg r = d.reg r := rfl
@[simp] theorem Dev.onPipe_get (x : Fld) : (d.onPipe n f).get x = d.get x := rfl
@[simp] theorem Dev.onPipe_bit (x : Fld) : (d.onPipe n f).bit x = d.bit x := rfl
@[simp] theorem Dev.onPipe_isSender : (d.onPipe n f).isSender = d.isSender := rfl
@[simp] theorem Dev.onPipe_isTile : (d.onPipe n f).isTile = d.isTile := rfl
@[simp] theorem Dev.onPipe_service : (d.onPipe n f).service = d.service := rfl
end

/-! ### onGroup -/

section
variable (d : Dev) (n : Nat) (f : Group → Group)
@[simp] theorem Dev.onGroup_boot : (d.onGroup n f).boot = d.boot := rfl
@[simp] theorem Dev.onGroup_porst : (d.onGroup n f).porst = d.porst := rfl
@[simp] theorem Dev.onGroup_supplyLow : (d.onGroup n f).supplyLow = d.supplyLow := rfl
@[simp] theorem Dev.onGroup_deepPorst : (d.onGroup n f).deepPorst = d.deepPorst := rfl
@[simp] theorem Dev.onGroup_power : (d.onGroup n f).power = d.power := rfl
@[simp] theorem Dev.onGroup_powerGoal : (d.onGroup n f).powerGoal = d.powerGoal := rfl
@[simp] theorem Dev.onGroup_powerCmd : (d.onGroup n f).powerCmd = d.powerCmd := rfl
@[simp] theorem Dev.onGroup_wakeLate : (d.onGroup n f).wakeLate = d.wakeLate := rfl
@[simp] theorem Dev.onGroup_lastStatus : (d.onGroup n f).lastStatus = d.lastStatus := rfl
@[simp] theorem Dev.onGroup_lastDetail : (d.onGroup n f).lastDetail = d.lastDetail := rfl
@[simp] theorem Dev.onGroup_role : (d.onGroup n f).role = d.role := rfl
@[simp] theorem Dev.onGroup_variant : (d.onGroup n f).variant = d.variant := rfl
@[simp] theorem Dev.onGroup_roleForced : (d.onGroup n f).roleForced = d.roleForced := rfl
@[simp] theorem Dev.onGroup_now : (d.onGroup n f).now = d.now := rfl
@[simp] theorem Dev.onGroup_free : (d.onGroup n f).free = d.free := rfl
@[simp] theorem Dev.onGroup_regs : (d.onGroup n f).regs = d.regs := rfl
@[simp] theorem Dev.onGroup_corAhead : (d.onGroup n f).corAhead = d.corAhead := rfl
@[simp] theorem Dev.onGroup_env : (d.onGroup n f).env = d.env := rfl
@[simp] theorem Dev.onGroup_host : (d.onGroup n f).host = d.host := rfl
@[simp] theorem Dev.onGroup_txns : (d.onGroup n f).txns = d.txns := rfl
@[simp] theorem Dev.onGroup_commits : (d.onGroup n f).commits = d.commits := rfl
@[simp] theorem Dev.onGroup_prepared : (d.onGroup n f).prepared = d.prepared := rfl
@[simp] theorem Dev.onGroup_cvu : (d.onGroup n f).cvu = d.cvu := rfl
@[simp] theorem Dev.onGroup_clk : (d.onGroup n f).clk = d.clk := rfl
@[simp] theorem Dev.onGroup_safe : (d.onGroup n f).safe = d.safe := rfl
@[simp] theorem Dev.onGroup_mc : (d.onGroup n f).mc = d.mc := rfl
@[simp] theorem Dev.onGroup_images : (d.onGroup n f).images = d.images := rfl
@[simp] theorem Dev.onGroup_img : (d.onGroup n f).img = d.img := rfl
@[simp] theorem Dev.onGroup_time : (d.onGroup n f).time = d.time := rfl
@[simp] theorem Dev.onGroup_senderNo : (d.onGroup n f).senderNo = d.senderNo := rfl
@[simp] theorem Dev.onGroup_link : (d.onGroup n f).link = d.link := rfl
@[simp] theorem Dev.onGroup_twin : (d.onGroup n f).twin = d.twin := rfl
@[simp] theorem Dev.onGroup_ingest : (d.onGroup n f).ingest = d.ingest := rfl
@[simp] theorem Dev.onGroup_flash : (d.onGroup n f).flash = d.flash := rfl
@[simp] theorem Dev.onGroup_compose : (d.onGroup n f).compose = d.compose := rfl
@[simp] theorem Dev.onGroup_fabric : (d.onGroup n f).fabric = d.fabric := rfl
@[simp] theorem Dev.onGroup_cap : (d.onGroup n f).cap = d.cap := rfl
@[simp] theorem Dev.onGroup_photo : (d.onGroup n f).photo = d.photo := rfl
@[simp] theorem Dev.onGroup_out : (d.onGroup n f).out = d.out := rfl
@[simp] theorem Dev.onGroup_reg (r : Nat) : (d.onGroup n f).reg r = d.reg r := rfl
@[simp] theorem Dev.onGroup_get (x : Fld) : (d.onGroup n f).get x = d.get x := rfl
@[simp] theorem Dev.onGroup_bit (x : Fld) : (d.onGroup n f).bit x = d.bit x := rfl
@[simp] theorem Dev.onGroup_isSender : (d.onGroup n f).isSender = d.isSender := rfl
@[simp] theorem Dev.onGroup_isTile : (d.onGroup n f).isTile = d.isTile := rfl
@[simp] theorem Dev.onGroup_service : (d.onGroup n f).service = d.service := rfl
end

/-! ### onRail -/

section
variable (d : Dev) (n : Nat) (f : Rail → Rail)
@[simp] theorem Dev.onRail_boot : (d.onRail n f).boot = d.boot := rfl
@[simp] theorem Dev.onRail_porst : (d.onRail n f).porst = d.porst := rfl
@[simp] theorem Dev.onRail_supplyLow : (d.onRail n f).supplyLow = d.supplyLow := rfl
@[simp] theorem Dev.onRail_deepPorst : (d.onRail n f).deepPorst = d.deepPorst := rfl
@[simp] theorem Dev.onRail_power : (d.onRail n f).power = d.power := rfl
@[simp] theorem Dev.onRail_powerGoal : (d.onRail n f).powerGoal = d.powerGoal := rfl
@[simp] theorem Dev.onRail_powerCmd : (d.onRail n f).powerCmd = d.powerCmd := rfl
@[simp] theorem Dev.onRail_wakeLate : (d.onRail n f).wakeLate = d.wakeLate := rfl
@[simp] theorem Dev.onRail_lastStatus : (d.onRail n f).lastStatus = d.lastStatus := rfl
@[simp] theorem Dev.onRail_lastDetail : (d.onRail n f).lastDetail = d.lastDetail := rfl
@[simp] theorem Dev.onRail_role : (d.onRail n f).role = d.role := rfl
@[simp] theorem Dev.onRail_variant : (d.onRail n f).variant = d.variant := rfl
@[simp] theorem Dev.onRail_roleForced : (d.onRail n f).roleForced = d.roleForced := rfl
@[simp] theorem Dev.onRail_now : (d.onRail n f).now = d.now := rfl
@[simp] theorem Dev.onRail_free : (d.onRail n f).free = d.free := rfl
@[simp] theorem Dev.onRail_regs : (d.onRail n f).regs = d.regs := rfl
@[simp] theorem Dev.onRail_corAhead : (d.onRail n f).corAhead = d.corAhead := rfl
@[simp] theorem Dev.onRail_env : (d.onRail n f).env = d.env := rfl
@[simp] theorem Dev.onRail_host : (d.onRail n f).host = d.host := rfl
@[simp] theorem Dev.onRail_txns : (d.onRail n f).txns = d.txns := rfl
@[simp] theorem Dev.onRail_commits : (d.onRail n f).commits = d.commits := rfl
@[simp] theorem Dev.onRail_prepared : (d.onRail n f).prepared = d.prepared := rfl
@[simp] theorem Dev.onRail_cvu : (d.onRail n f).cvu = d.cvu := rfl
@[simp] theorem Dev.onRail_clk : (d.onRail n f).clk = d.clk := rfl
@[simp] theorem Dev.onRail_safe : (d.onRail n f).safe = d.safe := rfl
@[simp] theorem Dev.onRail_mc : (d.onRail n f).mc = d.mc := rfl
@[simp] theorem Dev.onRail_images : (d.onRail n f).images = d.images := rfl
@[simp] theorem Dev.onRail_img : (d.onRail n f).img = d.img := rfl
@[simp] theorem Dev.onRail_time : (d.onRail n f).time = d.time := rfl
@[simp] theorem Dev.onRail_senderNo : (d.onRail n f).senderNo = d.senderNo := rfl
@[simp] theorem Dev.onRail_link : (d.onRail n f).link = d.link := rfl
@[simp] theorem Dev.onRail_twin : (d.onRail n f).twin = d.twin := rfl
@[simp] theorem Dev.onRail_ingest : (d.onRail n f).ingest = d.ingest := rfl
@[simp] theorem Dev.onRail_flash : (d.onRail n f).flash = d.flash := rfl
@[simp] theorem Dev.onRail_compose : (d.onRail n f).compose = d.compose := rfl
@[simp] theorem Dev.onRail_fabric : (d.onRail n f).fabric = d.fabric := rfl
@[simp] theorem Dev.onRail_cap : (d.onRail n f).cap = d.cap := rfl
@[simp] theorem Dev.onRail_photo : (d.onRail n f).photo = d.photo := rfl
@[simp] theorem Dev.onRail_out : (d.onRail n f).out = d.out := rfl
@[simp] theorem Dev.onRail_reg (r : Nat) : (d.onRail n f).reg r = d.reg r := rfl
@[simp] theorem Dev.onRail_get (x : Fld) : (d.onRail n f).get x = d.get x := rfl
@[simp] theorem Dev.onRail_bit (x : Fld) : (d.onRail n f).bit x = d.bit x := rfl
@[simp] theorem Dev.onRail_isSender : (d.onRail n f).isSender = d.isSender := rfl
@[simp] theorem Dev.onRail_isTile : (d.onRail n f).isTile = d.isTile := rfl
@[simp] theorem Dev.onRail_service : (d.onRail n f).service = d.service := rfl
end

/-! ### onTxn -/

section
variable (d : Dev) (n : Nat) (f : Txn → Txn)
@[simp] theorem Dev.onTxn_boot : (d.onTxn n f).boot = d.boot := rfl
@[simp] theorem Dev.onTxn_porst : (d.onTxn n f).porst = d.porst := rfl
@[simp] theorem Dev.onTxn_supplyLow : (d.onTxn n f).supplyLow = d.supplyLow := rfl
@[simp] theorem Dev.onTxn_deepPorst : (d.onTxn n f).deepPorst = d.deepPorst := rfl
@[simp] theorem Dev.onTxn_power : (d.onTxn n f).power = d.power := rfl
@[simp] theorem Dev.onTxn_powerGoal : (d.onTxn n f).powerGoal = d.powerGoal := rfl
@[simp] theorem Dev.onTxn_powerCmd : (d.onTxn n f).powerCmd = d.powerCmd := rfl
@[simp] theorem Dev.onTxn_wakeLate : (d.onTxn n f).wakeLate = d.wakeLate := rfl
@[simp] theorem Dev.onTxn_lastStatus : (d.onTxn n f).lastStatus = d.lastStatus := rfl
@[simp] theorem Dev.onTxn_lastDetail : (d.onTxn n f).lastDetail = d.lastDetail := rfl
@[simp] theorem Dev.onTxn_role : (d.onTxn n f).role = d.role := rfl
@[simp] theorem Dev.onTxn_variant : (d.onTxn n f).variant = d.variant := rfl
@[simp] theorem Dev.onTxn_roleForced : (d.onTxn n f).roleForced = d.roleForced := rfl
@[simp] theorem Dev.onTxn_now : (d.onTxn n f).now = d.now := rfl
@[simp] theorem Dev.onTxn_free : (d.onTxn n f).free = d.free := rfl
@[simp] theorem Dev.onTxn_regs : (d.onTxn n f).regs = d.regs := rfl
@[simp] theorem Dev.onTxn_corAhead : (d.onTxn n f).corAhead = d.corAhead := rfl
@[simp] theorem Dev.onTxn_env : (d.onTxn n f).env = d.env := rfl
@[simp] theorem Dev.onTxn_host : (d.onTxn n f).host = d.host := rfl
@[simp] theorem Dev.onTxn_commits : (d.onTxn n f).commits = d.commits := rfl
@[simp] theorem Dev.onTxn_prepared : (d.onTxn n f).prepared = d.prepared := rfl
@[simp] theorem Dev.onTxn_cvu : (d.onTxn n f).cvu = d.cvu := rfl
@[simp] theorem Dev.onTxn_clk : (d.onTxn n f).clk = d.clk := rfl
@[simp] theorem Dev.onTxn_safe : (d.onTxn n f).safe = d.safe := rfl
@[simp] theorem Dev.onTxn_mc : (d.onTxn n f).mc = d.mc := rfl
@[simp] theorem Dev.onTxn_images : (d.onTxn n f).images = d.images := rfl
@[simp] theorem Dev.onTxn_img : (d.onTxn n f).img = d.img := rfl
@[simp] theorem Dev.onTxn_time : (d.onTxn n f).time = d.time := rfl
@[simp] theorem Dev.onTxn_senderNo : (d.onTxn n f).senderNo = d.senderNo := rfl
@[simp] theorem Dev.onTxn_link : (d.onTxn n f).link = d.link := rfl
@[simp] theorem Dev.onTxn_twin : (d.onTxn n f).twin = d.twin := rfl
@[simp] theorem Dev.onTxn_ingest : (d.onTxn n f).ingest = d.ingest := rfl
@[simp] theorem Dev.onTxn_flash : (d.onTxn n f).flash = d.flash := rfl
@[simp] theorem Dev.onTxn_compose : (d.onTxn n f).compose = d.compose := rfl
@[simp] theorem Dev.onTxn_fabric : (d.onTxn n f).fabric = d.fabric := rfl
@[simp] theorem Dev.onTxn_lamp : (d.onTxn n f).lamp = d.lamp := rfl
@[simp] theorem Dev.onTxn_cap : (d.onTxn n f).cap = d.cap := rfl
@[simp] theorem Dev.onTxn_photo : (d.onTxn n f).photo = d.photo := rfl
@[simp] theorem Dev.onTxn_out : (d.onTxn n f).out = d.out := rfl
@[simp] theorem Dev.onTxn_reg (r : Nat) : (d.onTxn n f).reg r = d.reg r := rfl
@[simp] theorem Dev.onTxn_get (x : Fld) : (d.onTxn n f).get x = d.get x := rfl
@[simp] theorem Dev.onTxn_bit (x : Fld) : (d.onTxn n f).bit x = d.bit x := rfl
@[simp] theorem Dev.onTxn_isSender : (d.onTxn n f).isSender = d.isSender := rfl
@[simp] theorem Dev.onTxn_isTile : (d.onTxn n f).isTile = d.isTile := rfl
@[simp] theorem Dev.onTxn_service : (d.onTxn n f).service = d.service := rfl
end

/-! ### onSource -/

section
variable (d : Dev) (n : Nat) (f : Source → Source)
@[simp] theorem Dev.onSource_boot : (d.onSource n f).boot = d.boot := rfl
@[simp] theorem Dev.onSource_porst : (d.onSource n f).porst = d.porst := rfl
@[simp] theorem Dev.onSource_supplyLow : (d.onSource n f).supplyLow = d.supplyLow := rfl
@[simp] theorem Dev.onSource_deepPorst : (d.onSource n f).deepPorst = d.deepPorst := rfl
@[simp] theorem Dev.onSource_power : (d.onSource n f).power = d.power := rfl
@[simp] theorem Dev.onSource_powerGoal : (d.onSource n f).powerGoal = d.powerGoal := rfl
@[simp] theorem Dev.onSource_powerCmd : (d.onSource n f).powerCmd = d.powerCmd := rfl
@[simp] theorem Dev.onSource_wakeLate : (d.onSource n f).wakeLate = d.wakeLate := rfl
@[simp] theorem Dev.onSource_lastStatus : (d.onSource n f).lastStatus = d.lastStatus := rfl
@[simp] theorem Dev.onSource_lastDetail : (d.onSource n f).lastDetail = d.lastDetail := rfl
@[simp] theorem Dev.onSource_role : (d.onSource n f).role = d.role := rfl
@[simp] theorem Dev.onSource_variant : (d.onSource n f).variant = d.variant := rfl
@[simp] theorem Dev.onSource_roleForced : (d.onSource n f).roleForced = d.roleForced := rfl
@[simp] theorem Dev.onSource_now : (d.onSource n f).now = d.now := rfl
@[simp] theorem Dev.onSource_free : (d.onSource n f).free = d.free := rfl
@[simp] theorem Dev.onSource_regs : (d.onSource n f).regs = d.regs := rfl
@[simp] theorem Dev.onSource_corAhead : (d.onSource n f).corAhead = d.corAhead := rfl
@[simp] theorem Dev.onSource_env : (d.onSource n f).env = d.env := rfl
@[simp] theorem Dev.onSource_host : (d.onSource n f).host = d.host := rfl
@[simp] theorem Dev.onSource_txns : (d.onSource n f).txns = d.txns := rfl
@[simp] theorem Dev.onSource_commits : (d.onSource n f).commits = d.commits := rfl
@[simp] theorem Dev.onSource_prepared : (d.onSource n f).prepared = d.prepared := rfl
@[simp] theorem Dev.onSource_cvu : (d.onSource n f).cvu = d.cvu := rfl
@[simp] theorem Dev.onSource_clk : (d.onSource n f).clk = d.clk := rfl
@[simp] theorem Dev.onSource_safe : (d.onSource n f).safe = d.safe := rfl
@[simp] theorem Dev.onSource_mc : (d.onSource n f).mc = d.mc := rfl
@[simp] theorem Dev.onSource_images : (d.onSource n f).images = d.images := rfl
@[simp] theorem Dev.onSource_img : (d.onSource n f).img = d.img := rfl
@[simp] theorem Dev.onSource_time : (d.onSource n f).time = d.time := rfl
@[simp] theorem Dev.onSource_senderNo : (d.onSource n f).senderNo = d.senderNo := rfl
@[simp] theorem Dev.onSource_link : (d.onSource n f).link = d.link := rfl
@[simp] theorem Dev.onSource_twin : (d.onSource n f).twin = d.twin := rfl
@[simp] theorem Dev.onSource_flash : (d.onSource n f).flash = d.flash := rfl
@[simp] theorem Dev.onSource_compose : (d.onSource n f).compose = d.compose := rfl
@[simp] theorem Dev.onSource_fabric : (d.onSource n f).fabric = d.fabric := rfl
@[simp] theorem Dev.onSource_lamp : (d.onSource n f).lamp = d.lamp := rfl
@[simp] theorem Dev.onSource_cap : (d.onSource n f).cap = d.cap := rfl
@[simp] theorem Dev.onSource_photo : (d.onSource n f).photo = d.photo := rfl
@[simp] theorem Dev.onSource_out : (d.onSource n f).out = d.out := rfl
@[simp] theorem Dev.onSource_reg (r : Nat) : (d.onSource n f).reg r = d.reg r := rfl
@[simp] theorem Dev.onSource_get (x : Fld) : (d.onSource n f).get x = d.get x := rfl
@[simp] theorem Dev.onSource_bit (x : Fld) : (d.onSource n f).bit x = d.bit x := rfl
@[simp] theorem Dev.onSource_isSender : (d.onSource n f).isSender = d.isSender := rfl
@[simp] theorem Dev.onSource_isTile : (d.onSource n f).isTile = d.isTile := rfl
@[simp] theorem Dev.onSource_service : (d.onSource n f).service = d.service := rfl
end

/-! ### onFlow -/

section
variable (d : Dev) (n : Nat) (f : FlowSt → FlowSt)
@[simp] theorem Dev.onFlow_boot : (d.onFlow n f).boot = d.boot := rfl
@[simp] theorem Dev.onFlow_porst : (d.onFlow n f).porst = d.porst := rfl
@[simp] theorem Dev.onFlow_supplyLow : (d.onFlow n f).supplyLow = d.supplyLow := rfl
@[simp] theorem Dev.onFlow_deepPorst : (d.onFlow n f).deepPorst = d.deepPorst := rfl
@[simp] theorem Dev.onFlow_power : (d.onFlow n f).power = d.power := rfl
@[simp] theorem Dev.onFlow_powerGoal : (d.onFlow n f).powerGoal = d.powerGoal := rfl
@[simp] theorem Dev.onFlow_powerCmd : (d.onFlow n f).powerCmd = d.powerCmd := rfl
@[simp] theorem Dev.onFlow_wakeLate : (d.onFlow n f).wakeLate = d.wakeLate := rfl
@[simp] theorem Dev.onFlow_lastStatus : (d.onFlow n f).lastStatus = d.lastStatus := rfl
@[simp] theorem Dev.onFlow_lastDetail : (d.onFlow n f).lastDetail = d.lastDetail := rfl
@[simp] theorem Dev.onFlow_role : (d.onFlow n f).role = d.role := rfl
@[simp] theorem Dev.onFlow_variant : (d.onFlow n f).variant = d.variant := rfl
@[simp] theorem Dev.onFlow_roleForced : (d.onFlow n f).roleForced = d.roleForced := rfl
@[simp] theorem Dev.onFlow_now : (d.onFlow n f).now = d.now := rfl
@[simp] theorem Dev.onFlow_free : (d.onFlow n f).free = d.free := rfl
@[simp] theorem Dev.onFlow_regs : (d.onFlow n f).regs = d.regs := rfl
@[simp] theorem Dev.onFlow_corAhead : (d.onFlow n f).corAhead = d.corAhead := rfl
@[simp] theorem Dev.onFlow_env : (d.onFlow n f).env = d.env := rfl
@[simp] theorem Dev.onFlow_host : (d.onFlow n f).host = d.host := rfl
@[simp] theorem Dev.onFlow_txns : (d.onFlow n f).txns = d.txns := rfl
@[simp] theorem Dev.onFlow_commits : (d.onFlow n f).commits = d.commits := rfl
@[simp] theorem Dev.onFlow_prepared : (d.onFlow n f).prepared = d.prepared := rfl
@[simp] theorem Dev.onFlow_cvu : (d.onFlow n f).cvu = d.cvu := rfl
@[simp] theorem Dev.onFlow_clk : (d.onFlow n f).clk = d.clk := rfl
@[simp] theorem Dev.onFlow_safe : (d.onFlow n f).safe = d.safe := rfl
@[simp] theorem Dev.onFlow_mc : (d.onFlow n f).mc = d.mc := rfl
@[simp] theorem Dev.onFlow_images : (d.onFlow n f).images = d.images := rfl
@[simp] theorem Dev.onFlow_img : (d.onFlow n f).img = d.img := rfl
@[simp] theorem Dev.onFlow_time : (d.onFlow n f).time = d.time := rfl
@[simp] theorem Dev.onFlow_senderNo : (d.onFlow n f).senderNo = d.senderNo := rfl
@[simp] theorem Dev.onFlow_link : (d.onFlow n f).link = d.link := rfl
@[simp] theorem Dev.onFlow_twin : (d.onFlow n f).twin = d.twin := rfl
@[simp] theorem Dev.onFlow_flash : (d.onFlow n f).flash = d.flash := rfl
@[simp] theorem Dev.onFlow_compose : (d.onFlow n f).compose = d.compose := rfl
@[simp] theorem Dev.onFlow_fabric : (d.onFlow n f).fabric = d.fabric := rfl
@[simp] theorem Dev.onFlow_lamp : (d.onFlow n f).lamp = d.lamp := rfl
@[simp] theorem Dev.onFlow_cap : (d.onFlow n f).cap = d.cap := rfl
@[simp] theorem Dev.onFlow_photo : (d.onFlow n f).photo = d.photo := rfl
@[simp] theorem Dev.onFlow_out : (d.onFlow n f).out = d.out := rfl
@[simp] theorem Dev.onFlow_reg (r : Nat) : (d.onFlow n f).reg r = d.reg r := rfl
@[simp] theorem Dev.onFlow_get (x : Fld) : (d.onFlow n f).get x = d.get x := rfl
@[simp] theorem Dev.onFlow_bit (x : Fld) : (d.onFlow n f).bit x = d.bit x := rfl
@[simp] theorem Dev.onFlow_isSender : (d.onFlow n f).isSender = d.isSender := rfl
@[simp] theorem Dev.onFlow_isTile : (d.onFlow n f).isTile = d.isTile := rfl
@[simp] theorem Dev.onFlow_service : (d.onFlow n f).service = d.service := rfl
end

/-! ### onChannel -/

section
variable (d : Dev) (n : Nat) (f : AudioCh → AudioCh)
@[simp] theorem Dev.onChannel_boot : (d.onChannel n f).boot = d.boot := rfl
@[simp] theorem Dev.onChannel_porst : (d.onChannel n f).porst = d.porst := rfl
@[simp] theorem Dev.onChannel_supplyLow : (d.onChannel n f).supplyLow = d.supplyLow := rfl
@[simp] theorem Dev.onChannel_deepPorst : (d.onChannel n f).deepPorst = d.deepPorst := rfl
@[simp] theorem Dev.onChannel_power : (d.onChannel n f).power = d.power := rfl
@[simp] theorem Dev.onChannel_powerGoal : (d.onChannel n f).powerGoal = d.powerGoal := rfl
@[simp] theorem Dev.onChannel_powerCmd : (d.onChannel n f).powerCmd = d.powerCmd := rfl
@[simp] theorem Dev.onChannel_wakeLate : (d.onChannel n f).wakeLate = d.wakeLate := rfl
@[simp] theorem Dev.onChannel_lastStatus : (d.onChannel n f).lastStatus = d.lastStatus := rfl
@[simp] theorem Dev.onChannel_lastDetail : (d.onChannel n f).lastDetail = d.lastDetail := rfl
@[simp] theorem Dev.onChannel_role : (d.onChannel n f).role = d.role := rfl
@[simp] theorem Dev.onChannel_variant : (d.onChannel n f).variant = d.variant := rfl
@[simp] theorem Dev.onChannel_roleForced : (d.onChannel n f).roleForced = d.roleForced := rfl
@[simp] theorem Dev.onChannel_now : (d.onChannel n f).now = d.now := rfl
@[simp] theorem Dev.onChannel_free : (d.onChannel n f).free = d.free := rfl
@[simp] theorem Dev.onChannel_regs : (d.onChannel n f).regs = d.regs := rfl
@[simp] theorem Dev.onChannel_corAhead : (d.onChannel n f).corAhead = d.corAhead := rfl
@[simp] theorem Dev.onChannel_env : (d.onChannel n f).env = d.env := rfl
@[simp] theorem Dev.onChannel_host : (d.onChannel n f).host = d.host := rfl
@[simp] theorem Dev.onChannel_txns : (d.onChannel n f).txns = d.txns := rfl
@[simp] theorem Dev.onChannel_commits : (d.onChannel n f).commits = d.commits := rfl
@[simp] theorem Dev.onChannel_prepared : (d.onChannel n f).prepared = d.prepared := rfl
@[simp] theorem Dev.onChannel_cvu : (d.onChannel n f).cvu = d.cvu := rfl
@[simp] theorem Dev.onChannel_clk : (d.onChannel n f).clk = d.clk := rfl
@[simp] theorem Dev.onChannel_safe : (d.onChannel n f).safe = d.safe := rfl
@[simp] theorem Dev.onChannel_mc : (d.onChannel n f).mc = d.mc := rfl
@[simp] theorem Dev.onChannel_images : (d.onChannel n f).images = d.images := rfl
@[simp] theorem Dev.onChannel_img : (d.onChannel n f).img = d.img := rfl
@[simp] theorem Dev.onChannel_time : (d.onChannel n f).time = d.time := rfl
@[simp] theorem Dev.onChannel_senderNo : (d.onChannel n f).senderNo = d.senderNo := rfl
@[simp] theorem Dev.onChannel_link : (d.onChannel n f).link = d.link := rfl
@[simp] theorem Dev.onChannel_twin : (d.onChannel n f).twin = d.twin := rfl
@[simp] theorem Dev.onChannel_flash : (d.onChannel n f).flash = d.flash := rfl
@[simp] theorem Dev.onChannel_compose : (d.onChannel n f).compose = d.compose := rfl
@[simp] theorem Dev.onChannel_fabric : (d.onChannel n f).fabric = d.fabric := rfl
@[simp] theorem Dev.onChannel_lamp : (d.onChannel n f).lamp = d.lamp := rfl
@[simp] theorem Dev.onChannel_cap : (d.onChannel n f).cap = d.cap := rfl
@[simp] theorem Dev.onChannel_photo : (d.onChannel n f).photo = d.photo := rfl
@[simp] theorem Dev.onChannel_out : (d.onChannel n f).out = d.out := rfl
@[simp] theorem Dev.onChannel_reg (r : Nat) : (d.onChannel n f).reg r = d.reg r := rfl
@[simp] theorem Dev.onChannel_get (x : Fld) : (d.onChannel n f).get x = d.get x := rfl
@[simp] theorem Dev.onChannel_bit (x : Fld) : (d.onChannel n f).bit x = d.bit x := rfl
@[simp] theorem Dev.onChannel_isSender : (d.onChannel n f).isSender = d.isSender := rfl
@[simp] theorem Dev.onChannel_isTile : (d.onChannel n f).isTile = d.isTile := rfl
@[simp] theorem Dev.onChannel_service : (d.onChannel n f).service = d.service := rfl
end

/-! ### onTileLink -/

section
variable (d : Dev) (f : TileLink → TileLink)
@[simp] theorem Dev.onTileLink_boot : (d.onTileLink f).boot = d.boot := rfl
@[simp] theorem Dev.onTileLink_porst : (d.onTileLink f).porst = d.porst := rfl
@[simp] theorem Dev.onTileLink_supplyLow : (d.onTileLink f).supplyLow = d.supplyLow := rfl
@[simp] theorem Dev.onTileLink_deepPorst : (d.onTileLink f).deepPorst = d.deepPorst := rfl
@[simp] theorem Dev.onTileLink_power : (d.onTileLink f).power = d.power := rfl
@[simp] theorem Dev.onTileLink_powerGoal : (d.onTileLink f).powerGoal = d.powerGoal := rfl
@[simp] theorem Dev.onTileLink_powerCmd : (d.onTileLink f).powerCmd = d.powerCmd := rfl
@[simp] theorem Dev.onTileLink_wakeLate : (d.onTileLink f).wakeLate = d.wakeLate := rfl
@[simp] theorem Dev.onTileLink_lastStatus : (d.onTileLink f).lastStatus = d.lastStatus := rfl
@[simp] theorem Dev.onTileLink_lastDetail : (d.onTileLink f).lastDetail = d.lastDetail := rfl
@[simp] theorem Dev.onTileLink_role : (d.onTileLink f).role = d.role := rfl
@[simp] theorem Dev.onTileLink_variant : (d.onTileLink f).variant = d.variant := rfl
@[simp] theorem Dev.onTileLink_roleForced : (d.onTileLink f).roleForced = d.roleForced := rfl
@[simp] theorem Dev.onTileLink_now : (d.onTileLink f).now = d.now := rfl
@[simp] theorem Dev.onTileLink_free : (d.onTileLink f).free = d.free := rfl
@[simp] theorem Dev.onTileLink_regs : (d.onTileLink f).regs = d.regs := rfl
@[simp] theorem Dev.onTileLink_corAhead : (d.onTileLink f).corAhead = d.corAhead := rfl
@[simp] theorem Dev.onTileLink_env : (d.onTileLink f).env = d.env := rfl
@[simp] theorem Dev.onTileLink_host : (d.onTileLink f).host = d.host := rfl
@[simp] theorem Dev.onTileLink_txns : (d.onTileLink f).txns = d.txns := rfl
@[simp] theorem Dev.onTileLink_commits : (d.onTileLink f).commits = d.commits := rfl
@[simp] theorem Dev.onTileLink_prepared : (d.onTileLink f).prepared = d.prepared := rfl
@[simp] theorem Dev.onTileLink_cvu : (d.onTileLink f).cvu = d.cvu := rfl
@[simp] theorem Dev.onTileLink_clk : (d.onTileLink f).clk = d.clk := rfl
@[simp] theorem Dev.onTileLink_safe : (d.onTileLink f).safe = d.safe := rfl
@[simp] theorem Dev.onTileLink_mc : (d.onTileLink f).mc = d.mc := rfl
@[simp] theorem Dev.onTileLink_images : (d.onTileLink f).images = d.images := rfl
@[simp] theorem Dev.onTileLink_img : (d.onTileLink f).img = d.img := rfl
@[simp] theorem Dev.onTileLink_time : (d.onTileLink f).time = d.time := rfl
@[simp] theorem Dev.onTileLink_senderNo : (d.onTileLink f).senderNo = d.senderNo := rfl
@[simp] theorem Dev.onTileLink_twin : (d.onTileLink f).twin = d.twin := rfl
@[simp] theorem Dev.onTileLink_ingest : (d.onTileLink f).ingest = d.ingest := rfl
@[simp] theorem Dev.onTileLink_flash : (d.onTileLink f).flash = d.flash := rfl
@[simp] theorem Dev.onTileLink_compose : (d.onTileLink f).compose = d.compose := rfl
@[simp] theorem Dev.onTileLink_fabric : (d.onTileLink f).fabric = d.fabric := rfl
@[simp] theorem Dev.onTileLink_lamp : (d.onTileLink f).lamp = d.lamp := rfl
@[simp] theorem Dev.onTileLink_cap : (d.onTileLink f).cap = d.cap := rfl
@[simp] theorem Dev.onTileLink_photo : (d.onTileLink f).photo = d.photo := rfl
@[simp] theorem Dev.onTileLink_out : (d.onTileLink f).out = d.out := rfl
@[simp] theorem Dev.onTileLink_reg (r : Nat) : (d.onTileLink f).reg r = d.reg r := rfl
@[simp] theorem Dev.onTileLink_get (x : Fld) : (d.onTileLink f).get x = d.get x := rfl
@[simp] theorem Dev.onTileLink_bit (x : Fld) : (d.onTileLink f).bit x = d.bit x := rfl
@[simp] theorem Dev.onTileLink_isSender : (d.onTileLink f).isSender = d.isSender := rfl
@[simp] theorem Dev.onTileLink_isTile : (d.onTileLink f).isTile = d.isTile := rfl
@[simp] theorem Dev.onTileLink_service : (d.onTileLink f).service = d.service := rfl
end

end Sys2Proof.Machine
end

