-- ==== Sys2Proof/Laws/Link.lean ====
section
/-!
SUPPORT. What the shared operations of the link, of transactions and of register loads can change: items on a loop or the pair link touch
only what waits to be sent; a field load its own register; a port or a loop that takes a state its status, KEEP_INSVC or KEEP_SVC_STAT and what
an event sets.
-/
namespace Sys2Proof.Machine

open Sys2Proof

/-! ### Items -/

theorem Dev.sends_onLink (d : Dev) (f : LinkState → LinkState) : d.Sends (d.onLink f) := rfl
theorem Dev.sends_onPort (d : Dev) (n : Nat) (f : Port → Port) : d.Sends (d.onPort n f) := rfl
theorem Dev.sends_onLoop (d : Dev) (k : Nat) (f : LoopState → LoopState) : d.Sends (d.onLoop k f) := rfl
theorem Dev.sends_onTileLink (d : Dev) (f : TileLink → TileLink) : d.Sends (d.onTileLink f) := rfl
theorem Dev.sends_queueCtrl (d : Dev) (n : Nat) (ws : List Word) : d.Sends (d.queueCtrl n ws) := rfl

/-- An item of the pair link. -/
theorem Dev.sends_pairItem (d : Dev) (c : Nat) (b : List Word) : d.Sends (d.pairItem c b) :=
  (sends_onLink d _).trans (sends_foldl _ (fun d ws => sends_queueCtrl d _ ws) _ _)

/-- CTRL parcels queued at a loop's ends. -/
theorem Dev.sends_queueAll (es : List (Nat × Nat)) (ps : List (List Word)) (d : Dev) :
    d.Sends (es.foldl (fun d e => ps.foldl (fun d ws => d.queueCtrl e.2 ws) d) d) :=
  sends_foldl _ (fun d _ => sends_foldl _ (fun d ws => sends_queueCtrl d _ ws) _ d) _ _

/-- An item of a loop. -/
theorem Dev.sends_loopItem (d : Dev) (k c : Nat) (b : List Word) : d.Sends (d.loopItem k c b) := by
  unfold Dev.loopItem
  dsimp only
  have h := (sends_onLink d fun l => { l with nextMsg := (d.link.nextMsg + 1) % 2 ^ 32 }).trans (sends_onLoop _ k fun l => { l with
      ctrlIndex := nextCtrlIndex (d.loopSt k).ctrlIndex (itemPayloads c d.link.nextMsg b).length })
  split
  · exact (h.trans (sends_queueAll _ _ _)).trans (sends_foldl _ (fun d ws => sends_pairItem d _ _) _ _)
  · exact h.trans (sends_queueAll _ _ _)

/-- A command the sender sends one of its tiles. -/
theorem Dev.sends_sendTileCommand (d : Dev) (x : Nat × Nat) (op : Op) (q t : Nat) (p : List Word) :
    d.Sends (d.sendTileCommand x op q t p) := (sends_loopItem d _ _ _).trans (sends_onHost _ _)

/-- A TXN item on the loops where tiles hold a commit. -/
theorem Dev.sends_txnItem (d : Dev) (c : Commit) (ph : Nat) : d.Sends (d.txnItem c ph) :=
  sends_foldl _ (fun d _ => sends_loopItem d _ _ _) _ _

/-- Words copied to the standby's DRAM. -/
theorem Dev.sends_mirrorMem (d : Dev) (a : Nat) (ws : List Word) : d.Sends (d.mirrorMem a ws) := by
  unfold Dev.mirrorMem
  split
  · exact sends_foldl _ (fun d _ => sends_pairItem d _ _) _ _
  · exact .refl d

/-- Every field but the host paths, the link and the outputs stays. -/
theorem Dev.Sends.fields {d e : Dev} (h : d.Sends e) :
    e.regs = d.regs ∧ e.txns = d.txns ∧ e.commits = d.commits ∧ e.lamp = d.lamp ∧ e.compose = d.compose ∧ e.ingest = d.ingest ∧
    e.time = d.time ∧ e.twin = d.twin ∧ e.safe = d.safe ∧ e.flash = d.flash ∧ e.images = d.images ∧ e.now = d.now ∧ e.role = d.role := by
  rw [h]
  exact ⟨rfl, rfl, rfl, rfl, rfl, rfl, rfl, rfl, rfl, rfl, rfl, rfl, rfl⟩

/-! ### Rolling back -/

/-- A rollback takes the originator's transaction out, and touches else only what waits to be sent (R80). -/
theorem Dev.rollback_eq (d : Dev) (o : Nat) :
    d.rollback o = { d with txns := d.txns.filter fun t => t.orig != o, host := (d.rollback o).host, link := (d.rollback o).link,
                            out := (d.rollback o).out } := by
  unfold Dev.rollback
  split
  · next h =>
    have : (d.txns.filter fun t => t.orig != o) = d.txns := by
      refine List.filter_eq_self.mpr fun t ht => ?_
      have := List.find?_eq_none.mp h t ht
      simpa using this
    rw [this]
  · next t h =>
    have hs := sends_foldl (fun d x => d.sendTileCommand x .txnRollback 0 t.id []) (fun d x => sends_sendTileCommand d x _ _ _ _) (d.tilesTouched t) d
    have he := hs.fields.2.1
    unfold Dev.Sends at hs
    unfold Dev.dropTxn
    rw [hs]

/-! ### Loads of registers -/

/-- Nothing but the host paths, the link, the outputs and some registers differs. -/
structure Dev.Loads (d e : Dev) (as : List Nat) : Prop where
  rest : e = { d with regs := e.regs, host := e.host, link := e.link, out := e.out }
  regs : ∀ a, a ∉ as → e.reg a = d.reg a

theorem Dev.Loads.refl (d : Dev) (as : List Nat) : d.Loads d as := ⟨rfl, fun _ _ => rfl⟩

theorem Dev.Loads.trans {d e f : Dev} {as bs : List Nat} (h : d.Loads e as) (g : e.Loads f bs) : d.Loads f (as ++ bs) :=
  ⟨by rw [g.rest, h.rest], fun a x => (g.regs a fun y => x (List.mem_append_right _ y)).trans
    (h.regs a fun y => x (List.mem_append_left _ y))⟩

theorem Dev.Loads.mono {d e : Dev} {as bs : List Nat} (h : d.Loads e as) (s : ∀ a ∈ as, a ∈ bs) : d.Loads e bs :=
  ⟨h.rest, fun a x => h.regs a fun y => x (s a y)⟩

/-- Within registers that the second step may load too. -/
theorem Dev.Loads.step {d e f : Dev} {as : List Nat} (h : d.Loads e as) (g : e.Loads f as) : d.Loads f as :=
  (h.trans g).mono fun _ x => (List.mem_append.mp x).elim id id

theorem Dev.loads_set (d : Dev) (x : Fld) (v : Nat) : d.Loads (d.set x v) [x.addr] :=
  ⟨rfl, fun a h => Dev.reg_set_ne d x v a (by simpa using h)⟩

theorem Dev.loads_setAll (l : List (Fld × Nat)) : ∀ d : Dev, d.Loads (d.setAll l) (l.map (·.1.addr)) := by
  induction l with
  | nil => exact fun d => .refl d _
  | cons x l ih => exact fun d => ((loads_set d x.1 x.2).trans (ih _)).mono fun a h => by simpa using h

theorem Dev.Talk.loads {d e : Dev} (h : d.Talk e) : d.Loads e [R.CTRL_CMD_STAT, R.KEEP_SAFE_STAT] :=
  ⟨h.rest, fun a x => by
    simp only [List.mem_cons, List.not_mem_nil, or_false, not_or] at x
    exact h.regs a x.1 x.2⟩

theorem Dev.Sends.loads {d e : Dev} (h : d.Sends e) (as : List Nat) : d.Loads e as :=
  ⟨by
    have := h
    unfold Dev.Sends at this
    rw [this], fun a _ => h.reg a⟩

/-! ### Ports and loops -/

/-- KEEP_INSVC's lanes of a port follow its state. -/
theorem Dev.loads_refreshLanes (d : Dev) (n : Nat) (r : Bool) :
    d.Loads (d.refreshLanes n r) [R.KEEP_INSVC, R.CTRL_CMD_STAT, R.KEEP_SAFE_STAT] := by
  unfold Dev.refreshLanes
  dsimp only
  generalize (if n < 8 then d.laneCount n else 0) = v
  have h := (loads_set d ⟨R.KEEP_INSVC, 32 + 3 * n, 3⟩ v).mono
    (bs := [R.KEEP_INSVC, R.CTRL_CMD_STAT, R.KEEP_SAFE_STAT]) fun a x => by
      simp only [List.mem_cons, List.not_mem_nil, or_false] at x
      exact x ▸ List.mem_cons_self
  by_cases e : d.get ⟨R.KEEP_INSVC, 32 + 3 * n, 3⟩ = v
  · rw [if_pos e]
    exact .refl d _
  · rw [if_neg e]
    cases r
    · exact h.step ((talk_event _ _ _ _).loads.mono fun a x => List.mem_cons_of_mem _ x)
    · exact h

/-- A port that takes a state (R279). -/
theorem Dev.loads_setPortState (d : Dev) (n st : Nat) :
    d.Loads (d.setPortState n st) [R.LINK_OVL_STAT n, R.KEEP_INSVC, R.CTRL_CMD_STAT, R.KEEP_SAFE_STAT] := by
  have words : d.Loads (d.onPort n fun p => { p with words := 0 }) [R.LINK_OVL_STAT n, R.KEEP_INSVC, R.CTRL_CMD_STAT, R.KEEP_SAFE_STAT] :=
    ⟨rfl, fun _ _ => rfl⟩
  unfold Dev.setPortState
  refine (words.step ((loads_setAll _ _).mono fun a x => ?_)).step ((loads_refreshLanes _ n false).mono fun a x => List.mem_cons_of_mem _ x)
  simp only [List.map_cons, List.map_nil, List.mem_cons, List.not_mem_nil, or_false] at x
  rcases x with rfl | rfl | rfl <;> exact List.mem_cons_self

/-- A loop that takes a state (R278, R282). -/
theorem Dev.loads_setLoopState (d : Dev) (k st : Nat) :
    d.Loads (d.setLoopState k st) [R.LINK_LOOP_STAT k, R.KEEP_SVC_STAT, R.CTRL_CMD_STAT, R.KEEP_SAFE_STAT] := by
  have why : ∀ e : Dev, e.Loads e.refreshWhyLink [R.LINK_LOOP_STAT k, R.KEEP_SVC_STAT, R.CTRL_CMD_STAT, R.KEEP_SAFE_STAT] := fun e =>
    (loads_set e _ _).mono fun a x => by
      simp only [List.mem_cons, List.not_mem_nil, or_false] at x
      subst x
      exact List.mem_cons_of_mem _ List.mem_cons_self
  have h1 := (loads_set d (F.LINK_LOOP_STAT_STATE k) st).mono
    (bs := [R.LINK_LOOP_STAT k, R.KEEP_SVC_STAT, R.CTRL_CMD_STAT, R.KEEP_SAFE_STAT]) fun a x => by
      simp only [List.mem_cons, List.not_mem_nil, or_false] at x
      subst x
      exact List.mem_cons_self
  unfold Dev.setLoopState
  dsimp only
  split
  · exact (h1.step ((talk_event _ _ _ _).loads.mono fun a x => List.mem_cons_of_mem _ (List.mem_cons_of_mem _ x))).step (why _)
  · exact h1.step (why _)

/-! ### Direct writes -/

/-- A direct write by a row of a device that answers: the write's own state with OK, or the state with the refusal's status. -/
theorem State.writeRow_of_error (s : State) (a : Nat) (v : Word) (st : Status) (dt : Nat) (h : s.dev.answers = true)
    (e : s.writeOne a (BitVec.allOnes 64) v = .error (st, dt)) :
    s.writeRow a v = { s with dev := { s.dev with lastStatus := st.code, lastDetail := dt } } := by
  unfold State.writeRow
  rw [h, e]
  rfl

theorem State.writeRow_of_ok (s t : State) (a : Nat) (v : Word) (h : s.dev.answers = true)
    (e : s.writeOne a (BitVec.allOnes 64) v = .ok t) :
    s.writeRow a v = { t with dev := { t.dev with lastStatus := Status.ok.code, lastDetail := 0 } } := by
  unfold State.writeRow
  rw [h, e]
  rfl

/-- Where no register is, a write answers E_ADDR (R19). -/
theorem State.writeOne_none (s : State) (a : Nat) (m v : Word) (h : regAt a = none) : s.writeOne a m v = .error (.addr, 0) := by
  simp [State.writeOne, h]

end Sys2Proof.Machine
end

