-- ==== Sys2Proof/Laws/Memory.lean ====
section
/-!
SUPPORT. Laws of DRAM: a read after a write, and the canonical form that every write keeps.
-/
namespace Sys2Proof.Machine

open Sys2Proof

/-! ### The canonical form -/

theorem Memory.wfFrom_mono (m : List Host.Cell) : ∀ lo lo' : Nat, lo' ≤ lo → Memory.wfFrom lo m = true → Memory.wfFrom lo' m = true := by
  cases m with
  | nil => intros; rfl
  | cons x rest =>
    intro lo lo' h w
    obtain ⟨k, v⟩ := x
    simp only [Memory.wfFrom, Bool.and_eq_true, decide_eq_true_eq] at w ⊢
    exact ⟨⟨by omega, w.1.2⟩, w.2⟩

theorem wfFrom_memPut (b : Byte) (a : Nat) (m : List Host.Cell) :
    ∀ lo : Nat, lo ≤ a → Memory.wfFrom lo m = true → Memory.wfFrom lo (memPut m a b) = true := by
  induction m with
  | nil =>
    intro lo h _
    by_cases hb : b = 0#8 <;> simp [memPut, Memory.wfFrom, hb, h]
  | cons x rest ih =>
    intro lo h w
    obtain ⟨k, v⟩ := x
    simp only [Memory.wfFrom, Bool.and_eq_true, decide_eq_true_eq] at w
    unfold memPut
    by_cases h1 : a < k
    · by_cases hb : b = 0#8
      · have hw : Memory.wfFrom lo ((k, v) :: rest) = true := by simp [Memory.wfFrom, w.1.1, w.2, show (v != 0#8) = true from w.1.2]
        simpa [h1, hb] using hw
      · have hk : a + 1 ≤ k := h1
        simp [h1, hb, Memory.wfFrom, h, hk, w.2, show (v != 0#8) = true from w.1.2]
    · by_cases h2 : k = a
      · subst h2
        by_cases hb : b = 0#8
        · simp only [Nat.lt_irrefl, if_false, hb]
          simp only [if_true]
          exact Memory.wfFrom_mono _ _ _ (by omega) w.2
        · simp [hb, Memory.wfFrom, h, w.2]
      · simp only [h1, h2, if_false, Memory.wfFrom, Bool.and_eq_true, decide_eq_true_eq]
        exact ⟨w.1, ih (k + 1) (by omega) w.2⟩

/-- A byte write keeps the canonical form. -/
theorem wf_memPut (m : List Host.Cell) (a : Nat) (b : Byte) (h : Memory.wf m = true) : Memory.wf (memPut m a b) = true :=
  wfFrom_memPut b a m 0 (Nat.zero_le a) h

theorem wf_memPutBytes (bs : List Byte) : ∀ (m : List Host.Cell) (a : Nat), Memory.wf m = true → Memory.wf (memPutBytes m a bs) = true := by
  induction bs with
  | nil => exact fun _ _ h => h
  | cons b bs ih => exact fun m a h => ih _ _ (wf_memPut m a b h)

theorem wf_memPutWords (ws : List Word) : ∀ (m : List Host.Cell) (a : Nat), Memory.wf m = true → Memory.wf (memPutWords m a ws) = true := by
  induction ws with
  | nil => exact fun _ _ h => h
  | cons w ws ih => exact fun m a h => ih _ _ (wf_memPutBytes _ m a h)

/-! ### Reading what was written -/

theorem memByte_below (m : List Host.Cell) : ∀ lo a : Nat, Memory.wfFrom lo m = true → a < lo → memByte m a = 0 := by
  cases m with
  | nil => intros; rfl
  | cons x rest =>
    intro lo a w h
    obtain ⟨k, v⟩ := x
    simp only [Memory.wfFrom, Bool.and_eq_true, decide_eq_true_eq] at w
    have h1 : k ≠ a := by omega
    have h2 : a < k := by omega
    simp [memByte, h1, h2]

theorem memByte_memPut (b : Byte) (a c : Nat) (m : List Host.Cell) :
    ∀ lo : Nat, Memory.wfFrom lo m = true → memByte (memPut m a b) c = if c = a then b else memByte m c := by
  induction m with
  | nil =>
    intro lo _
    by_cases hb : b = 0#8 <;> by_cases hc : a = c <;> simp [memPut, memByte, hb, hc, eq_comm]
  | cons x rest ih =>
    intro lo w
    obtain ⟨k, v⟩ := x
    simp only [Memory.wfFrom, Bool.and_eq_true, decide_eq_true_eq] at w
    unfold memPut
    by_cases h1 : a < k
    · by_cases hb : b = 0#8
      · by_cases hc : c = a
        · subst hc
          simp [h1, hb, memByte, show k ≠ c by omega]
        · simp [h1, hb, hc]
      · by_cases hc : c = a
        · subst hc
          simp [h1, hb, memByte]
        · by_cases h3 : c < a
          · simp [h1, hb, hc, memByte, Ne.symm hc, h3, show k ≠ c by omega, show c < k by omega]
          · simp [h1, hb, hc, memByte, Ne.symm hc, h3]
    · by_cases h2 : k = a
      · subst h2
        by_cases hb : b = 0#8
        · by_cases hc : c = k
          · subst hc
            simp [hb, memByte_below rest _ c w.2 (by omega)]
          · by_cases h3 : c < k
            · simp [hb, hc, memByte, Ne.symm hc, h3, memByte_below rest _ c w.2 (by omega)]
            · simp [hb, hc, memByte, Ne.symm hc, h3]
        · by_cases hc : c = k
          · subst hc
            simp [hb, memByte]
          · simp [hb, hc, memByte, Ne.symm hc]
      · by_cases h4 : k = c
        · subst h4
          simp [h1, h2, memByte]
        · by_cases h5 : c < k
          · simp [h1, h2, memByte, h4, h5, show c ≠ a by omega]
          · simp [h1, h2, memByte, h4, h5, ih _ w.2]

/-- A byte reads what was last written to it; every other byte as before. -/
theorem memByte_put (m : List Host.Cell) (a c : Nat) (b : Byte) (h : Memory.wf m = true) :
    memByte (memPut m a b) c = if c = a then b else memByte m c := memByte_memPut b a c m 0 h

/-- Bytes written from an address upward read back; every other byte as before. -/
theorem memByte_putBytes (bs : List Byte) : ∀ (m : List Host.Cell) (a c : Nat), Memory.wf m = true →
    memByte (memPutBytes m a bs) c = if a ≤ c ∧ c < a + bs.length then nth bs (c - a) 0 else memByte m c := by
  induction bs with
  | nil =>
    intro m a c _
    rw [if_neg (by simp)]
    rfl
  | cons b bs ih =>
    intro m a c h
    rw [memPutBytes, ih _ _ _ (wf_memPut m a b h), memByte_put m a c b h]
    by_cases h1 : c = a
    · subst h1
      have : ¬ (c + 1 ≤ c ∧ c < c + 1 + bs.length) := by omega
      simp [this, nth]
    · by_cases h2 : a + 1 ≤ c ∧ c < a + 1 + bs.length
      · have h3 : a ≤ c ∧ c < a + (b :: bs).length := by simp; omega
        have h4 : c - a = (c - (a + 1)) + 1 := by omega
        simp only [h2, h3, h1, if_true, and_self]
        rw [h4]
        simp [nth]
      · have h3 : ¬ (a ≤ c ∧ c < a + (b :: bs).length) := by simp; omega
        simp only [h2, h3, h1, if_false]

end Sys2Proof.Machine
end

