-- ==== Sys2Proof/Tests/Slice0.lean ====
section
/-!
SUPPORT. Tests: values from the worked examples of the spec, an ill-formed term for each check of WellFormed, and for every statement of
Certificates/Slice0/Obligations.lean that has hypotheses states and operands that meet them, clause by clause, in the clauses' order.
-/
namespace Sys2Proof.Tests

open Sys2Proof Sys2Proof.Machine

set_option Elab.async false

/-! ### What the tests are about -/

/-- A sender and a tile in service, nothing else set; a state with one of them. -/
def ungated : List (Nat × Word) := [(R.KEEP_GATE_RUN, BitVec.allOnes 64)]
def snd : Dev := { boot := .up, regs := ungated }
def til : Dev := { boot := .up, role := .tile, variant := .gkd9064t, regs := ungated }
def on (d : Dev) : State := { dev := d }

/-- Commands of the management port, outside a transaction and in one, and of PCIe queue 0. -/
def hd : Hdr := ⟨8, 1, 0, 0, 0, false, 0⟩
def hdT : Hdr := ⟨8, 1, 5, 0, 0, false, 0⟩
def hq : Hdr := ⟨0, 1, 0, 0, 0, false, 0⟩

/-- A device with 1 GiB of DRAM, half of it usable. -/
def withDram (d : Dev) : Dev := (d.onMc fun m => { m with chBytes := 2 ^ 30, channels := 1, subch := 1, ranks := 1, allFilled := true }).set F.MEM_INFO_USABLE_MIB 512

/-- An open transaction of the management port. -/
def txn5 : Txn := ⟨8, 5, [], false, [], 0, 0, []⟩
def withTxn (d : Dev) : Dev := { d with txns := [txn5] }

/-- What an operation that may be refused answers when it is not. -/
def okOf {ε α : Type} (x : α) : Except ε α → α
  | .ok y => y
  | .error _ => x

/-- PCIe queue 0 enabled, its rings of 16 entries, a command waiting. -/
def withQueue (d : Dev) : Dev := d.onPcie 0 fun p => { p with cqSize := 16, rqSize := 16, enable := true, cqTail := 1 }
def withHeld (d : Dev) : Dev := d.onPcie 0 fun p => { p with cqSize := 16, rqSize := 16, enable := true, rqTail := 3, rqHead := 4, held := [[1, 2, 3]] }

/-- A PING as a packet, and as the queued command it stands for. -/
def pingWords : List Word := commandPacket 0x01 1 0 0 0 false false []
def pingBad : List Word := pingWords.take 2 ++ [0]
def pingCmd (o : Nat) : QCmd := readCmd o (pingWords.take 2) (nth pingWords 2 0)

/-- The family of a register. -/
def famOf (a : Nat) : RegFam := ((regAt a).map (·.1)).getD ⟨"", 0, 0, 0, 0, .alwaysK, []⟩

/-- OTP with a key in integrator slots 0 and 3. -/
def keyed (s : State) : State := { s with otp := { s.otp with integrator := [⟨[1], false⟩, {}, {}, ⟨[1], false⟩] } }

/-- A transaction of an Ethernet session that holds an entry. -/
def reserving4 : Txn := ⟨4, 7, [(R.COMPOSE_BG, 20)], false, [], 0, 0, []⟩

/-- A twin sender that seeks. -/
def seekingB (d : Dev) : Dev := ({ d with role := .senderB } : Dev).set F.CTRL_PAIR_STAT_STATE psSeeking

/-- A commit of the management port, not validated yet. -/
def commit5 : Commit := ⟨8, 0x31, 1, 5, 0, 0, .saddle, false, 0, [], [], .validating, 0, [], [], 0, none, [], []⟩
def saddle5 : Commit := { commit5 with stage := .queued }
def withCommit (c : Commit) (d : Dev) : Dev := { d with commits := [c] }

/-- Boot inputs with which HKO does not come up in time, and states that meet them at their next reset. -/
def slow : BootInputs := ⟨⟨0, false, 0, 0⟩, false, false, false, none, false, [], [], false, [], [], true, 0xFFFF⟩
def slowDev (d : Dev) : Dev := { d with env := some slow }

/-- A running wall time; a locked, qualified clock root; holdover. -/
def timed (d : Dev) : Dev := d.onTime fun t => { t with running := true }
def locked (d : Dev) : Dev := d.setAll [(F.KEEP_CLK_STAT_RPLL_LOCK, 1), (F.KEEP_CLK_STAT_REF_QUAL, 1)]
def expecting (d : Dev) : Dev := d.onClk fun c => { c with expected := 16384 }
def held (d : Dev) : Dev := d.set F.KEEP_CLK_STAT_HOLDOVER 1

/-- A queued saddle commit of the management port. -/
def queued5 : Commit := { commit5 with stage := .queued }

/-- A transaction of the loop, and one a tile has prepared. -/
def txn9 : Txn := ⟨9, 5, [], false, [], 0, 0, []⟩
def prep5 : Prepared := ⟨5, 7, [], [], false⟩
def leaseBelow (d : Dev) : Dev := d.onTileLink fun t => { t with leases := [some (1, 0), some (2, 0)] }

/-- A rail configuration, and a tile with it on rail n in a state. -/
def railW : Word := Word.pack [(0, 2, 1), (2, 4, 3), (8, 6, 10), (16, 12, 400), (32, 12, 500), (48, 8, 1)]
def railDev (n st : Nat) : Dev := (til.setReg (R.LAMP_RAIL_CFG n) railW).setAll [(F.LAMP_RAIL_STAT_STATE n, st), (F.LAMP_RAIL_LIM_RETRY_MAX n, 3)]

/-- DRAM with the row of address 64 in its bank's table, its count n. -/
def rowed (n : Nat) : Dev :=
  (withDram snd).onMc fun m => { m with banks := [⟨(m.place 64).bankNo, none, [((m.place 64).row, n)]⟩] }
def charged (d : Dev) : Dev := d.onMc fun m => { m with charges := List.replicate 19 (d.get F.MEM_RH_CFG_OFFENDER_LIMIT - 1) }
def thresh : Nat := (withDram snd).get F.MEM_RH_CFG_THRESH

/-- A DRAM burst read with good check bytes is one of no words here; a bad one has a word with wrong check bytes. -/
def badBurst : BurstRead := [(1, 200, 200)]

/-- Boards on the reference clock, whose links run; a sender or a tile with port 0 in a state; loops of a sender with a tile, with state x. -/
def linked (d : Dev) : Dev := d.onClk fun c => { c with onHko := false }
def port0 (st : Nat) (d : Dev) : Dev := (linked d).set (F.LINK_OVL_STAT_STATE 0) st
def tileAt0 (x : Nat) : TileRec := ⟨0, 1, 2, 3, 0, false, true, false, x, 0, 0, true, false⟩
def looped (x : Nat) (d : Dev) : Dev := d.onLoop 0 fun l => { l with tiles := [tileAt0 x] }

/-- A tile enumerated at position 3; a frame opening; a parcel's 32 words with a given check word. -/
def ident (d : Dev) : Dev := (d.set F.LINK_TILE_STAT_IDENT 1).set F.LINK_TILE_STAT_POSITION 3
def fopen : FrameOpen := ⟨0, 2, 1, false, false, 0, 0, 4⟩
def parcelBody : List Word := List.replicate 31 0
def parcelFor (d : Dev) (c : Word → Word) : List Word := parcelBody ++ [c (d.wantCheck 0 (parcelBody ++ [0]))]
def pixelBody (d : Dev) : List Word := ParcelHead.toWord ⟨ptPixel, false, 0, 1, d.rxFrame % 2 ^ 24, 0, 0, 0⟩ :: List.replicate 30 7
def pixelFor (d : Dev) : List Word := pixelBody d ++ [d.wantCheck 0 (pixelBody d ++ [0])]
theorem wantCheck_body (d : Dev) (n : Nat) (b : List Word) (x y : Word) (h : b.length = 31) : d.wantCheck n (b ++ [x]) = d.wantCheck n (b ++ [y]) := by
  have k (z : Word) : nth (b ++ [z]) 0 0 = nth b 0 0 ∧ (b ++ [z]).take 31 = b := by
    constructor
    · simp [nth, h]
    · rw [← h, List.take_left]
  simp only [Dev.wantCheck, (k x).1, (k x).2, (k y).1, (k y).2]
theorem nth_snoc (b : List Word) (x : Word) (h : b.length = 31) : nth (b ++ [x]) 31 0 = x := by simp [nth, ← h]
theorem parcelFor_want (d : Dev) (c : Word → Word) : nth (parcelFor d c) 31 0 = c (d.wantCheck 0 (parcelFor d c)) := by
  rw [parcelFor, wantCheck_body d 0 parcelBody (c (d.wantCheck 0 (parcelBody ++ [0]))) 0 rfl]; exact nth_snoc _ _ rfl
theorem pixelFor_want (d : Dev) : nth (pixelFor d) 31 0 = d.wantCheck 0 (pixelFor d) := by
  rw [pixelFor, wantCheck_body d 0 (pixelBody d) (d.wantCheck 0 (pixelBody d ++ [0])) 0 rfl]; exact nth_snoc _ _ rfl

/-- An enumeration under way, with one answer in; loop 0 of a sender in a state, a layout of three tiles on it. -/
def loopDev (st : Nat) (d : Dev) : Dev := (linked d).set (F.LINK_LOOP_STAT_STATE 0) st
def lay0 (p : Nat) : LayoutTile := ⟨0, 0, p, 0, 0, 256, 256⟩
def laid (d : Dev) : Dev := d.onLink fun l => { l with layout := [lay0 0, lay0 1, lay0 2] }
def run1 : EnumRun := ⟨[0], some (pingCmd 8), 0⟩
def enuming (d : Dev) : Dev := d.onLoop 0 fun l => { l with enum := some run1 }

/-- A relayed PING that waits for position 3 of loop 0, and the tile's reply to it. -/
def relay1 : Relay := ⟨8, 0x01, 7, 0, 0, 0, false, 0, false, 0, [(0, 3)], 1, 0, 0, false, [], false, 0, [], [], none⟩
def relaying (d : Dev) : Dev := d.onHost fun h => { h with relays := [relay1] }
def tileWords : List Word := replyPacket 0x01 7 0 0 0 0 (tileTarget 0 0 3) false [5, 6]
def replyBody : List Word := Word.pack [(0, 8, 0x10), (8, 1, 1), (9, 1, 1)] :: tileWords

/-- A twin in a state of the pair, its partner known; the position tables of a push. -/
def twinDev (st : Nat) (d : Dev) : Dev := ((linked d).set F.CTRL_PAIR_CFG_TWIN 1).set F.CTRL_PAIR_STAT_STATE st |>.onTwin fun t => { t with partnerLo := 8, partnerHi := 9 }
def paired (d : Dev) : Dev := d.setAll [(F.CTRL_PAIR_STAT_PAIR_UP, 1), (F.CTRL_PAIR_STAT_IN_SYNC, 1)]
def withDb (d : Dev) : Dev := (d.onLink fun l => { l with db := [⟨0, 3, 1, 2, 3, [(1, [5, 6])]⟩] }).onImg fun i => { i with caldbLoaded := true }
/-- A key report of a device with a UID, measuring one CTRL_FW image, its vendor slot 0; a device that holds that slot. -/
def keyReport (lo hi : Word) : List Word :=
  [Word.pack [(0, 32, 0x41545354), (32, 8, 1), (40, 8, 1), (48, 8, 4)], 0, 0, 0, 0, lo, hi, 0, 0, 1] ++ List.replicate 724 0
def rooted (d : Dev) : Dev := (d.set F.KEEP_KEY_INFO_V_PRESENT 1).onTileLink fun t => { t with secret := [1, 2, 3, 4] }
def wrapped : List Word := [0xe7174cc84467981d, 0x32779ee62c04ff2c, 0x0caf6516953747d3, 0x0e797b1dc8fa7c03, 0xf7aa7af793254be9]

/-- A standby and a holder of a pair whose link is up; a mirrored commit at each; a register list the standby refuses. -/
def stby : Dev := paired (twinDev psStandby snd)
def hold : Dev := paired (twinDev psHolder snd)
def mirrored : Commit := { commit5 with orig := 16 + 8, frame := 7, stage := .queued }
def held4 : Commit := { commit5 with stage := .queued, mirror := some 4 }
def badRegs : List (Nat × Word) := [(R.COMPOSE_SADDLE, 0)]

/-- A PTP path in use with a master; an announcement. -/
def ptpDev (f : PtpPath → PtpPath) (d : Dev) : Dev :=
  (d.onTime fun t => { t with paths := modifyNth t.paths 2 f }).set F.TIME_PTP_CFG_MGMT_EN 1
def withMaster (p : PtpPath) : PtpPath := { p with master := some [1, 6, 0x20, 0, 1, 5, 0] }
def announce (dom : Nat) : Announce := ⟨1, 6, 0x20, 0, 1, 5, 0, dom, 37, true, false, false⟩

/-- The state of TIME, and a mode of FSYNC_IN and of output 0. -/
def timeIs (st : Nat) (d : Dev) : Dev := d.set F.TIME_STAT_STATE st
def fsIs (m : Nat) (d : Dev) : Dev := timed (d.set F.TIME_FSYNC_IN_CFG_MODE m)
def foIs (m : Nat) (d : Dev) : Dev := (timed d).set (F.TIME_FSYNC_OUT_CFG_MODE 0) m |>.onTime fun t => { t with leftFree := true }

/-- A video port that is on, its lock; source 0 fed by it, with so many slots; a mode and a frame of it. -/
def vin (d : Dev) : Dev := d.set (F.INGEST_VIN_CFG_EN 0) 1 |>.set (F.INGEST_VIN_CFG_HDCP_EN 0) 1
def vinLock (d : Dev) : Dev := (vin d).set (F.INGEST_VIN_STAT_LOCK 0) 1
def srcDev (n : Nat) (d : Dev) : Dev := (vinLock d).setAll [(F.INGEST_SRC_CFG_EN 0, 1), (F.INGEST_SRC_CFG_COUNT 0, n)]
def vmode (w : Nat) : VinMode := ⟨w, 4, 6000, 0, 0, 0, 0, false, false, 4, 4, false⟩
def vinHas (m : VinMode) (d : Dev) : Dev := d.onIngest fun i => { i with vinModes := [some m, none, none, none] }
def vframe : SrcFrame := ⟨5, 6, 1, 1, 0, 0, 0, 0, false, 0, true, [[(1, 2, 3)]]⟩
def rushed (d : Dev) : Dev := d.onSource 0 fun s => { s with keys := [4, 3] }

/-- Flow 5 on port 0 that waits for packet 65535; audio from AIN on channel 3; output port 1 and its stages. -/
def flowDev (d : Dev) : Dev := (d.setAll [(F.INGEST_FLOW_DST_EN 5, 1), (F.INGEST_FLOW_DST_PORTS 5, 1)]).onFlow 5 fun f => { f with next := some 65535 }
def ainDev (d : Dev) : Dev := d.setAll [(F.INGEST_AUD_CFG_EN, 1), (F.INGEST_AUD_CFG_TRACK, 1), (F.INGEST_AIN_CFG_EN, 1), (F.INGEST_ACH_CFG_KIND 3, 2), (F.INGEST_ACH_CFG_CH 3, 1)]
def aoutDev (en : Nat) (d : Dev) : Dev := d.setAll [(F.KEEP_AMCLK_CFG_INT, 18), (F.KEEP_AMCLK_CFG_NUM, 3), (F.KEEP_AMCLK_CFG_DEN, 4), (F.KEEP_AMCLK_CFG_EN, 1), (F.INGEST_AOUT_CFG_EN 1, en), (F.INGEST_AOUT_CFG_SLOT 1, 0), (F.INGEST_AOUT_CFG_RATE 1, 0)]
def staged (x : AudioStage) (d : Dev) : Dev := d.onIngest fun i => { i with aout := [.off, x, .off, .off] }

/-- A latched set; a pipe that composes the middle of a frame of it, its ports' copies under way. -/
def set7 : ComposeSet := ⟨7, [(R.LINK_LOOP_CFG 0, Word.pack [(0, 1, 1)])], [], [], [], 0, false⟩
def piped (d : Dev) : Dev := (loopDev lsOne (port0 lsOne (laid d))).onCompose fun c =>
  { c with cur := some set7, pipes := [{ opened := some 7, composing := true, tile := 1, row := 5 }, {}, {}, {}] }
def drained (d : Dev) : Dev := (d.onCompose fun c => { c with pipes := [{ opened := some 7 }, {}, {}, {}] }).onPort 0 fun p => { p with frame := some 7, pixAll := 9, pixSent := 8 }

/-- A work item; basin 1 ready, with an item on engine 4 or without; loading. -/
def item3 : WorkItem := { ident := 3, kernel := 1, units := 2, background := true, frame := 7 }
def item4 : WorkItem := { item3 with background := false }
def free1 (b : Basin) : List Basin := ({} : Basin) :: b :: List.replicate 14 {}
def basinIs (b : Basin) (d : Dev) : Dev := d.onCompose fun c => { c with basins := free1 b }
theorem next_none (b : Basin) (h : b.next = none) (c : Nat) : (nth (free1 b) c {}).next = none := by
  match c with
  | 0 => rfl
  | 1 => exact h
  | c + 2 => simp only [free1, nth, List.getElem?_cons_succ, List.getElem?_replicate]; split <;> rfl
def ready1 : Basin := { active := true, st := 3 }
def busy1 : Basin := { ready1 with running := [(4, item3)] }
def busyWith (i : WorkItem) : Basin := { ready1 with running := [(4, i)] }
def withLib (d : Dev) : Dev := d.onImg fun i => { i with running := [(2, 1)] }

/-- A word of an engine, or of a basin's port, granted and then broken in so many copies. -/
def brokenAt (x : FaultSite) (n : Nat) : FabricArrival := ⟨x, [⟨.rt, 4, 0, 5⟩], 0, 0, List.replicate n 1⟩

/-- A tile at position 3 of a loop; a HEADER class staged there whole, accepted; a save under way. -/
def local_ (d : Dev) : Dev := d.set F.CTRL_PATH_CFG_LOCAL_WRITE 1
def tile3 : Dev := (ident til).onLink fun l => { l with layout := [lay0 3] }
def header1 : List Word := [Word.pack [(0, 16, 256), (16, 16, 256)], 5, 6]
def staged1 (d : Dev) : Dev := d.onLamp fun l => { l with staging := [(1, 0, nth header1 0 0), (1, 1, 5), (1, 2, 6)] }
def accepted1 (d : Dev) : Dev := d.onLamp fun l => { l with accepted := [(1, header1)] }
def save1 : SaveRun := ⟨7, [1, 2, 3, 4]⟩
def saving (d : Dev) : Dev := d.onLamp fun l => { l with saving := some save1, saveCmds := [pingCmd 8] }

/-- A correction set and a frame of the drive store; a tile whose lamps show it; a frame in reception. -/
def cset (n : Nat) : CorSet := ⟨n, [], [], [], false⟩
def drive (n : Nat) : DriveFrame := ⟨n, 1, 1, [(0, [[(0x100, 0x100), (0, 0), (0, 0)]])], cset n⟩
def showing (d : Dev) : Dev := (d.onSafe fun x => { x with blank := false }).onLamp fun l => { l with shown := some (drive 7) }
def receiving (x : RxFrame) (d : Dev) : Dev := d.onTileLink fun t => { t with rx := [x] }
def nextSet (n : Nat) (d : Dev) : Dev := d.onLamp fun l => { l with next := some (cset n) }

/-- A lane program's body: four lines, readback, two groups of one lane, and code. -/
def laneBody (code : List Word) : List Word :=
  [Word.pack [(48, 12, 2 * code.length)], Word.pack [(0, 16, 20000), (16, 8, 48), (24, 2, 2)], Word.pack [(0, 7, 4)],
    Word.pack [(0, 16, 100), (16, 1, 1)], 0, Word.pack [(24, 12, 128), (36, 12, 4), (48, 3, 1), (51, 8, 4)],
    Word.pack [(0, 12, 128), (24, 12, 128), (36, 12, 4), (48, 3, 1), (51, 8, 4)]] ++ List.replicate 14 0 ++ code
def withProg (code : List Word) (d : Dev) : Dev := d.onLamp fun l => { l with prog := laneBody code }

/-- A tile in full service with a photometry table of input 0, its gate open. -/
def photoTable : List Word := [Word.pack [(24, 12, 1), (36, 12, 1), (48, 1, 1)]] ++ List.replicate 7 0 ++ [Word.pack [(0, 8, 9)]]
def photoDev : Dev :=
  ((withProg [] (showing tile3)).onLamp fun l => { l with held := [(1, [Word.pack [(0, 16, 256), (16, 16, 4)]]), (6, photoTable)] }).setAll
    [(F.KEEP_SVC_STAT_SERVICE, 2), (F.COMPOSE_SLOT_TIME_LEN 0, 1000), (F.COMPOSE_SLOT_CFG_PWM_N 0, 1)]
def inputIs (x : PhotoIn) (d : Dev) : Dev := d.onPhoto fun p => { p with inputs := x :: List.replicate 7 {} }
def runs (m : Nat) (d : Dev) : Dev := d.onPhoto fun p => { p with run := some ⟨m, d.reg R.LAMP_PHOTO_CFG, d.reg R.LAMP_PHOTO_LIM, [], []⟩ }
def run1of (d : Dev) : PhotoRun := ⟨1, d.reg R.LAMP_PHOTO_CFG, d.reg R.LAMP_PHOTO_LIM, [], []⟩

/-- An image of class 8 of one block, and what is computed of it; DRAM that holds it at 64. -/
def image8 : List Word :=
  [0x8014b474d49, 5, 0x3e0000100000008, 9, 0, 0, 0, 0x3c8eb67, 0, 0, 0, 0, 0, 0, 0, 0x2923ff3] ++ (List.replicate 8 0 ++ 8 :: List.replicate 511 0)
theorem crc_append (n : Nat) (a b : List Word) : crcBytes 32 0x1EDC6F41 true n ((a ++ b).flatMap Word.bytes) =
    crcBytes 32 0x1EDC6F41 true (crcBytes 32 0x1EDC6F41 true n (a.flatMap Word.bytes)) (b.flatMap Word.bytes) := by
  simp [crcBytes, List.flatMap_append, List.foldl_append]
theorem crc_head8 : crc32c (image8.take 15) = 0x2923ff3 := by
  have h : image8.take 15 = image8.take 7 ++ (image8.drop 7).take 8 := rfl
  have a : crcBytes 32 0x1EDC6F41 true (packetInit 0) ((image8.take 7).flatMap Word.bytes) = 1160695707 := by decide +kernel
  have b : crcBytes 32 0x1EDC6F41 true 1160695707 (((image8.drop 7).take 8).flatMap Word.bytes) = 805549759 := by decide +kernel
  rw [crc32c, checkWord, h, crc_append, a, b]; decide +kernel
theorem header25 : headerRules 8 (image8.take 25) = true := by
  have h : (image8.take 25).take 15 = image8.take 15 := rfl
  have k : imgTable (image8.take 25) = imgTable image8 := rfl
  have t : crc32c (imgTable image8) = 0x3c8eb67 := by decide +kernel
  rw [headerRules, h, crc_head8, k, t]; decide +kernel
theorem judge_size (d : Dev) (c sl b : Nat) (ws : List Word)
    (h : (b != 8 * imgWords (isCode c) (imgBlocks ws) || ((d.cls c).slot sl).size < b) = true) : d.judgeLoad c sl b ws = .error (.range, 0) := by
  simp [Dev.judgeLoad, h]
theorem judge_fresh (d : Dev) (c sl b : Nat) (ws : List Word)
    (h1 : (b != 8 * imgWords (isCode c) (imgBlocks ws) || ((d.cls c).slot sl).size < b) = false) (h2 : headerRules c ws = true)
    (h3 : d.admits ws = true) (h4 : (((d.cls c).slot sl).words.take 16 == ws.take 16) = false) : d.judgeLoad c sl b ws = .ok (some 0) := by
  simp [Dev.judgeLoad, h1, h2, h3, h4]
def imgState : State := { on (withDram snd) with mem := memPutWords [] 64 (image8.take 25) }
theorem headerMem : headerRules 8 (memWords imgState.mem 64 536) = true := by
  have h : (memWords imgState.mem 64 536).take 15 = image8.take 15 := by decide +kernel
  have k : imgTable (memWords imgState.mem 64 536) = imgTable image8 := by decide +kernel
  have t : crc32c (imgTable image8) = 0x3c8eb67 := by decide +kernel
  rw [headerRules, h, crc_head8, k, t]; decide +kernel

/-- Slot 1 of a class holds an image in a state, and is the active one; a job. -/
def slotted (c st : Nat) (ws : List Word) (act : Option Nat) (d : Dev) : Dev :=
  { d with images := modifyNth d.images c fun k => { k with slots := [{}, { state := st, words := ws }], active := act } }
def jobOf (c : Nat) (re rel : Bool) (ws : List Word) (q : Option QCmd) : ImgJob := ⟨c, 1, re, (0, 0), rel, ws, q⟩
def inUse1 (c : Nat) (d : Dev) : Dev := d.onImg fun i => { i with running := [(c, 1)] }
def jobs (j : ImgJob) (d : Dev) : Dev := d.onImg fun i => { i with jobs := [j] }
def loadCmd (n : Nat) : QCmd := { pingCmd 8 with opcode := Op.imageLoad.code, payload := [1, 8, 64, Word.of n] }
def activate8 : Word := Word.pack [(0, 1, 1), (8, 8, 8)]

/-- A tile whose lane group 0 stands at an instruction; what it does there. -/
def laneDev (o : LaneOp) (f : Group → Group) : Dev :=
  ((withProg [Word.of o.encode] photoDev).onLamp fun l => { l with groups := f { routine := lrUpload } :: List.replicate 15 {} })
def upload1 : Upload := ⟨7, 7, 0, 0x8000, none⟩

/-- A tile with proof visits on, lamp 0's emitter 1 due. -/
def proofDev (r : Nat) : Dev :=
  ((photoDev.set F.LAMP_FAULT_CFG_PROOF_EN 1).onLamp fun l => { l with due := [(1, 5)], groups := { routine := r } :: List.replicate 15 {} })

/-! ### Values the spec works out -/

/-- The packet to the tile at loop 1, position 37, and its reply (ch. 4, worked example). -/
theorem test_command_words : (commandPacket 0x11 0x2A 5 0x1234 (tileTarget 2 1 37) false false [0, 0]).take 2 =
    [0x00050002002A0011, 0x0000123400010925] := by decide +kernel
theorem test_reply_words : (replyPacket 0x11 0x2A 5 0 0 0x1234 (tileTarget 2 1 37) false []).take 3 =
    [0x01050000002A0011, 0x0000123400000000, 0x0000000000010925] := by decide +kernel
theorem test_check_start : packetInit 0x2A = 0xFFD5FFD5 := by decide +kernel

/-- The first pixel parcel of that tile in frame 216,030 (ch. 9, worked encoding): its header, and what its check word starts from. -/
theorem test_parcel_header : ParcelHead.toWord ⟨ptPixel, false, 0, 37 * 2160, 216030, 2, 1, 0⟩ = 0x12034BDE01383000 := by decide +kernel
theorem test_parcel_start : 0xFFFFFFFFFFFFFFFF ^^^ (loopId 1 2 * 2 ^ 58) ^^^ (216030 * 2 ^ 24 + 79920) = 0xB7FFFCB421FEC7CF := by decide +kernel

/-- The blend of ch. 6's example, and the lamp of ch. 12's: ageing, decoding, gains, drive and dither. -/
theorem test_blend : blend 1 0x6000 0x4000 0x6000 0x2000 = 0x3800 := by decide +kernel
theorem test_aged_row : agedCoef 123 17102 = 128 ∧ agedCoef 3686 17102 = 3848 ∧ agedCoef 41 17102 = 43 := by decide +kernel
theorem test_decode : decodeCode false 12 2048 = 16388 ∧ decodeCode false 12 1024 = 8194 ∧ decodeCode false 12 512 = 4097 := by decide +kernel
theorem test_gain_t : gainT 80 656 560 = 17170 ∧ gainT 20 656 560 = 16581 ∧ gainT 10 656 560 = 16482 := by decide +kernel
theorem test_dither : ditherTheta 10 12 216030 0 = 8 ∧ ditherTheta 10 12 216030 1 = 12 ∧ ditherTheta 10 12 216030 2 = 0 ∧
    ditherGs true 10 12 216030 0 502027 = 31377 ∧ ditherGs true 10 12 216030 1 267272 = 16704 ∧
    ditherGs true 10 12 216030 2 133208 = 8326 := by decide +kernel

/-- The two checks of R93: CRC-32C at the reset configuration, CRC-8. -/
theorem test_cvu_crc32c : ((snd.cvuQueue 2 (Word.bytes 0x3837363534333231)).cvuQueue 2 [0x39]).cvuResult 2 = 0xE3069283 := by
  decide +kernel
theorem test_cvu_crc8 : crcResult 8 false false (crcBytes 8 7 false 0 (Word.bytes 0x3837363534333231 ++ [0x39])) = 0xF4 := by
  decide +kernel

/-- A write whose second register does not exist changes nothing (R19); a register that a commit of the same originator holds is reserved
(R78). -/
theorem test_refused_write_changes_nothing : (match exec (.writeReg hd (R.CTRL_TXN_CFG) [200, 0, 0]) (on snd) with
    | .next t => decide (t.dev.get F.CTRL_TXN_CFG_TIMEOUT_MS = 10000)
    | _ => false) = true := by decide +kernel
theorem test_pending_commit_reserves : ((withCommit { commit5 with entries := [(R.COMPOSE_BG, 1)] } snd).shadowWrite
    ⟨8, 256, [], false, [], 0, 0, []⟩ R.COMPOSE_BG (BitVec.allOnes 64) 2 |> fun r => match r with
    | .error e => decide (e = Status.busy)
    | .ok _ => false) = true := by decide +kernel

/-- The published vectors of the standards the spec names: FIPS 197 C.3, RFC 3394 4.6, SHAKE256 of the empty message. -/
theorem test_aes256 : aes256 [0x0706050403020100, 0x0F0E0D0C0B0A0908, 0x1716151413121110, 0x1F1E1D1C1B1A1918]
    0x00112233445566778899AABBCCDDEEFF = 0x8EA2B7CA516745BFEAFC49904B496089 := by decide +kernel
theorem test_key_wrap : keyWrap [0x0706050403020100, 0x0F0E0D0C0B0A0908, 0x1716151413121110, 0x1F1E1D1C1B1A1918]
    [0x7766554433221100, 0xFFEEDDCCBBAA9988, 0x0706050403020100, 0x0F0E0D0C0B0A0908] =
    [0xF410B8C404F4C928, 0x26F887FB5CB3CCCB, 0x26D30ED8E286573F, 0x3BF4991AE7F0C7CB, 0x21DD027A9B8B98FB] := by decide +kernel
theorem test_shake256 : shake256 [] = [0x138DA80B2BDDB946, 0x24EB3E74EB3F3B23, 0x821BB862EA52CD3F, 0x2F76D56E64270CB5] := by decide +kernel

/-! ### WellFormed -/

theorem test_bad_headers : ([{ hd with seq := 65536 }, { hd with txn := 256 }, { hd with cookie := 2 ^ 32 }, { hd with target := 2 ^ 32 },
  { hd with check := 2 ^ 64 }] : List Hdr).all (fun h => !(Instr.ping h).wf) = true := by decide +kernel

theorem test_well_formed : (Instr.readReg hd (2 ^ 64 - 1) 1).wf = true ∧ (Instr.laneTPulse 15 1 true 65535 511).wf = true := by decide +kernel

theorem test_illformed_1 : ([
    .readReg hd (2 ^ 64) 0, .readReg hd 0 (2 ^ 64), .memRead hd (2 ^ 64) 0, .memRead hd 0 (2 ^ 64), .writeReg hd (2 ^ 64) [],
     .memWrite hd (2 ^ 64) [], .writeField hd (2 ^ 64) 0 0, .dmaIn hd (2 ^ 64) 0 0 0 [], .dmaIn hd 0 (2 ^ 64) 0 0 [],
     .dmaIn hd 0 0 (2 ^ 64) 0 [], .dmaOut hd (2 ^ 64) 0 0 0, .dmaOut hd 0 (2 ^ 64) 0 0, .dmaOut hd 0 0 (2 ^ 64) 0,
     .cvRun hd 0 (2 ^ 64) 0 0, .cvRun hd 0 0 (2 ^ 64) 0, .cvRun hd 0 0 0 (2 ^ 64), .resetRegion hd (2 ^ 64), .powerState hd (2 ^ 64),
     .loopEnum hd (2 ^ 64), .imageLoad hd 0 0 (2 ^ 64) 0
  ] : List Instr).all (fun i => !i.wf) = true := by decide +kernel

theorem test_illformed_2 : ([
    .imageLoad hd 0 0 0 (2 ^ 64), .cqTailDoorbell 0 (2 ^ 64), .rqHeadUpdate 0 (2 ^ 64), .eqHeadUpdate (2 ^ 64),
     .ethDatagramRx (2 ^ 32) 0 [], .ethDatagramRx 0 (2 ^ 16) [], .cvuFeed 0 9 0, .ikeyEnrol 4, .ikeyRevoke 4, .dataImageLoadDone 13,
     .imageLoadDone 13 false false false, .imageRecheckDone 13 false false, .regionResetDone 8, .dramReadCheck 19 0 0 [],
     .dramReadCheck 0 (2 ^ 45) 0 [], .rhThreshold 19 0 0, .rhThreshold 0 (2 ^ 45) 0, .sourceFrameComplete 48 vframe,
     .flowPacketRx 40 0 0 0 false false, .flowPacketRx 0 2 0 0 false false
  ] : List Instr).all (fun i => !i.wf) = true := by decide +kernel

theorem test_illformed_3 : ([
    .flowPacketRx 0 0 (2 ^ 16) 0 false false, .flowLost 40, .ancPacketRx 40 0 0 0 [], .audioSampleRx 4 0 0 0 0 0 false,
     .audioSampleRx 0 (2 ^ 64) 0 0 0 0 false, .checkpointMiss 0 8 0, .slotUpload 0 8, .slotSwap 0 8, .pwmCycleStart 0 8 0 [],
     .lineBoundary 0 8 0 0, .workItemComplete 256 0 false, .itemWatchdog 256, .engineSuspectExpiry 256, .diagEngineRun 256 false,
     .basinLoadDone 16 [], .waitEventReturn 16, .laneNop 16, .laneRdiag 16 [], .laneEnd 16, .laneShift 16 0
  ] : List Instr).all (fun i => !i.wf) = true := by decide +kernel

theorem test_illformed_4 : ([
    .laneShift 0 (2 ^ 20), .laneShiftK 16 0 0, .laneShiftK 0 (2 ^ 16) 0, .laneShiftK 0 0 17, .lanePins 16 false false 0 false 0,
     .lanePins 0 false false 4 false 0, .lanePins 0 false false 0 false (2 ^ 20), .laneWait 16 0, .laneWait 0 8,
     .laneTPulse 16 0 false 0 0, .laneTPulse 0 2 false 0 0, .laneTPulse 0 0 false (2 ^ 16) 0, .laneTPulse 0 0 false 0 (2 ^ 9),
     .laneSetC 16 0 0, .laneSetC 0 4 0, .laneSetC 0 0 (2 ^ 20), .laneLoop 16 0 0, .laneLoop 0 4 0, .laneLoop 0 0 (2 ^ 12),
     .laneJump 16 0
  ] : List Instr).all (fun i => !i.wf) = true := by decide +kernel

theorem test_illformed_5 : ([
    .laneJump 0 (2 ^ 12), .laneGclk 16 0, .laneGclk 0 256, .proofDue 0 4, .coverageLow 0 4, .tileThermalReportRx 4 0 0,
     .tileThermalReportRx 0 128 0, .tileThermalReportRx 0 0 8, .parcelRx 0 (List.replicate 31 0) false, .abortRx 0 0 (2 ^ 24) 0,
     .abortRx 0 0 0 (2 ^ 8), .tagRx 0 0 0 (List.replicate 15 (0, 0)), .txnPrepare 0 256 0 0, .txnPrepare 0 0 10 0,
     .txnApply 0 256 0 0, .txnApply 0 0 10 0, .txnDrop 0 256 0 0, .txnDrop 0 0 10 0, .enumItemRx 0 0 false 64 0 [],
     .enumRespRx 4 0 0 0 0 0 0 0
  ] : List Instr).all (fun i => !i.wf) = true := by decide +kernel

theorem test_illformed_6 : ([
    .enumRespRx 0 128 0 0 0 0 0 0, .enumRespRx 0 0 0 0 (2 ^ 32) 0 0 0, .enumTimeout 4, .loopReturnTimeout 4, .loopBringup 4,
     .rateItemRx 0 4, .keyItemRx 0 128 0 0 false [], .keyItemRx 0 0 4 0 false [], .keyItemRx 0 0 0 4 false [],
     .keyRespRx 4 0 false [], .keyRespRx 0 128 false [], .tileFullCatchup 4 0, .tileFullCatchup 0 128, .tileUnreachable 4 0,
     .tileUnreachable 0 128, .leaseRx 0 0 false false 0 (2 ^ 32) 0 0 0, .mirrorResyncDone [] (2 ^ 32), .tableData 0 128 0 0 [],
     .tableData 0 0 13 0 [], .tableData 0 0 0 (2 ^ 32) []
  ] : List Instr).all (fun i => !i.wf) = true := by decide +kernel

theorem test_illformed_7 : ([
    .tableEnd 0 128 0 0 0, .tableEnd 0 0 13 0 0, .tableEnd 0 0 0 (2 ^ 64) 0, .tableCommit 0 128 0 0, .tableCommit 0 0 (2 ^ 32) 0,
     .imageItemRx 0 (2 ^ 32) 0 [], .imageItemRx 0 0 13 [], .replyParcelRx 0 128 0 [], .replyParcelRx 0 0 (2 ^ 17) [],
     .replyParcelRx 0 0 0 (List.replicate 31 0), .linkParcelRx 0 0 0 0 0 false 8 none 0 0, .linkParcelRx 0 0 0 0 0 false 0 none 4 0,
     .laneErrorWindow 0 (List.replicate 3 0), .itemReassemblyTimeout 0 (2 ^ 32), .relayReplyTimeout 4 0 0 0,
     .relayReplyTimeout 0 128 0 0, .relayReplyTimeout 0 0 (2 ^ 5) 0, .relayReplyTimeout 0 0 0 (2 ^ 16),
     .mirrorRx (2 ^ 32) 0 0 0 0 0 false [], .mirrorRx 0 4 0 0 0 0 false []
  ] : List Instr).all (fun i => !i.wf) = true := by decide +kernel

theorem test_illformed_8 : ([
    .mirrorRx 0 0 (2 ^ 5) 0 0 0 false [], .mirrorRx 0 0 0 256 0 0 false [], .mirrorRx 0 0 0 0 4 0 false [],
     .mirrorAckRx (2 ^ 32) 0 0 0, .mirrorAckRx 0 (2 ^ 16) 0 0, .mirrorAckRx 0 0 (2 ^ 16) 0, .mirrorAckRx 0 0 0 (2 ^ 32),
     .memcopyRx 0 (List.replicate 28 0), .replyFwdRx 4 0 0 [], .replyFwdRx 0 128 0 [], .replyFwdRx 0 0 (2 ^ 17) [],
     .replyFwdRx 0 0 0 (List.replicate 31 0), .pairKeyRx 4 0 false [], .pairKeyRx 0 4 false [],
     .pairKeyRx 0 0 false (List.replicate 6 0), .ptpSyncRx 0 (2 ^ 16) false 0 0 0, .ptpFollowUpRx 0 (2 ^ 16) 0 0,
     .ptpDelayRespRx 0 (2 ^ 16) 0 0, .portUrgencyRise (.accept 19 false 0 0) [], .portUrgencyRise .access [.accept 19 false 0 0]
  ] : List Instr).all (fun i => !i.wf) = true := by decide +kernel

theorem test_illformed_9 : ([
    .portTargetMiss [.accept 19 false 0 0], .portUrgencyRise (.accept 0 false (2 ^ 45) 0) [],
     .portUrgencyRise .access [.accept 0 false (2 ^ 45) 0], .portTargetMiss [.accept 0 false (2 ^ 45) 0],
     .fabricParityMismatch ⟨.engine 256, [], 0, 0, []⟩ [], .storedWordParity ⟨.engine 256, 0, []⟩ [],
     .fabricParityMismatch ⟨.pool 16, [], 0, 0, []⟩ [], .storedWordParity ⟨.pool 16, 0, []⟩ [],
     .fabricParityMismatch ⟨.basinPort 16, [], 0, 0, []⟩ [], .storedWordParity ⟨.basinPort 16, 0, []⟩ [],
     .fabricParityMismatch ⟨.region 8, [], 0, 0, []⟩ [], .storedWordParity ⟨.region 8, 0, []⟩ [],
     .fabricParityMismatch ⟨.pool 0, [], 0, 0, []⟩ [⟨.pool 0, [], 0, 0, [0, 0, 0, 0, 0]⟩],
     .storedWordParity ⟨.pool 0, 0, [0, 0, 0, 0, 0]⟩ [],
     .fabricParityMismatch ⟨.pool 0, [], 0, 0, []⟩ [⟨.pool 0, [], 0, 0, [2 ^ 65]⟩], .storedWordParity ⟨.pool 0, 0, [2 ^ 65]⟩ [],
     .diagPoolRun 16 [], .diagPoolRun 0 [⟨.engine 256, 0, []⟩]
  ] : List Instr).all (fun i => !i.wf) = true := by decide +kernel

theorem test_too_long_writeReg (l : List Word) (h : 1020 < l.length) : Instr.wf (.writeReg hd 0 l) = false := by
  simp [Instr.wf]; omega

theorem test_too_long_memWrite (l : List Word) (h : 1020 < l.length) : Instr.wf (.memWrite hd 0 l) = false := by
  simp [Instr.wf]; omega

theorem test_too_long_pcieCommandSlot (l : List Word) (h : 1024 < l.length) : Instr.wf (.pcieCommandSlot 0 l) = false := by
  simp [Instr.wf]; omega

theorem test_too_long_ethDatagramRx (l : List Byte) (h : 65507 < l.length) : Instr.wf (.ethDatagramRx 0 0 l) = false := by
  simp [Instr.wf]; omega

theorem test_too_long_imageItemRx (l : List Word) (h : 32768 < l.length) : Instr.wf (.imageItemRx 0 0 0 l) = false := by
  simp [Instr.wf]; omega

/-! ### Hypotheses that are met -/

theorem witness_IdentityCommandsAnswer :
    (∃ (h : Hdr) (s : State), s.takes h .ping [] = true) ∧
    (∃ (h : Hdr) (s : State), s.takes h .getCaps [] = true) ∧
    (∃ (h : Hdr) (s : State), s.takes h .getState [] = true ∧ s.dev.power = .run) ∧
    (∃ (h : Hdr) (s : State), s.takes h .timeGet [] = true) ∧
    (∃ (h : Hdr) (s : State), s.takes h .txnStatus [] = true ∧ s.dev.txns = [] ∧ s.dev.commits = []) :=
  ⟨⟨hd, on snd, by decide +kernel⟩,
   ⟨hd, on til, by decide +kernel⟩,
   ⟨hd, on snd, by decide +kernel⟩,
   ⟨hd, on til, by decide +kernel⟩,
   ⟨hd, on snd, by decide +kernel⟩⟩

theorem witness_TokenStatusAnswers :
    (∃ (h : Hdr) (s : State), s.takes h .tokenStatus [] = true ∧ s.dev.hasToken = true) ∧
    (∃ (h : Hdr) (x : Nat) (s : State), s.takes h .tokenStatus [] = true ∧ s.dev.hasToken = false ∧ s.dev.lastRenewal = some x) ∧
    (∃ (h : Hdr) (s : State), s.takes h .tokenStatus [] = true ∧ s.dev.hasToken = false ∧ s.dev.lastRenewal = none) :=
  ⟨⟨hd, on snd, by decide +kernel⟩,
   ⟨hd, 0, on { (seekingB snd) with now := 7 * 10 ^ 9, twin := { renewed := some 0 } }, by decide +kernel⟩,
   ⟨hd, on (seekingB snd), by decide +kernel⟩⟩

theorem witness_ReadsAnswer :
    (∃ (h : Hdr) (a : Nat) (n : Nat) (ws : List Word) (s : State), s.takes h .readReg [Word.of a, Word.of n] = true ∧ a < 2 ^ 64 ∧ h.txn
    = 0 ∧ 1 ≤ n ∧ n ≤ 1020 ∧ (List.range n).mapM (fun i => s.dev.readReg (a + 8 * i)) = some ws ∧ (∀ u, u < 4 → R.CTRL_CVU_RESULT u < a
    ∨ a + 8 * n ≤ R.CTRL_CVU_RESULT u)) ∧
    (∃ (h : Hdr) (a : Nat) (n : Nat) (s : State), s.takes h .memRead [Word.of a, Word.of n] = true ∧ a < 2 ^ 64 ∧ a % 8 = 0 ∧ 1 ≤ n ∧ n
    ≤ 1020 ∧ s.dev.memRefusal a (8 * n) = none ∧ s.dev.secretRing a (8 * n) = false ∧ s.dev.poisonIn 18 a (8 * n) = none) :=
  ⟨⟨hd, R.KEEP_CAP0, 2, [(on snd).dev.reg R.KEEP_CAP0, (on snd).dev.reg R.KEEP_CAP1], on snd, by decide +kernel⟩,
   ⟨hd, 8, 2, on (withDram snd), by decide +kernel⟩⟩

theorem witness_MemoryCommands :
    (∃ (h : Hdr) (a : Nat) (ws : List Word) (s : State), s.takes h .memWrite (Word.of a :: ws) = true ∧ s.MemInv ∧ a < 2 ^ 64 ∧ a % 8 =
    0 ∧ s.dev.memRefusal a (8 * ws.length) = none ∧ s.dev.isStandby = false ∧ s.dev.memProtected a (8 * ws.length) = false) ∧
    (∃ (h : Hdr) (host : Nat) (a : Nat) (n : Nat) (flags : Word) (data : List Byte) (s : State), s.takes h .dmaIn [Word.of host, Word.of
    a, Word.of n, flags] = true ∧ s.MemInv ∧ h.orig.val < 4 ∧ a < 2 ^ 64 ∧ n < 2 ^ 64 ∧ a % 64 = 0 ∧ n % 64 = 0 ∧ flags = 0 ∧
    data.length = n ∧ s.dev.memRefusal a n = none ∧ s.dev.isStandby = false ∧ s.dev.memProtected a n = false) ∧
    (∃ (h : Hdr) (host : Nat) (a : Nat) (n : Nat) (flags : Word) (s : State), s.takes h .dmaOut [Word.of host, Word.of a, Word.of n,
    flags] = true ∧ h.orig.val < 4 ∧ host < 2 ^ 64 ∧ a < 2 ^ 64 ∧ n < 2 ^ 64 ∧ s.dev.memRefusal a n = none ∧ s.dev.secretRing a n =
    false ∧ s.dev.poisonIn 16 a n = none) :=
  ⟨⟨hd, 8, [1], on (withDram snd), by decide +kernel⟩,
   ⟨hq, 0, 64, 64, 0, List.replicate 64 1, on (withDram snd), by decide +kernel⟩,
   ⟨hq, 0, 3, 5, 0, on (withDram snd), by decide +kernel⟩⟩

theorem witness_WritesTakeEffect :
    (∃ (h : Hdr) (a : Nat) (vs : List Word) (s : State), s.takes h .writeReg (Word.of a :: vs) = true ∧ a + 8 * vs.length < 2 ^ 64 ∧
    h.txn = 0 ∧ s.dev.isStandby = false ∧ (∀ i v, vs[i]? = some v → s.dev.plainTakes (a + 8 * i) (BitVec.allOnes 64) v = true)) ∧
    (∃ (h : Hdr) (a : Nat) (m : Word) (v : Word) (s : State), s.takes h .writeField [Word.of a, m, v] = true ∧ a < 2 ^ 64 ∧ h.txn = 0 ∧
    s.dev.isStandby = false ∧ s.dev.plainTakes a m v = true) ∧
    (∃ (h : Hdr) (a : Nat) (v : Word) (s : State) (s' : State), s.takes h .writeReg [Word.of a, v] = true ∧ a < 2 ^ 64 ∧ h.txn = 0 ∧
    shadowedReg a = false ∧ (s.touched (hostCmd h .writeReg [Word.of a, v])).writeOne a (BitVec.allOnes 64) v = .ok s' ∧
    s'.dev.host.lostReplies = s.dev.host.lostReplies) ∧
    (∃ (h : Hdr) (a : Nat) (m : Word) (v : Word) (s : State) (s' : State), s.takes h .writeField [Word.of a, m, v] = true ∧ a < 2 ^ 64 ∧
    h.txn = 0 ∧ shadowedReg a = false ∧ (s.touched (hostCmd h .writeField [Word.of a, m, v])).writeOne a m v = .ok s' ∧
    s'.dev.host.lostReplies = s.dev.host.lostReplies) :=
  ⟨by refine ⟨hd, R.CTRL_TXN_CFG, [200], on snd, ?_, ?_, ?_, ?_, (by intro i v h; cases i with | zero => cases h; decide +kernel | succ i => cases h)⟩ <;> decide +kernel,
   ⟨hd, R.CTRL_TXN_CFG, 0xFF, 200, on snd, by decide +kernel⟩,
   by refine ⟨hd, R.CTRL_TXN_CFG, 200, on snd, okOf (on snd) (((on snd).touched (hostCmd hd .writeReg [Word.of R.CTRL_TXN_CFG, 200])).writeOne R.CTRL_TXN_CFG (BitVec.allOnes 64) 200), ?_, ?_, ?_, ?_, (rfl), ?_⟩ <;> decide +kernel,
   by refine ⟨hd, R.CTRL_TXN_CFG, 0xFF, 200, on snd, okOf (on snd) (((on snd).touched (hostCmd hd .writeField [Word.of R.CTRL_TXN_CFG, 0xFF, 200])).writeOne R.CTRL_TXN_CFG 0xFF 200), ?_, ?_, ?_, ?_, (rfl), ?_⟩ <;> decide +kernel⟩

theorem witness_ShadowsHoldWrites :
    (∃ (h : Hdr) (a : Nat) (v : Word) (x : Txn) (s : State), s.takes h .writeReg [Word.of a, v] = true ∧ a < 2 ^ 64 ∧ h.txn ≠ 0 ∧
    s.dev.txnOf h.orig = some x ∧ s.dev.shadowTakes x a (BitVec.allOnes 64) v = true) ∧
    (∃ (h : Hdr) (a : Nat) (m : Word) (v : Word) (x : Txn) (s : State), s.takes h .writeField [Word.of a, m, v] = true ∧ a < 2 ^ 64 ∧
    h.txn ≠ 0 ∧ s.dev.txnOf h.orig = some x ∧ s.dev.shadowTakes x a m v = true) ∧
    (∃ (h : Hdr) (a : Nat) (w : Word) (x : Txn) (s : State), s.takes h .readReg [Word.of a, 1] = true ∧ a < 2 ^ 64 ∧ h.txn ≠ 0 ∧
    s.dev.txnOf h.orig = some x ∧ lookupWord a x.shadows = some w) :=
  ⟨⟨hdT, R.COMPOSE_BG, 20, txn5, on (withTxn snd), by decide +kernel⟩,
   ⟨hdT, R.COMPOSE_BG, 0xFF, 20, txn5, on (withTxn snd), by decide +kernel⟩,
   ⟨hdT, R.COMPOSE_BG, 20, { txn5 with shadows := [(R.COMPOSE_BG, 20)] }, on { snd with txns := [{ txn5 with shadows := [(R.COMPOSE_BG, 20)] }] }, by decide +kernel⟩⟩

theorem witness_TransactionCommands :
    (∃ (h : Hdr) (s : State), s.takes h .txnBegin [] = true ∧ h.txn ≠ 0 ∧ s.dev.txnOf h.orig = none ∧ s.dev.commitOf h.orig = none) ∧
    (∃ (h : Hdr) (x : Txn) (s : State), s.takes h .txnRollback [] = true ∧ s.dev.txnOf h.orig = some x ∧ x.id = h.txn ∧ x.tiles = []) ∧
    (∃ (h : Hdr) (x : Txn) (s : State), s.takes h .txnCommit [0] = true ∧ s.dev.txnOf h.orig = some x ∧ x.poisoned = false ∧
    s.dev.tileWrites x = false ∧ (changesFrames x.shadows && s.dev.atTimePending) = false ∧ s.dev.isTwin = false) :=
  ⟨⟨hdT, on snd, by decide +kernel⟩,
   ⟨hdT, txn5, on (withTxn snd), by decide +kernel⟩,
   ⟨hdT, txn5, on (withTxn snd), by decide +kernel⟩⟩

theorem witness_ReservedRegisters :
    (∃ (h : Hdr) (a : Nat) (v : Word) (s : State), s.takes h .writeReg [Word.of a, v] = true ∧ a < 2 ^ 64 ∧ h.txn = 0 ∧ s.dev.isStandby
    = false ∧ s.dev.takesShadows a = true ∧ s.dev.ReservedFrom a (h.orig, 256)) ∧
    (∃ (h : Hdr) (a : Nat) (m : Word) (v : Word) (s : State), s.takes h .writeField [Word.of a, m, v] = true ∧ a < 2 ^ 64 ∧ h.txn = 0 ∧
    s.dev.isStandby = false ∧ s.dev.takesShadows a = true ∧ s.dev.ReservedFrom a (h.orig, 256)) ∧
    (∃ (h : Hdr) (a : Nat) (m : Word) (v : Word) (x : Txn) (s : State), s.takes h .writeField [Word.of a, m, v] = true ∧ a < 2 ^ 64 ∧
    h.txn ≠ 0 ∧ s.dev.isStandby = false ∧ s.dev.takesShadows a = true ∧ s.dev.txnOf h.orig = some x ∧ x.id = h.txn ∧ s.dev.ReservedFrom
    a (h.orig, h.txn)) ∧
    (∃ (h : Hdr) (a : Nat) (v : Word) (x : Txn) (s : State), s.takes h .writeReg [Word.of a, v] = true ∧ a < 2 ^ 64 ∧ h.txn ≠ 0 ∧
    s.dev.isStandby = false ∧ s.dev.takesShadows a = true ∧ s.dev.txnOf h.orig = some x ∧ x.id = h.txn ∧ s.dev.ReservedFrom a (h.orig,
    h.txn)) ∧
    (∃ (h : Hdr) (a : Nat) (w : Word) (s : State), s.takes h .readReg [Word.of a, 1] = true ∧ a < 2 ^ 64 ∧ h.txn = 0 ∧
    s.dev.takesShadows a = true ∧ s.dev.readReg a = some w) ∧
    (∃ (h : Hdr) (x : Txn) (s : State), s.takes h .txnRollback [] = true ∧ s.dev.txns = [x] ∧ x.orig = h.orig ∧ x.id = h.txn ∧ x.tiles =
    [] ∧ s.dev.commits = [] ∧ s.dev.prepared = none) ∧
    (∃ (c : Commit) (s : State), s.dev.boot = .up ∧ s.dev.time.running = true ∧ s.dev.isSender = true ∧ s.dev.isTwin = false ∧
    s.dev.commits = [c] ∧ s.dev.txns = [] ∧ s.dev.prepared = none ∧ c.stage = .queued ∧ c.mode = .saddle ∧ c.left = c.entries ∧ c.tiles
    = [] ∧ c.await = [] ∧ c.missed = 0 ∧ c.mirror = none ∧ c.orig < 10 ∧ c.latches = 0 ∧ (s.dev.host.lostReplies.any fun w =>
    c.cmd.isFor w.1 w.2.1 w.2.2) = false) :=
  ⟨by refine ⟨hd, R.COMPOSE_BG, 1, on { snd with txns := [reserving4] }, ?_, ?_, ?_, ?_, ?_, (Or.inl ⟨reserving4, by decide +kernel⟩)⟩ <;> decide +kernel,
   by refine ⟨hd, R.COMPOSE_BG, 1, 1, on { snd with txns := [reserving4] }, ?_, ?_, ?_, ?_, ?_, (Or.inl ⟨reserving4, by decide +kernel⟩)⟩ <;> decide +kernel,
   by refine ⟨hdT, R.COMPOSE_BG, 1, 1, txn5, on { snd with txns := [txn5, reserving4] }, ?_, ?_, ?_, ?_, ?_, ?_, ?_, (Or.inl ⟨reserving4, by decide +kernel⟩)⟩ <;> decide +kernel,
   by refine ⟨hdT, R.COMPOSE_BG, 1, txn5, on { snd with txns := [txn5, reserving4] }, ?_, ?_, ?_, ?_, ?_, ?_, ?_, (Or.inl ⟨reserving4, by decide +kernel⟩)⟩ <;> decide +kernel,
   ⟨hd, R.COMPOSE_BG, (on snd).dev.reg R.COMPOSE_BG, on { snd with txns := [reserving4] }, by decide +kernel⟩,
   ⟨hdT, { txn5 with shadows := [(R.COMPOSE_BG, 1)] }, on { snd with txns := [{ txn5 with shadows := [(R.COMPOSE_BG, 1)] }] }, by decide +kernel⟩,
   ⟨saddle5, on (withCommit saddle5 snd |> fun d => { d with time := { d.time with running := true } }), by decide +kernel⟩⟩

theorem witness_CheckValueUnits :
    (∃ (u : Fin 4) (w : Nat) (s : State), s.dev.answers = true ∧ 2 ≤ u.val ∧ w ∈ [1, 2, 4, 8] ∧ s.dev.cvu.length = 4 ∧ (s.dev.cvuAt
    u).feeds.length < 16) ∧
    (∃ (u : Fin 4) (v : Word) (s : State), s.dev.answers = true ∧ 2 ≤ u.val ∧ s.dev.cvu.length = 4 ∧ v.toNat < 2 ^ s.dev.get
    (F.CTRL_CVU_CFG_WIDTH u)) ∧
    (∃ (u : Fin 4) (v : Word) (s : State), s.dev.answers = true ∧ 2 ≤ u.val ∧ s.dev.cvu.length = 4 ∧ 8 ≤ Word.field v 0 7 ∧ Word.field v
    0 7 ≤ 64) ∧
    (∃ (u : Fin 4) (w : Nat) (v : Word) (s : State), s.dev.answers = true ∧ u.val < 2 ∧ w ∈ [1, 2, 4, 8] ∧ 8 ≤ Word.field v 0 7 ∧
    Word.field v 0 7 ≤ 64) ∧
    (∃ (h : Hdr) (u : Word) (a : Nat) (len : Nat) (width : Nat) (s : State), s.takes h .cvRun [u, Word.of a, Word.of len, Word.of width]
    = true ∧ a < 2 ^ 64 ∧ 2 ≤ Word.field u 0 2 ∧ s.dev.cvu.length = 4 ∧ width ∈ [1, 2, 4, 8] ∧ a % width = 0 ∧ len % width = 0 ∧ 1 ≤ len
    ∧ len ≤ 2 ^ 32 ∧ s.dev.memRefusal a len = none ∧ s.dev.secretRing a len = false ∧ s.dev.poisonIn 18 a len = none) :=
  ⟨⟨2, 8, on snd, by decide +kernel⟩,
   ⟨3, 5, on snd, by decide +kernel⟩,
   ⟨2, 64, on snd, by decide +kernel⟩,
   ⟨0, 1, 8, on snd, by decide +kernel⟩,
   ⟨hd, 2, 0, 2 ^ 9, 8, on (withDram snd), by decide +kernel⟩⟩

theorem witness_RegisterWrites :
    (∃ (a : Nat) (s : State), s.dev.answers = true ∧ regAt a = none) ∧
    (∃ (v : Word) (s : State), s.dev.answers = true ∧ 100 ≤ Word.field v 0 16 ∧ Word.field v 0 16 ≤ 60000) ∧
    (∃ (v : Word) (s : State), s.dev.answers = true ∧ (Word.field v 0 16 < 100 ∨ 60000 < Word.field v 0 16)) ∧
    (∃ (q : Fin 4) (v : Word) (s : State), s.dev.pcieUp = true ∧ s.dev.host.pcie.length = 4 ∧ (nth s.dev.host.pcie q {}).enable = false
    ∧ ringSizeOk v.toNat = true) ∧
    (∃ (q : Fin 4) (s : State), s.dev.pcieUp = true ∧ s.dev.host.pcie.length = 4 ∧ (nth s.dev.host.pcie q {}).enable = true) :=
  ⟨⟨0, on snd, by decide +kernel⟩,
   ⟨60000, on snd, by decide +kernel⟩,
   ⟨60001, on snd, by decide +kernel⟩,
   ⟨3, 16, on snd, by decide +kernel⟩,
   ⟨0, on (withQueue snd), by decide +kernel⟩⟩

theorem witness_LockedFieldsKeep :
    (∃ (a : Nat) (f : RegFam) (i : Nat) (s : State), s.dev.answers = true ∧ regAt a = some (f, i) ∧ s.dev.unitPresent f.unit i = true ∧
    s.dev.unitActive f.unit i = true ∧ f.has .rwl = true ∧ s.dev.bit F.CTRL_BOOT_STAT_LOCKED = true) ∧
    (∃ (h : Hdr) (a : Nat) (v : Word) (f : RegFam) (i : Nat) (s : State), s.takes h .writeReg [Word.of a, v] = true ∧ a < 2 ^ 64 ∧ h.txn
    = 0 ∧ regAt a = some (f, i) ∧ s.dev.unitPresent f.unit i = true ∧ s.dev.unitActive f.unit i = true ∧ f.has .rwl = true ∧ s.dev.bit
    F.CTRL_BOOT_STAT_LOCKED = true) ∧
    (∃ (h : Hdr) (a : Nat) (m : Word) (v : Word) (f : RegFam) (i : Nat) (s : State), s.takes h .writeField [Word.of a, m, v] = true ∧ a
    < 2 ^ 64 ∧ h.txn = 0 ∧ regAt a = some (f, i) ∧ s.dev.unitPresent f.unit i = true ∧ s.dev.unitActive f.unit i = true ∧ (∃ x ∈
    f.fields, x.ty = .rwl ∧ Word.mask x.lo x.width &&& m ≠ 0) ∧ s.dev.bit F.CTRL_BOOT_STAT_LOCKED = true) ∧
    (∃ (h : Hdr) (a : Nat) (m : Word) (v : Word) (f : RegFam) (i : Nat) (x : Txn) (s : State), s.takes h .writeField [Word.of a, m, v] =
    true ∧ a < 2 ^ 64 ∧ h.txn ≠ 0 ∧ s.dev.txnOf h.orig = some x ∧ regAt a = some (f, i) ∧ s.dev.unitPresent f.unit i = true ∧
    s.dev.unitActive f.unit i = true ∧ f.has .rwl = true) :=
  ⟨⟨R.CTRL_PATH_CFG, famOf R.CTRL_PATH_CFG, 0, on (snd.set F.CTRL_BOOT_STAT_LOCKED 1), by decide +kernel⟩,
   ⟨hd, R.CTRL_PATH_CFG, 0, famOf R.CTRL_PATH_CFG, 0, on (snd.set F.CTRL_BOOT_STAT_LOCKED 1), by decide +kernel⟩,
   ⟨hd, R.CTRL_PATH_CFG, 1, 0, famOf R.CTRL_PATH_CFG, 0, on (snd.set F.CTRL_BOOT_STAT_LOCKED 1), by decide +kernel⟩,
   ⟨hdT, R.CTRL_PATH_CFG, 1, 0, famOf R.CTRL_PATH_CFG, 0, txn5, on (withTxn snd), by decide +kernel⟩⟩

theorem witness_StatusFlagClears :
    (∃ (a : Nat) (f : RegFam) (i : Nat) (s : State), s.dev.answers = true ∧ regAt a = some (f, i) ∧ s.dev.unitPresent f.unit i = true ∧
    s.dev.unitActive f.unit i = true) :=
  ⟨R.CTRL_CMD_STAT, famOf R.CTRL_CMD_STAT, 0, on snd, by decide +kernel⟩

theorem witness_ClockAndGateWrites :
    (∃ (v : Word) (s : State), s.dev.answers = true ∧ s.dev.variant.full = true ∧ s.dev.isSender = true ∧ s.dev.bit
    F.INGEST_AUD_CFG_TRACK = false ∧ 96 ≤ Word.field v 0 9 ∧ Word.field v 0 9 ≤ 400 ∧ Word.field v 16 16 < Word.field v 32 16) ∧
    (∃ (v : Word) (s : State), s.dev.answers = true ∧ s.dev.variant.full = true ∧ s.dev.isSender = true ∧ s.dev.bit
    F.INGEST_AUD_CFG_TRACK = false ∧ (Word.field v 0 9 < 96 ∨ 400 < Word.field v 0 9 ∨ Word.field v 32 16 ≤ Word.field v 16 16)) ∧
    (∃ (s : State), s.dev.answers = true ∧ s.dev.variant.full = true ∧ s.dev.isSender = true ∧ s.dev.bit F.INGEST_AUD_CFG_TRACK = true) ∧
    (∃ (v : Word) (s : State), s.dev.answers = true ∧ s.dev.reg R.KEEP_GATE_RUN &&& ~~~v &&& s.dev.gateInUse = 0) ∧
    (∃ (v : Word) (s : State), s.dev.answers = true ∧ s.dev.reg R.KEEP_GATE_RUN &&& ~~~v &&& s.dev.gateInUse ≠ 0) :=
  ⟨⟨96 + 1 * 2 ^ 32, on snd, by decide +kernel⟩,
   ⟨95, on snd, by decide +kernel⟩,
   ⟨on (snd.set F.INGEST_AUD_CFG_TRACK 1), by decide +kernel⟩,
   ⟨(on snd).dev.reg R.KEEP_GATE_RUN, on snd, by decide +kernel⟩,
   ⟨0, on (snd.setReg R.KEEP_GATE_RUN (BitVec.allOnes 64)), by decide +kernel⟩⟩

theorem witness_KeyFuses :
    (∃ (k : Nat) (s : State), s.dev.answers = true ∧ s.dev.bit F.CTRL_BOOT_STAT_LOCKED = false ∧ k < 4 ∧ s.otp.integrator.length = 4 ∧
    (nth s.otp.integrator k {}).key = [] ∧ s.dev.ikeyOid = xmssOid) ∧
    (∃ (k : Nat) (s : State), s.dev.answers = true ∧ s.dev.bit F.CTRL_BOOT_STAT_LOCKED = false ∧ k < 4 ∧ (nth s.otp.integrator k {}).key
    ≠ []) ∧
    (∃ (k : Nat) (s : State), s.dev.answers = true ∧ s.dev.bit F.CTRL_BOOT_STAT_LOCKED = false ∧ k < 4 ∧ s.otp.integrator.length = 4 ∧
    (nth s.otp.integrator k {}).key ≠ []) ∧
    (∃ (k : Nat) (s : State), s.dev.answers = true ∧ s.dev.bit F.CTRL_BOOT_STAT_LOCKED = false ∧ k < 4 ∧ (nth s.otp.integrator k {}).key
    = []) ∧
    (∃ (s : State), s.dev.answers = true ∧ s.dev.bit F.CTRL_BOOT_STAT_LOCKED = false) ∧
    (∃ (s : State), s.dev.answers = true ∧ s.dev.bit F.CTRL_BOOT_STAT_LOCKED = true) ∧
    (∃ (h : Hdr) (s : State), s.takes h .bootLock [] = true ∧ s.dev.loading = false) :=
  ⟨⟨0, on (snd.setReg (R.KEEP_IKEY_D 0) 0x12000000), by decide +kernel⟩,
   ⟨0, keyed (on snd), by decide +kernel⟩,
   ⟨3, keyed (on snd), by decide +kernel⟩,
   ⟨1, keyed (on snd), by decide +kernel⟩,
   ⟨on snd, by decide +kernel⟩,
   ⟨on (snd.set F.CTRL_BOOT_STAT_LOCKED 1), by decide +kernel⟩,
   ⟨hd, on snd, by decide +kernel⟩⟩

theorem witness_PcieRings :
    (∃ (q : Fin 4) (i : Nat) (s : State), s.dev.pcieUp = true ∧ s.dev.host.pcie.length = 4 ∧ i < (nth s.dev.host.pcie q {}).cqSize) ∧
    (∃ (q : Fin 4) (i : Nat) (s : State), s.dev.pcieUp = true ∧ (nth s.dev.host.pcie q {}).cqSize ≤ i) ∧
    (∃ (q : Fin 4) (ws : List Word) (c : QCmd) (s : State), s.dev.pcieUp = true ∧ s.dev.pathOpen q = true ∧ s.dev.host.pcie.length = 4 ∧
    (nth s.dev.host.pcie q {}).readable = true ∧ slotReceipt q ws = .accept c ∧ s.dev.targetOk c.orig (Target.ofNat c.target) = true ∧
    (s.dev.host.queue.any fun x => x.orig == c.orig && x.seq == c.seq && x.check == c.check) = false ∧ s.dev.duplicate c = none ∧
    (s.dev.host.queue.filter fun x => x.orig == c.orig).length < 64) ∧
    (∃ (q : Fin 4) (ws : List Word) (c : QCmd) (s : State), s.dev.pcieUp = true ∧ s.dev.pathOpen q = true ∧ s.dev.host.pcie.length = 4 ∧
    (nth s.dev.host.pcie q {}).readable = true ∧ slotReceipt q ws = .refuse c .check (ws.take 2) ∧ c.orig = q.val) ∧
    (∃ (q : Fin 4) (i : Nat) (s : State), s.dev.pcieUp = true ∧ s.dev.host.pcie.length = 4 ∧ i < (nth s.dev.host.pcie q {}).rqSize ∧
    (nth s.dev.host.pcie q {}).held = []) ∧
    (∃ (q : Fin 4) (i : Nat) (ws : List Word) (s : State), s.dev.pcieUp = true ∧ s.dev.host.pcie.length = 4 ∧ i < (nth s.dev.host.pcie q
    {}).rqSize ∧ (nth s.dev.host.pcie q {}).held = [ws] ∧ ({ nth s.dev.host.pcie q {} with rqHead := i } : PcieQ).room = true) ∧
    (∃ (i : Nat) (s : State), s.dev.pcieUp = true ∧ i < s.dev.host.events.size ∧ s.dev.host.events.held = []) ∧
    (∃ (i : Nat) (ws : List Word) (s : State), s.dev.pcieUp = true ∧ i < s.dev.host.events.size ∧ s.dev.host.events.held = [ws] ∧ 0 <
    ringFree s.dev.host.events.size s.dev.host.events.tail i) :=
  ⟨⟨0, 15, on (withQueue snd), by decide +kernel⟩,
   ⟨0, 16, on (withQueue snd), by decide +kernel⟩,
   ⟨0, pingWords, pingCmd 0, on (withQueue snd), by decide +kernel⟩,
   ⟨0, pingBad, readCmd 0 (pingBad.take 2) 0, on (withQueue snd), by decide +kernel⟩,
   ⟨0, 15, on (withQueue snd), by decide +kernel⟩,
   ⟨0, 5, [1, 2, 3], on (withHeld snd), by decide +kernel⟩,
   ⟨7, on (snd.onHost fun h => { h with events := { size := 8, enable := true } }), by decide +kernel⟩,
   ⟨7, [1, 2], on (snd.onHost fun h => { h with events := { size := 8, enable := true, tail := 0, head := 1, held := [[1, 2]] } }), by decide +kernel⟩⟩

theorem witness_EthernetAndSpi :
    (∃ (ip : Nat) (port : Nat) (bytes : List Byte) (k : Nat) (c : QCmd) (s : State), s.dev.answers = true ∧ s.dev.bit
    F.CTRL_PATH_CFG_ETH_EN = true ∧ s.dev.clocked guMgmt = true ∧ s.dev.sessionFor ip port = some k ∧ s.dev.host.eth.length = 4 ∧
    streamReceipt 4 181 bytes = .accept c ∧ s.dev.targetOk (4 + k) (Target.ofNat c.target) = true ∧ (s.dev.host.queue.any fun x =>
    x.orig == 4 + k && x.seq == c.seq && x.check == c.check) = false ∧ s.dev.duplicate { c with orig := 4 + k } = none ∧
    (s.dev.host.queue.filter fun x => x.orig == 4 + k).length < 64) ∧
    (∃ (ip : Nat) (port : Nat) (bytes : List Byte) (c : QCmd) (s : State), s.dev.answers = true ∧ s.dev.bit F.CTRL_PATH_CFG_ETH_EN =
    true ∧ s.dev.clocked guMgmt = true ∧ s.dev.sessionFor ip port = none ∧ streamReceipt 4 181 bytes = .accept c ∧ c.orig = 4) ∧
    (∃ (bytes : List Byte) (c : QCmd) (s : State), s.dev.answers = true ∧ s.dev.bit F.CTRL_PATH_CFG_SPI_EN = true ∧ s.dev.clocked guSpi
    = true ∧ streamReceipt 8 1021 bytes = .accept c ∧ c.orig = 8 ∧ s.dev.targetOk 8 (Target.ofNat c.target) = true ∧
    (s.dev.host.queue.any fun x => x.orig == 8 && x.seq == c.seq && x.check == c.check) = false ∧ s.dev.duplicate c = none ∧
    (s.dev.host.queue.filter fun x => x.orig == 8).length < 64) ∧
    (∃ (bytes : List Byte) (c : QCmd) (e : List Word) (s : State), s.dev.answers = true ∧ s.dev.bit F.CTRL_PATH_CFG_SPI_EN = true ∧
    s.dev.clocked guSpi = true ∧ streamReceipt 8 1021 bytes = .refuse c .check e) ∧
    (∃ (s : State), s.dev.spiRuns = true) ∧
    (∃ (n : Nat) (p : List Word) (rest : List (List Word)) (s : State), s.dev.spiRuns = true ∧ s.dev.host.spi = p :: rest ∧ n < 8 *
    p.length) ∧
    (∃ (n : Nat) (p : List Word) (rest : List (List Word)) (s : State), s.dev.spiRuns = true ∧ s.dev.host.spi = p :: rest ∧ 8 * p.length
    ≤ n) :=
  ⟨⟨1, 2, pingWords.flatMap Word.bytes, 0, pingCmd 4, on snd, by decide +kernel⟩,
   ⟨1, 2, pingWords.flatMap Word.bytes, pingCmd 4, on (snd.onHost fun h => { h with eth := List.replicate 4 (some ⟨9, 9, 0⟩) }), by decide +kernel⟩,
   ⟨pingWords.flatMap Word.bytes, pingCmd 8, on snd, by decide +kernel⟩,
   ⟨pingBad.flatMap Word.bytes, readCmd 8 (pingBad.take 2) 0, pingBad.take 2, on snd, by decide +kernel⟩,
   ⟨on snd, by decide +kernel⟩,
   ⟨23, pingWords, [], on (snd.onHost fun h => { h with spi := [pingWords] }), by decide +kernel⟩,
   ⟨24, pingWords, [], on (snd.onHost fun h => { h with spi := [pingWords] }), by decide +kernel⟩⟩

theorem witness_PathsAndEvents :
    (∃ (h : Hdr) (m : Word) (s : State), s.takes h .eventSubscribe [m] = true ∧ s.dev.host.masks.length = 10) ∧
    (∃ (q : Fin 4) (s : State), s.dev.pcieUp = true ∧ s.dev.host.pcie.length = 4 ∧ s.dev.noCommitWaits q) ∧
    (∃ (q : Fin 4) (c : QCmd) (x : Txn) (s : State), s.dev.pcieUp = true ∧ s.dev.host.pcie.length = 4 ∧ s.dev.host.queue = [c] ∧ c.orig
    = q.val ∧ c.opcode = Op.txnCommit.code ∧ s.dev.txnOf q = some x ∧ x.id = c.txn) ∧
    (∃ (s : State), s.dev.pcieUp = true ∧ (∀ o, o < 4 → s.dev.noCommitWaits o)) ∧
    (∃ (k : Fin 4) (x : Session) (s : State), nth s.dev.host.eth k none = some x ∧ s.dev.host.masks.length = 10 ∧ s.dev.noCommitWaits (4
    + k.val)) ∧
    (∃ (o : Fin 10) (s : State), s.dev.boot = .up ∧ s.dev.host.lost.length = 10 ∧ nth s.dev.host.lost (lostIdx o) 0 ≠ 0 ∧
    s.dev.eventRoom o = true) ∧
    (∃ (o : Fin 10) (s : State), s.dev.boot = .up ∧ (s.dev.eventRoom o = false ∨ nth s.dev.host.lost (lostIdx o) 0 = 0)) :=
  ⟨⟨hd, 3, on snd, by decide +kernel⟩,
   ⟨0, on (withQueue snd), by decide +kernel⟩,
   ⟨0, { pingCmd 0 with opcode := Op.txnCommit.code, txn := 5 }, { txn5 with orig := 0 }, on (((withQueue snd).onHost fun h => { h with queue := [{ pingCmd 0 with opcode := Op.txnCommit.code, txn := 5 }] }) |> fun d => { d with txns := [{ txn5 with orig := 0 }] }), by decide +kernel⟩,
   ⟨on (withQueue snd), by decide +kernel⟩,
   ⟨3, ⟨9, 9, 0⟩, on (snd.onHost fun h => { h with eth := List.replicate 4 (some ⟨9, 9, 0⟩) }), by decide +kernel⟩,
   ⟨8, on (snd.onHost fun h => { h with lost := List.replicate 10 7 }), by decide +kernel⟩,
   ⟨8, on (snd.onHost fun h => { h with spi := List.replicate 64 [] }), by decide +kernel⟩⟩

theorem witness_CommitsAndTimeouts :
    (∃ (o : Fin 10) (c : Commit) (s : State), s.dev.commits = [c] ∧ c.orig = o.val ∧ c.stage = .validating ∧ c.mirror = none ∧ c.mode =
    .saddle ∧ s.dev.judged c = none) ∧
    (∃ (o : Fin 10) (c : Commit) (s : State), s.dev.commits = [c] ∧ c.orig = o.val ∧ c.stage = .validating ∧ c.mirror = none ∧ c.mode =
    .atTime ∧ c.tiles ≠ [] ∧ s.dev.judged c = none) ∧
    (∃ (o : Fin 10) (c : Commit) (s : State), s.dev.commits = [c] ∧ c.orig = o.val ∧ c.stage = .validating ∧ c.mirror = none ∧ c.mode =
    .now ∧ s.dev.judged c = none ∧ (s.dev.host.lostReplies.any fun w => c.cmd.isFor w.1 w.2.1 w.2.2) = false) ∧
    (∃ (o : Fin 10) (c : Commit) (f : Fail) (s : State), s.dev.commits = [c] ∧ c.orig = o.val ∧ c.stage = .validating ∧ s.dev.judged c =
    some f ∧ (s.dev.host.lostReplies.any fun w => c.cmd.isFor w.1 w.2.1 w.2.2) = false) ∧
    (∃ (o : Fin 10) (x : Txn) (s : State), s.dev.txnOf o = some x) :=
  ⟨⟨8, commit5, on (withCommit commit5 snd), by decide +kernel⟩,
   ⟨8, { commit5 with mode := .atTime, tiles := [(0, 0)] }, on (withCommit { commit5 with mode := .atTime, tiles := [(0, 0)] } snd), by decide +kernel⟩,
   ⟨8, { commit5 with mode := .now }, on (withCommit { commit5 with mode := .now } snd), by decide +kernel⟩,
   ⟨8, { commit5 with entries := [(R.COMPOSE_SADDLE, 0)] }, ((on (withCommit { commit5 with entries := [(R.COMPOSE_SADDLE, 0)] } snd)).dev.validateAt 0 [(R.COMPOSE_SADDLE, 0)]).getD ⟨.range, 0, 0, 0, 0, 0, 0⟩, on (withCommit { commit5 with entries := [(R.COMPOSE_SADDLE, 0)] } snd), by decide +kernel⟩,
   ⟨8, txn5, on (withTxn snd), by decide +kernel⟩⟩

theorem witness_SaddleLatchApplies :
    (∃ (c : Commit) (s : State), s.dev.boot = .up ∧ s.dev.time.running = true ∧ s.dev.isSender = true ∧ s.dev.isTwin = false ∧
    s.dev.commits = [c] ∧ c.stage = .queued ∧ c.mode = .saddle ∧ c.left = c.entries ∧ c.tiles = [] ∧ c.await = [] ∧ c.missed = 0 ∧
    c.mirror = none ∧ c.orig < 10 ∧ c.latches = 0 ∧ (s.dev.host.lostReplies.any fun w => c.cmd.isFor w.1 w.2.1 w.2.2) = false) ∧
    (∃ (c : Commit) (w : Word) (s : State), s.dev.boot = .up ∧ s.dev.time.running = true ∧ s.dev.isTile = true ∧ s.dev.commits = [c] ∧
    c.stage = .queued ∧ c.mode = .saddle ∧ c.entries = [(R.LAMP_DRV_CFG, w)] ∧ c.left = c.entries ∧ c.tiles = [] ∧ c.await = [] ∧
    c.missed = 0 ∧ c.orig < 10 ∧ c.latches = 0 ∧ s.dev.prepared = none ∧ s.dev.img.policyWrites = []) :=
  ⟨⟨queued5, on (withCommit queued5 (timed snd)), by decide +kernel⟩,
   ⟨{ queued5 with entries := [(R.LAMP_DRV_CFG, 3)], left := [(R.LAMP_DRV_CFG, 3)] }, 3, on (withCommit { queued5 with entries := [(R.LAMP_DRV_CFG, 3)], left := [(R.LAMP_DRV_CFG, 3)] } (timed til)), by decide +kernel⟩⟩

theorem witness_TilesPrepareApplyDrop :
    (∃ (e : Fin 2) (txn : Nat) (n : Nat) (x : Txn) (s : State), s.dev.isTile = true ∧ s.dev.boot = .up ∧ s.dev.endAccepted e = true ∧
    s.dev.txnOf 9 = some x ∧ x.id = txn ∧ s.dev.validateAt (n - lowGroup true x.shadows) x.shadows = none) ∧
    (∃ (e : Fin 2) (txn : Nat) (n : Nat) (x : Txn) (f : Fail) (s : State), s.dev.isTile = true ∧ s.dev.boot = .up ∧ s.dev.endAccepted e
    = true ∧ s.dev.txnOf 9 = some x ∧ x.id = txn ∧ s.dev.validateAt (n - lowGroup true x.shadows) x.shadows = some f) ∧
    (∃ (e : Fin 2) (txn : Nat) (n : Nat) (p : Prepared) (s : State), s.dev.isTile = true ∧ s.dev.boot = .up ∧ s.dev.endAccepted e = true
    ∧ s.dev.prepared = some p ∧ p.txn = txn ∧ p.frame = n) ∧
    (∃ (e : Fin 2) (txn : Nat) (n : Nat) (p : Prepared) (s : State), s.dev.isTile = true ∧ s.dev.boot = .up ∧ s.dev.endAccepted e = true
    ∧ s.dev.prepared = some p ∧ p.txn = txn ∧ p.frame = n) ∧
    (∃ (e : Fin 2) (s : State), s.dev.isTile = true ∧ s.dev.boot = .up ∧ s.dev.endAccepted e = false) :=
  ⟨⟨0, 5, 7, txn9, on { til with txns := [txn9] }, by decide +kernel⟩,
   ⟨0, 5, 7, { txn9 with shadows := [(R.COMPOSE_SADDLE, 0)] }, (({ til with txns := [{ txn9 with shadows := [(R.COMPOSE_SADDLE, 0)] }] } : Dev).validateAt 7 [(R.COMPOSE_SADDLE, 0)]).getD ⟨.ok, 0, 0, 0, 0, 0, 0⟩, on { til with txns := [{ txn9 with shadows := [(R.COMPOSE_SADDLE, 0)] }] }, by decide +kernel⟩,
   ⟨0, 5, 7, prep5, on { til with prepared := some prep5 }, by decide +kernel⟩,
   ⟨0, 5, 7, prep5, on { til with prepared := some prep5 }, by decide +kernel⟩,
   ⟨0, on (leaseBelow til), by decide +kernel⟩⟩

theorem witness_BootSequence :
    (∃ (s : State), s.dev.boot = .hko ∧ s.dev.bootEnv.refQual = false) ∧
    (∃ (s : State), s.dev.boot = .hko) ∧
    (∃ (n : Nat) (s : State), s.dev.boot = .refclk ∧ 16056 ≤ n ∧ n ≤ 16712 ∧ s.dev.clk.lastGood = none) ∧
    (∃ (n : Nat) (p : Nat) (s : State), s.dev.boot = .refclk ∧ 16056 ≤ n ∧ n ≤ 16712 ∧ s.dev.clk.lastGood = some p ∧ p ≤ n + 16 ∧ n ≤ p
    + 16 ∧ s.dev.bootEnv.rpllLock = false) ∧
    (∃ (n : Nat) (s : State), s.dev.boot = .refclk ∧ (n < 16056 ∨ 16712 < n)) ∧
    (∃ (s : State), s.dev.boot = .refclk) ∧
    (∃ (s : State), s.dev.boot = .rpll ∧ s.dev.refQualified = true ∧ s.straps.flashMode = 3 ∧ s.dev.img.running = []) ∧
    (∃ (s : State), s.dev.boot ≠ .rpll ∧ s.dev.refQualified = true ∧ s.dev.bit F.KEEP_CLK_STAT_RPLL_LOCK = false) ∧
    (∃ (s : State), s.dev.refQualified = false) :=
  ⟨⟨on (slowDev { boot := .hko }), by decide +kernel⟩,
   ⟨on { boot := .hko }, by decide +kernel⟩,
   ⟨16056, on { boot := .refclk }, by decide +kernel⟩,
   ⟨16060, 16076, on (slowDev ({ boot := .refclk } : Dev) |>.onClk fun c => { c with lastGood := some 16076 }), by decide +kernel⟩,
   ⟨16713, on { boot := .refclk }, by decide +kernel⟩,
   ⟨on { boot := .refclk }, by decide +kernel⟩,
   ⟨{ on (({ boot := .rpll } : Dev).set F.KEEP_CLK_STAT_REF_QUAL 1) with straps := ⟨0, false, 0, 3⟩ }, by decide +kernel⟩,
   ⟨on ((locked snd).set F.KEEP_CLK_STAT_RPLL_LOCK 0), by decide +kernel⟩,
   ⟨on {}, by decide +kernel⟩⟩

theorem witness_ClockFaults :
    (∃ (s : State), s.dev.clockWatched = true) ∧
    (∃ (s : State), s.dev.clockWatched = true) ∧
    (∃ (n : Nat) (s : State), s.dev.clockWatched = true ∧ (n < 40 ∨ 56 < n ∧ n < 88 ∨ 104 < n ∧ n < 136)) ∧
    (∃ (n : Nat) (s : State), s.dev.clockWatched = true ∧ 152 < n) ∧
    (∃ (n : Nat) (s : State), s.dev.clockWatched = true ∧ s.dev.clk.rateInit.1 < 15 ∧ (88 ≤ n ∧ n ≤ 104 ∨ 136 ≤ n ∧ n ≤ 152)) ∧
    (∃ (s : State), s.dev.clockWatched = true ∧ s.dev.clk.rateInit.1 < 15) ∧
    (∃ (s : State), s.dev.clockWatched = true ∧ s.dev.clk.rateInit.1 < 15) ∧
    (∃ (s : State), s.dev.clockWatched = true ∧ s.dev.clk.rateInit.1 = 15) ∧
    (∃ (n : Nat) (s : State), s.dev.clockWatched = true ∧ 16 ≤ s.dev.clk.rateInit.1 ∧ (s.dev.clk.rateRef + 13 * 32768 ≤ n * 32768 ∨ n *
    32768 + 13 * 32768 ≤ s.dev.clk.rateRef)) ∧
    (∃ (n : Nat) (s : State), s.dev.clockWatched = true ∧ 16 ≤ s.dev.clk.rateInit.1 ∧ n * 32768 < s.dev.clk.rateRef + 13 * 32768 ∧
    s.dev.clk.rateRef < n * 32768 + 13 * 32768) ∧
    (∃ (n : Nat) (s : State), s.dev.bit F.KEEP_CLK_STAT_HOLDOVER = true ∧ s.dev.bit F.KEEP_CLK_STAT_SLEWING = false ∧ s.dev.clk.lastGood
    = none ∧ s.dev.clk.expected ≤ n + 8 ∧ n ≤ s.dev.clk.expected + 8) ∧
    (∃ (n : Nat) (p : Nat) (s : State), s.dev.bit F.KEEP_CLK_STAT_HOLDOVER = true ∧ s.dev.bit F.KEEP_CLK_STAT_SLEWING = false ∧
    s.dev.clk.lastGood = some p ∧ s.dev.clk.expected ≤ n + 8 ∧ n ≤ s.dev.clk.expected + 8 ∧ p ≤ n + 4 ∧ n ≤ p + 4) ∧
    (∃ (n : Nat) (s : State), s.dev.bit F.KEEP_CLK_STAT_HOLDOVER = true ∧ s.dev.bit F.KEEP_CLK_STAT_SLEWING = false ∧ (n + 8 <
    s.dev.clk.expected ∨ s.dev.clk.expected + 8 < n)) ∧
    (∃ (s : State), s.dev.bit F.KEEP_CLK_STAT_HOLDOVER = true ∧ s.dev.bit F.KEEP_CLK_STAT_SLEWING = true) ∧
    (∃ (s : State), s.dev.bit F.KEEP_CLK_STAT_HOLDOVER = true) ∧
    (∃ (s : State), s.dev.keepRuns = true ∧ s.dev.power ≠ .deep) ∧
    (∃ (s : State), s.dev.refQualified = true ∧ s.dev.safeNow = false) :=
  ⟨⟨on (locked snd), by decide +kernel⟩,
   ⟨on (locked snd), by decide +kernel⟩,
   ⟨39, on (locked snd), by decide +kernel⟩,
   ⟨153, on (locked snd), by decide +kernel⟩,
   ⟨96, on (locked snd), by decide +kernel⟩,
   ⟨on (locked snd), by decide +kernel⟩,
   ⟨on ((locked snd).onClk fun c => { c with rateInit := (14, 14 * 24576) }), by decide +kernel⟩,
   ⟨on ((locked snd).onClk fun c => { c with rateInit := (15, 15 * 24576) }), by decide +kernel⟩,
   ⟨24589, on ((locked snd).onClk fun c => { c with rateInit := (16, 16 * 24576), rateRef := 24576 * 32768 }), by decide +kernel⟩,
   ⟨24588, on ((locked snd).onClk fun c => { c with rateInit := (16, 16 * 24576), rateRef := 24576 * 32768 }), by decide +kernel⟩,
   ⟨16392, on (expecting (held snd)), by decide +kernel⟩,
   ⟨16392, 16388, on ((expecting (held snd)).onClk fun c => { c with lastGood := some 16388 }), by decide +kernel⟩,
   ⟨16393, on (expecting (held snd)), by decide +kernel⟩,
   ⟨on ((held snd).set F.KEEP_CLK_STAT_SLEWING 1), by decide +kernel⟩,
   ⟨on (held snd), by decide +kernel⟩,
   ⟨on snd, by decide +kernel⟩,
   ⟨on (locked snd), by decide +kernel⟩⟩

theorem witness_Resets :
    (∃ (x : BootInputs) (s : State), s.dev.porst = true ∧ s.dev.supplyLow = false ∧ x.hkoStable = false ∧ x.straps.role < 3) ∧
    (∃ (x : BootInputs) (s : State), s.dev.porst = true ∧ s.dev.supplyLow = false ∧ x.straps.role = 3) ∧
    (∃ (s : State), s.dev.porst = true ∧ s.dev.supplyLow = true) ∧
    (∃ (x : BootInputs) (s : State), s.dev.supplyLow = true ∧ s.dev.porst = false ∧ x.hkoStable = false ∧ s.straps.role < 3) ∧
    (∃ (s : State), s.dev.supplyLow = true ∧ s.dev.porst = true) ∧
    (∃ (h : Hdr) (r : Nat) (s : State), s.takes h .resetRegion [Word.of r] = true ∧ (r = 3 ∨ r = 4 ∨ r = 5) ∧ (r = 3 →
    s.dev.variant.full = true ∧ s.dev.isSender = true) ∧ r ∉ s.dev.safe.inReset) ∧
    (∃ (h : Hdr) (r : Nat) (s : State), s.takes h .resetRegion [Word.of r] = true ∧ r < 2 ^ 64 ∧ r ≠ 3 ∧ r ≠ 4 ∧ r ≠ 5) ∧
    (∃ (h : Hdr) (r : Nat) (s : State), s.takes h .resetRegion [Word.of r] = true ∧ (r = 4 ∨ r = 5) ∧ r ∈ s.dev.safe.inReset) ∧
    (∃ (s : State), s.dev.compose.relatch = none) ∧
    (∃ (h : Hdr) (s : State), s.takes h .resetDevice [] = true ∧ s.dev.bootEnv.hkoStable = false ∧ s.straps.role < 3) ∧
    (∃ (h : Hdr) (ws : List Word) (s : State), s.takes h .resetDevice [] = true ∧ s.straps.role < 3 ∧ replyPackets (hostCmd h
    .resetDevice []) s.dev.responder Status.ok.code 0 false [] = [ws]) :=
  ⟨⟨slow, on {}, by decide +kernel⟩,
   ⟨{ slow with straps := ⟨3, false, 0, 0⟩ }, on {}, by decide +kernel⟩,
   ⟨on { supplyLow := true }, by decide +kernel⟩,
   ⟨slow, on { porst := false, supplyLow := true }, by decide +kernel⟩,
   ⟨on { supplyLow := true }, by decide +kernel⟩,
   ⟨hd, 3, on snd, by decide +kernel⟩,
   ⟨hd, 6, on snd, by decide +kernel⟩,
   ⟨hd, 4, on (snd.onSafe fun x => { x with inReset := [4] }), by decide +kernel⟩,
   ⟨on (snd.onSafe fun x => { x with inReset := [5, 4] }), by decide +kernel⟩,
   ⟨hd, on (slowDev snd), by decide +kernel⟩,
   ⟨hd, (replyPackets (hostCmd hd .resetDevice []) snd.responder Status.ok.code 0 false []).headD [], on snd, by decide +kernel⟩⟩

theorem witness_PowerStates :
    (∃ (h : Hdr) (g : Nat) (s : State), s.takes h .powerState [Word.of g] = true ∧ s.dev.isStandby = false ∧ s.dev.power = .run ∧ (g = 1
    ∨ g = 2)) ∧
    (∃ (h : Hdr) (s : State), s.takes h .powerState [Word.of 0] = true ∧ s.dev.isStandby = false ∧ s.dev.power = .sleep) ∧
    (∃ (h : Hdr) (g : Nat) (s : State), s.takes h .powerState [Word.of g] = true ∧ 2 < g ∧ g < 2 ^ 64) ∧
    (∃ (q : QCmd) (s : State), s.dev.boot = .up ∧ s.dev.power = .toSleep ∧ s.dev.powerGoal = 1 ∧ s.dev.powerCmd = some q ∧
    (s.dev.host.lostReplies.any fun w => q.isFor w.1 w.2.1 w.2.2) = false) ∧
    (∃ (s : State), s.dev.boot = .up ∧ s.dev.power = .toSleep ∧ s.dev.powerGoal = 2) ∧
    (∃ (s : State), s.dev.boot = .up ∧ s.dev.power = .toDeep) ∧
    (∃ (s : State), s.dev.power = .deep) ∧
    (∃ (n : Nat) (s : State), s.dev.power = .deep ∧ (s.dev.get F.KEEP_GATE_DEEP_OVL).testBit n = true) ∧
    (∃ (n : Nat) (s : State), s.dev.power = .deep ∧ (s.dev.get F.KEEP_GATE_DEEP_OVL).testBit n = false) ∧
    (∃ (x : BootInputs) (s : State), s.dev.power = .wakeWait ∧ x.hkoStable = false ∧ s.straps.role < 3) ∧
    (∃ (s : State), s.dev.power = .wakeWait) :=
  ⟨⟨hd, 1, on snd, by decide +kernel⟩,
   ⟨hd, on { snd with power := .sleep }, by decide +kernel⟩,
   ⟨hd, 3, on snd, by decide +kernel⟩,
   ⟨pingCmd 8, on { snd with power := .toSleep, powerGoal := 1, powerCmd := some (pingCmd 8) }, by decide +kernel⟩,
   ⟨on { snd with power := .toSleep, powerGoal := 2 }, by decide +kernel⟩,
   ⟨on { snd with power := .toDeep }, by decide +kernel⟩,
   ⟨on { snd with power := .deep }, by decide +kernel⟩,
   ⟨3, on (({ snd with power := .deep } : Dev).set F.KEEP_GATE_DEEP_OVL 8), by decide +kernel⟩,
   ⟨3, on (({ snd with power := .deep } : Dev).set F.KEEP_GATE_DEEP_OVL 4), by decide +kernel⟩,
   ⟨slow, on { snd with power := .wakeWait }, by decide +kernel⟩,
   ⟨on { snd with power := .wakeWait }, by decide +kernel⟩⟩

theorem witness_SafeStateEntries :
    (∃ (c : Nat) (s : State), s.dev.safe.stopCause = some c ∧ c < 256 ∧ s.dev.safeNow = false) ∧
    (∃ (s : State), s.dev.keepRuns = true ∧ s.dev.power ≠ .deep ∧ s.dev.power ≠ .wakeWait ∧ s.dev.safeNow = false) ∧
    (∃ (s : State), s.dev.keepRuns = true ∧ s.dev.power ≠ .deep ∧ s.dev.power ≠ .wakeWait ∧ s.dev.safeNow = true) ∧
    (∃ (s : State), s.dev.keepRuns = true ∧ s.dev.power ≠ .deep ∧ s.dev.safeNow = false) :=
  ⟨⟨255, on (snd.onSafe fun x => { x with stopCause := some 255 }), by decide +kernel⟩,
   ⟨on snd, by decide +kernel⟩,
   ⟨on (snd.set F.KEEP_SAFE_STAT_SAFE 1), by decide +kernel⟩,
   ⟨on snd, by decide +kernel⟩⟩

theorem witness_ControlFaultsReset :
    (∃ (s : State), s.dev.keepRuns = true ∧ s.dev.safeNow = false ∧ s.dev.bootEnv.hkoStable = false ∧ s.straps.role < 3) ∧
    (∃ (s : State), s.dev.keepRuns = true ∧ s.dev.safeNow = true) ∧
    (∃ (s : State), s.dev.boot = .up ∧ s.dev.power = .run ∧ s.dev.safeNow = false ∧ s.dev.safe.noBeat = 2 ∧ s.dev.bootEnv.hkoStable =
    false ∧ s.straps.role < 3) :=
  ⟨⟨on (slowDev snd), by decide +kernel⟩,
   ⟨on (snd.set F.KEEP_SAFE_STAT_SAFE 1), by decide +kernel⟩,
   ⟨on (slowDev (snd.onSafe fun x => { x with noBeat := 2 })), by decide +kernel⟩⟩

theorem witness_RoundsAndChecks :
    (∃ (s : State), s.dev.keepRuns = true ∧ s.dev.power = .run ∧ s.dev.safeNow = false) ∧
    (∃ (s : State), s.dev.boot = .up) ∧
    (∃ (bad : Nat) (i : Nat) (s : State), s.dev.boot = .up ∧ i < 4 ∧ bad.testBit i = true ∧ s.dev.sensorJudged (8 + i) = true) ∧
    (∃ (bad : Nat) (s : State), (∀ i, i < 4 → bad.testBit i = true → s.dev.sensorJudged (8 + i) = false)) :=
  ⟨⟨on til, by decide +kernel⟩,
   ⟨on snd, by decide +kernel⟩,
   ⟨1, 0, on (til.set F.KEEP_THERM_CFG_EXT_EN 1), by decide +kernel⟩,
   ⟨1, on snd, by decide +kernel⟩⟩

theorem witness_DramCare :
    (∃ (ts : List Int) (s : State), s.dev.mc.channels ≠ 0 ∧ (∃ x ∈ ts, 85 < x) ∧ (∀ x ∈ ts, x ≤ 95)) ∧
    (∃ (ts : List Int) (s : State), s.dev.mc.channels ≠ 0 ∧ (∀ x ∈ ts, x ≤ 85)) ∧
    (∃ (ts : List Int) (i : Nat) (s : State), s.dev.mc.channels ≠ 0 ∧ i < ts.length ∧ 95 < nth ts i 0 ∧ nth s.dev.mc.hotReads i 0 = 2 ∧
    s.dev.safeNow = false ∧ s.dev.safe.stopCause = none) ∧
    (∃ (p : Nat) (a : Nat) (rs : List BurstRead) (s : State), s.dev.memPort p = true ∧ s.dev.readsDram a = true ∧ (rs.length = 0 ∨
    burstPasses a (nth rs 0 []) = false) ∧ (1 < rs.length ∧ burstPasses a (nth rs 1 []) = true ∨ 2 < rs.length ∧ burstPasses a (nth rs 2
    []) = true)) ∧
    (∃ (p : Nat) (a : Nat) (rs : List BurstRead) (s : State), s.dev.memPort p = true ∧ 16 ≤ p ∧ a < 2 ^ 45 ∧ s.dev.readsDram a = true ∧
    s.dev.mc.faults = [] ∧ (∀ i, i < 3 → i < rs.length → burstPasses a (nth rs i []) = false)) ∧
    (∃ (a : Nat) (rs : List BurstRead) (s : State), (s.dev.readsDram a = false ∨ 0 < rs.length ∧ burstPasses a (nth rs 0 []) = true)) :=
  ⟨⟨[90, 95], on (withDram snd), by decide +kernel⟩,
   ⟨[85], on (withDram snd), by decide +kernel⟩,
   ⟨[96], 0, on ((withDram snd).onMc fun m => { m with hotReads := [2] }), by decide +kernel⟩,
   ⟨18, 64, [badBurst, []], on (withDram snd), by decide +kernel⟩,
   ⟨18, 64, [badBurst, badBurst, badBurst], on (withDram snd), by decide +kernel⟩,
   ⟨64, [], on snd, by decide +kernel⟩⟩

theorem witness_DramAccounts :
    (∃ (ls : List (Int × Nat)) (s : State), s.dev.memOpen = true ∧ (∀ l ∈ ls, 16 ≤ l.2) ∧ (∀ i, (nth s.dev.mc.drift i 0).natAbs ≤ 11)) ∧
    (∃ (ls : List (Int × Nat)) (s : State), s.dev.memOpen = true ∧ ((∃ l ∈ ls, l.2 < 16) ∨ (∃ i, i < ls.length ∧ 12 < (nth
    s.dev.mc.drift i 0 + clampInt (-1) 1 (nth ls i (0, 64)).1).natAbs)) ∧ s.dev.bit F.MEM_STAT_DRIFT_ALARM = false) ∧
    (∃ (p : Nat) (a : Nat) (n : Nat) (c : Nat) (s : State), s.dev.memPort p = true ∧ s.dev.memOpen = true ∧ s.dev.rowCount a = some c ∧
    c + n < s.dev.get F.MEM_RH_CFG_THRESH) ∧
    (∃ (p : Nat) (a : Nat) (n : Nat) (c : Nat) (s : State), s.dev.memPort p = true ∧ s.dev.memOpen = true ∧ s.dev.rowCount a = some c ∧
    1 ≤ n ∧ c + n = s.dev.get F.MEM_RH_CFG_THRESH ∧ p < s.dev.mc.charges.length ∧ nth s.dev.mc.charges p 0 + 1 < s.dev.get
    F.MEM_RH_CFG_OFFENDER_LIMIT) ∧
    (∃ (p : Nat) (a : Nat) (n : Nat) (c : Nat) (s : State), s.dev.memPort p = true ∧ s.dev.memOpen = true ∧ s.dev.rowCount a = some c ∧
    1 ≤ n ∧ c + n = s.dev.get F.MEM_RH_CFG_THRESH ∧ p < s.dev.mc.charges.length ∧ p < s.dev.mc.throttled.length ∧ s.dev.get
    F.MEM_RH_CFG_OFFENDER_LIMIT ≤ nth s.dev.mc.charges p 0 + 1 ∧ nth s.dev.mc.throttled p false = false ∧ s.dev.bit
    (F.MEM_PORT_CFG_RH_EXEMPT p) = false) ∧
    (∃ (p : Nat) (a : Nat) (n : Nat) (c : Nat) (s : State), s.dev.memPort p = true ∧ s.dev.memOpen = true ∧ s.dev.rowCount a = some c ∧
    1 ≤ n ∧ c + n = s.dev.get F.MEM_RH_CFG_THRESH ∧ p < s.dev.mc.charges.length ∧ s.dev.get F.MEM_RH_CFG_OFFENDER_LIMIT ≤ nth
    s.dev.mc.charges p 0 + 1 ∧ s.dev.bit (F.MEM_PORT_CFG_RH_EXEMPT p) = true) ∧
    (∃ (s : State), s.dev.memOpen = true ∧ s.dev.isSender = true → s.dev.get F.KEEP_THERM_STAT_STATE < 2) ∧
    (∃ (s : State), s.dev.isSender = true ∧ 2 ≤ s.dev.get F.KEEP_THERM_STAT_STATE) ∧
    (∃ (p : Nat) (s : State), s.dev.memPort p = true ∧ s.dev.memOpen = true ∧ s.dev.mc.queues = List.replicate 19 [] ∧ nth
    s.dev.mc.throttled p false = false) ∧
    (∃ (s : State), s.dev.memOpen = false) :=
  ⟨⟨[(1, 16)], on (withDram snd), by decide +kernel, by decide +kernel, (by intro i; cases i <;> simp [nth, on, withDram, snd, Dev.onMc, Dev.set, Dev.setReg])⟩,
   ⟨[(1, 15)], on (withDram snd), by decide +kernel⟩,
   ⟨18, 64, 1, 2, on (rowed 2), by decide +kernel⟩,
   ⟨18, 64, 1, thresh - 1, on (rowed (thresh - 1)), by decide +kernel⟩,
   ⟨18, 64, 1, thresh - 1, on (charged (rowed (thresh - 1))), by decide +kernel⟩,
   ⟨18, 64, 1, thresh - 1, on ((charged (rowed (thresh - 1))).set (F.MEM_PORT_CFG_RH_EXEMPT 18) 1), by decide +kernel⟩,
   ⟨on (withDram snd), by decide +kernel⟩,
   ⟨on (snd.set F.KEEP_THERM_STAT_STATE 2), by decide +kernel⟩,
   ⟨18, on (withDram snd), by decide +kernel⟩,
   ⟨on snd, by decide +kernel⟩⟩

theorem witness_RailConfiguration :
    (∃ (n : Fin 12) (v : Word) (s : State), s.dev.answers = true ∧ s.dev.isTile = true ∧ s.dev.railState n = rsOff ∧ railWordOk v =
    true) ∧
    (∃ (n : Fin 12) (v : Word) (s : State), s.dev.answers = true ∧ s.dev.isTile = true ∧ s.dev.railState n ≠ rsOff ∧ railWordOk v = true
    ∧ (Word.field v 0 2 ≠ s.dev.railMode n ∨ Word.field v 2 4 ≠ s.dev.get (F.LAMP_RAIL_CFG_SEQ n) ∨ Word.field v 8 6 ≠ s.dev.get
    (F.LAMP_RAIL_CFG_FSW n))) ∧
    (∃ (n : Fin 12) (v : Word) (s : State), s.dev.answers = true ∧ s.dev.isTile = true ∧ s.dev.railState n = rsGood ∧ railWordOk v =
    true ∧ s.dev.lamp.rails.length = 12 ∧ Word.field v 0 2 = s.dev.railMode n ∧ Word.field v 2 4 = s.dev.get (F.LAMP_RAIL_CFG_SEQ n) ∧
    Word.field v 8 6 = s.dev.get (F.LAMP_RAIL_CFG_FSW n) ∧ s.dev.get (F.LAMP_RAIL_CFG_TARGET n) < Word.field v 16 12 ∧ s.dev.get
    (F.LAMP_RAIL_STAT_REF n) = s.dev.get (F.LAMP_RAIL_CFG_TARGET n)) ∧
    (∃ (v : Word) (s : State), s.dev.answers = true ∧ s.dev.isTile = true ∧ Word.field v 0 2 < 2 ∧ (Word.field v 16 12 < 200 ∨ 1200 <
    Word.field v 16 12)) :=
  ⟨⟨11, railW, on til, by decide +kernel⟩,
   ⟨0, Word.setField railW 8 6 11, on (railDev 0 2), by decide +kernel⟩,
   ⟨0, Word.setField railW 16 12 1200, on ((railDev 0 2).set (F.LAMP_RAIL_STAT_REF 0) 400), by decide +kernel⟩,
   ⟨Word.setField railW 16 12 1201, on til, by decide +kernel⟩⟩

theorem witness_RailSequence :
    (∃ (q : Nat) (s : State), s.dev.railsMayRun = true ∧ s.dev.clocked guRails = true ∧ (∀ n ∈ s.dev.usedRails, s.dev.railState n =
    rsOff) ∧ q < 16 ∧ s.dev.railsOfSeq q ≠ [] ∧ (∀ p, p < q → s.dev.railsOfSeq p = [])) ∧
    (∃ (n : Fin 12) (s : State), s.dev.railsMayRun = true ∧ s.dev.railState n = rsStarting) ∧
    (∃ (n : Fin 12) (s : State), s.dev.isTile = true ∧ s.dev.railState n = rsStarting ∧ s.dev.recentCuts n < s.dev.get
    (F.LAMP_RAIL_LIM_RETRY_MAX n)) ∧
    (∃ (n : Fin 12) (s : State), s.dev.isTile = true ∧ (s.dev.railState n = rsStarting ∨ s.dev.railState n = rsGood) ∧ s.dev.recentCuts
    n < s.dev.get (F.LAMP_RAIL_LIM_RETRY_MAX n)) ∧
    (∃ (n : Fin 12) (s : State), s.dev.isTile = true ∧ (s.dev.railState n = rsStarting ∨ s.dev.railState n = rsGood) ∧ s.dev.keepRuns =
    true ∧ s.dev.safeNow = false ∧ s.dev.get (F.LAMP_RAIL_LIM_RETRY_MAX n) ≤ s.dev.recentCuts n) ∧
    (∃ (n : Fin 12) (s : State), s.dev.railsMayRun = true ∧ s.dev.railState n = rsWait) ∧
    (∃ (n : Fin 12) (s : State), s.dev.isTile = true ∧ s.dev.railState n = rsGood) ∧
    (∃ (q : Nat) (s : State), s.dev.isTile = true ∧ s.dev.safe.blank = true ∧ q < 16 ∧ (∃ n ∈ s.dev.railsOfSeq q, s.dev.railState n ≠
    rsOff ∧ s.dev.railState n ≠ rsLatched) ∧ (∀ p, p < 16 → q < p → ∀ n ∈ s.dev.railsOfSeq p, s.dev.railState n = rsOff ∨
    s.dev.railState n = rsLatched)) :=
  ⟨⟨3, on (railDev 0 0), by decide +kernel⟩,
   ⟨0, on (railDev 0 1), by decide +kernel⟩,
   ⟨11, on (railDev 11 1), by decide +kernel⟩,
   ⟨0, on (railDev 0 2), by decide +kernel⟩,
   ⟨0, on ((railDev 0 2).set (F.LAMP_RAIL_LIM_RETRY_MAX 0) 0), by decide +kernel⟩,
   ⟨0, on (railDev 0 3), by decide +kernel⟩,
   ⟨0, on (railDev 0 2), by decide +kernel⟩,
   by refine ⟨3, on ((railDev 0 2).onSafe fun x => { x with blank := true }), ?_, ?_, ?_, (⟨0, by decide +kernel⟩), ?_⟩ <;> decide +kernel⟩

theorem witness_CapAndBlank :
    (∃ (own : Nat) (s : State), s.dev.isSender = true ∧ s.dev.boot = .up ∧ s.dev.hasToken = true ∧ 0 < s.dev.tilesAt 2 ∧ own = max
    (s.dev.get F.CTRL_CAP_CFG_CAP_MIN) (s.dev.cap.own - s.dev.get F.CTRL_CAP_CFG_CAP_STEP)) ∧
    (∃ (s : State), s.dev.isSender = true ∧ s.dev.boot = .up ∧ s.dev.hasToken = true ∧ s.dev.tilesAt 2 = 0 ∧ s.dev.tilesAt 1 = 0 ∧ (∀ x,
    s.dev.cap.warmAt = some x → x + s.dev.get F.CTRL_CAP_CFG_CAP_RECOVER_S * sPs ≤ s.dev.now)) ∧
    (∃ (s : State), s.dev.isSender = true ∧ s.dev.boot = .up ∧ s.dev.hasToken = true) ∧
    (∃ (k : Nat) (p : Nat) (s : State), s.dev.isSender = true ∧ s.dev.boot = .up ∧ (s.dev.positions k).contains p = true) ∧
    (∃ (e : Fin 2) (s : State), s.dev.isTile = true ∧ s.dev.boot = .up ∧ s.dev.endAccepted e = true) :=
  ⟨⟨max (((looped 2 snd).get F.CTRL_CAP_CFG_CAP_MIN)) (0x8000 - (looped 2 snd).get F.CTRL_CAP_CFG_CAP_STEP), on ((looped 2 snd).setAll [(F.CTRL_CAP_STAT_CAP, 0x8000)] |> fun d => { d with cap := { d.cap with own := 0x8000 } }), by decide +kernel⟩,
   ⟨on (snd), by decide +kernel⟩,
   ⟨on snd, by decide +kernel⟩,
   ⟨0, 0, on (looped 2 snd), by decide +kernel⟩,
   ⟨0, on til, by decide +kernel⟩⟩

theorem witness_LampCommands :
    (∃ (h : Hdr) (w : Word) (s : State), s.takes h .locate [w] = true ∧ s.dev.isTile = true ∧ s.dev.power = .run ∧ s.dev.safeNow = false
    ∧ s.dev.railsGood = true ∧ Word.field w 4 4 < 5) ∧
    (∃ (h : Hdr) (w : Word) (s : State), s.takes h .locate [w] = true ∧ s.dev.isSender = true) ∧
    (∃ (s : State), s.dev.answers = true ∧ s.dev.isTile = true) ∧
    (∃ (s : State), s.dev.answers = true ∧ s.dev.isTile = true) ∧
    (∃ (s : State), s.dev.answers = true ∧ s.dev.isTile = true) :=
  ⟨⟨hd, 0x11, on til, by decide +kernel⟩,
   ⟨hd, 0x11, on snd, by decide +kernel⟩,
   ⟨on til, by decide +kernel⟩,
   ⟨on til, by decide +kernel⟩,
   ⟨on til, by decide +kernel⟩⟩

theorem witness_PortsAndLanes :
    (∃ (p : Fin 8) (s : State), s.dev.linkRuns = true ∧ s.dev.portState p ≠ lsDown ∧ s.dev.link.ports.length = 8) ∧
    (∃ (p : Fin 8) (s : State), s.dev.linkRuns = true ∧ s.dev.portState p = lsDown) ∧
    (∃ (p : Fin 8) (s : State), s.dev.linkRuns = true ∧ s.dev.portActive p = true ∧ s.dev.clocked (guOvl + p) = true ∧ s.dev.portState p
    = lsDown ∧ s.dev.link.ports.length = 8) ∧
    (∃ (p : Fin 8) (s : State), s.dev.linkRuns = true ∧ s.dev.clocked (guOvl + p) = true ∧ s.dev.portState p = lsTrain ∧ 2 ≤ (s.dev.port
    p).target ∧ (s.dev.port p).target ≤ 4) ∧
    (∃ (p : Fin 8) (s : State), s.dev.linkRuns = true ∧ s.dev.clocked (guOvl + p) = true ∧ s.dev.portState p = lsTrain ∧ (s.dev.port
    p).target = lsFull ∧ (s.dev.port p).rxRetired = 0 ∧ p.val < s.dev.link.ports.length) ∧
    (∃ (p : Fin 8) (x : Nat) (s : State), s.dev.linkRuns = true ∧ s.dev.clocked (guOvl + p) = true ∧ s.dev.portState p = lsTrain ∧
    ((s.dev.port p).target = lsFull ∧ 1 < popCount 4 x ∨ (s.dev.port p).target ≠ lsFull ∧ x.testBit 0 = true)) ∧
    (∃ (p : Fin 8) (l : Fin 4) (n : Nat) (s : State), s.dev.linkRuns = true ∧ lsCol ≤ s.dev.portState p ∧ (s.dev.port
    p).rxRetired.testBit l = false ∧ p.val < s.dev.link.ports.length ∧ l.val < (s.dev.port p).relocks.length ∧ n = (if s.dev.now ≤ nth
    (s.dev.port p).relockAt l 0 + msPs then nth (s.dev.port p).relocks l 0 else 0) ∧ n < 3) ∧
    (∃ (p : Fin 8) (l : Fin 4) (s : State), s.dev.linkRuns = true ∧ s.dev.portState p = lsFull ∧ (s.dev.port p).rxRetired = 0 ∧ p.val <
    s.dev.link.ports.length ∧ s.dev.now ≤ nth (s.dev.port p).relockAt l 0 + msPs ∧ 3 ≤ nth (s.dev.port p).relocks l 0) ∧
    (∃ (es : List Nat) (s : State), s.dev.linkRuns = true ∧ (∀ l, l < 4 → nth es l 0 ≤ s.dev.get F.LINK_CFG_LANE_ERR_MAX)) ∧
    (∃ (p : Fin 8) (l : Fin 4) (es : List Nat) (s : State), s.dev.linkRuns = true ∧ s.dev.portState p = lsFull ∧ (s.dev.port
    p).rxRetired = 0 ∧ p.val < s.dev.link.ports.length ∧ s.dev.get F.LINK_CFG_LANE_ERR_MAX < nth es l 0 ∧ (∀ k, k < 4 → k ≠ l.val → nth
    es k 0 ≤ s.dev.get F.LINK_CFG_LANE_ERR_MAX)) :=
  ⟨⟨0, on (port0 lsFull snd), by decide +kernel⟩,
   ⟨0, on (linked snd), by decide +kernel⟩,
   ⟨0, on (linked snd), by decide +kernel⟩,
   ⟨0, on ((port0 lsTrain snd).onPort 0 fun p => { p with target := 4 }), by decide +kernel⟩,
   ⟨0, on ((port0 lsTrain snd).onPort 0 fun p => { p with target := 4 }), by decide +kernel⟩,
   ⟨0, 3, on ((port0 lsTrain snd).onPort 0 fun p => { p with target := 4 }), by decide +kernel⟩,
   ⟨0, 2, 0, on (port0 lsFull snd), by decide +kernel⟩,
   ⟨0, 2, on ((port0 lsFull snd).onPort 0 fun p => { p with relocks := [0, 0, 3, 0] }), by decide +kernel⟩,
   ⟨[0, 0, 0, 0], on (port0 lsFull snd), by decide +kernel⟩,
   ⟨0, 1, [0, 2 ^ 40, 0, 0], on (port0 lsFull snd), by decide +kernel⟩⟩

theorem witness_ParcelsAndFrames :
    (∃ (p : Fin 8) (ws : List Word) (s : State), s.dev.linkRuns = true ∧ s.dev.portActive p = true ∧ lsCol ≤ s.dev.portState p ∧
    ws.length = 32 ∧ nth ws 31 0 = ~~~s.dev.wantCheck p ws) ∧
    (∃ (p : Fin 8) (ws : List Word) (s : State), s.dev.linkRuns = true ∧ s.dev.portActive p = true ∧ lsCol ≤ s.dev.portState p ∧
    ws.length = 32 ∧ nth ws 31 0 ≠ s.dev.wantCheck p ws ∧ nth ws 31 0 ≠ ~~~s.dev.wantCheck p ws) ∧
    (∃ (p : Fin 8) (ws : List Word) (s : State), s.dev.linkRuns = true ∧ s.dev.portActive p = true ∧ lsCol ≤ s.dev.portState p ∧
    ws.length = 32 ∧ s.dev.isTile = true ∧ nth ws 31 0 = s.dev.wantCheck p ws ∧ (ParcelHead.ofWord (nth ws 0 0)).ty = ptPixel ∧
    (ParcelHead.ofWord (nth ws 0 0)).resv = 0 ∧ (ParcelHead.ofWord (nth ws 0 0)).enc = false ∧ s.dev.bit F.LINK_TILE_STAT_IDENT = true ∧
    (ParcelHead.ofWord (nth ws 0 0)).frame = s.dev.rxFrame % 2 ^ 24 ∧ s.dev.rxState.ended = false ∧ s.dev.rxState.opened = none ∧
    s.dev.rxState.aborted = [] ∧ s.dev.rxState.tag = none ∧ s.dev.rxState.tagOk = none ∧ (s.dev.rxState.kept.any fun k => k.1 ==
    (ParcelHead.ofWord (nth ws 0 0)).index) = false) ∧
    (∃ (n : Nat) (s : State), s.dev.linkRuns = true ∧ s.dev.isTile = true ∧ s.dev.bit F.LINK_TILE_STAT_IDENT = true ∧ n % 2 ^ 24 =
    s.dev.rxFrame % 2 ^ 24 ∧ s.dev.rxState.ended = false ∧ s.dev.rxState.opened = none ∧ s.dev.rxState.tag = none ∧
    s.dev.rxState.aborted = []) ∧
    (∃ (n : Nat) (s : State), s.dev.linkRuns = true ∧ s.dev.isTile = true ∧ s.dev.bit F.LINK_TILE_STAT_IDENT = true ∧ n % 2 ^ 24 =
    s.dev.rxFrame % 2 ^ 24 ∧ s.dev.rxState.ended = false) ∧
    (∃ (n : Nat) (f : Nat) (g : Word × Word) (gs : List (Word × Word)) (s : State), s.dev.linkRuns = true ∧ s.dev.isTile = true ∧
    s.dev.bit F.LINK_TILE_STAT_IDENT = true ∧ n % 2 ^ 24 = s.dev.rxFrame % 2 ^ 24 ∧ s.dev.rxState.ended = false ∧ s.dev.rxState.tag =
    none ∧ f ≤ s.dev.get F.LINK_TILE_STAT_POSITION ∧ gs[s.dev.get F.LINK_TILE_STAT_POSITION - f]? = some g) ∧
    (∃ (n : Nat) (s : State), s.dev.linkRuns = true ∧ s.dev.isTile = true ∧ s.dev.bit F.LINK_TILE_STAT_IDENT = true ∧ n % 2 ^ 24 ≠
    s.dev.rxFrame % 2 ^ 24) :=
  ⟨by refine ⟨0, parcelFor (port0 lsFull snd) (~~~ ·), on (port0 lsFull snd), ?_, ?_, ?_, ?_, (parcelFor_want _ _)⟩ <;> decide +kernel,
   by refine ⟨0, parcelFor (port0 lsFull snd) (· ^^^ 1), on (port0 lsFull snd), ?_, ?_, ?_, ?_, (by rw [parcelFor_want]; intro h; have := congrArg (fun v => v.getLsbD 0) h; simp [on] at this), (by rw [parcelFor_want]; intro h; have := congrArg (fun v => v.getLsbD 1) h; simp [on] at this)⟩ <;> decide +kernel,
   by refine ⟨0, pixelFor (ident (port0 lsFull til)), on (ident (port0 lsFull til)), ?_, ?_, ?_, ?_, ?_, (pixelFor_want _), ?_⟩ <;> decide +kernel,
   ⟨2, on (ident (port0 lsFull til)), by decide +kernel⟩,
   ⟨2, on (ident (port0 lsFull til)), by decide +kernel⟩,
   ⟨2, 2, (4, 5), [(1, 2), (4, 5)], on (ident (port0 lsFull til)), by decide +kernel⟩,
   ⟨3, on (ident (port0 lsFull til)), by decide +kernel⟩⟩

theorem witness_PortTraffic :
    (∃ (p : Fin 8) (s : State), s.dev.linkRuns = true ∧ s.dev.portActive p = true ∧ s.dev.sources p = true ∧ p.val <
    s.dev.link.ports.length ∧ (s.dev.port p).sent % 1024 = 1023) ∧
    (∃ (p : Fin 8) (w : List Word) (rest : List (List Word)) (s : State), s.dev.linkRuns = true ∧ s.dev.portActive p = true ∧
    s.dev.sources p = true ∧ s.dev.ctrlAllowed = true ∧ lsOne ≤ s.dev.portState p ∧ p.val < s.dev.link.ports.length ∧ (s.dev.port
    p).sent % 32 ≠ 31 ∧ (s.dev.port p).stream = w :: rest) ∧
    (∃ (p : Fin 8) (lock : Nat) (tile : Bool) (pp : Nat) (lid : Option Nat) (ret : Nat) (s : State), s.dev.linkRuns = true ∧
    s.dev.portActive p = true ∧ lsCol < s.dev.portState p ∧ p.val < s.dev.link.ports.length ∧ s.dev.miswired p pp tile lid = false ∧
    s.dev.partnerLocks p lock = true ∧ ret % 16 = (s.dev.port p).txRetired) ∧
    (∃ (p : Fin 8) (lock : Nat) (s : State), s.dev.linkRuns = true ∧ s.dev.portActive p = true ∧ lsCol ≤ s.dev.portState p ∧ p.val <
    s.dev.link.ports.length ∧ s.dev.partnerLocks p lock = false) :=
  ⟨⟨0, on ((port0 lsFull snd).onPort 0 fun p => { p with sent := 1023 }), by decide +kernel⟩,
   ⟨0, [1, 2], [], on ((port0 lsFull snd).onPort 0 fun p => { p with stream := [[1, 2]] }), by decide +kernel⟩,
   ⟨0, 15, true, 0, none, 0, on (port0 lsFull snd), by decide +kernel⟩,
   ⟨0, 3, on (port0 lsFull snd), by decide +kernel⟩⟩

theorem witness_LoopsAtTheSender :
    (∃ (k : Nat) (s : State), s.dev.isSender = true ∧ s.dev.linkRuns = true ∧ s.dev.boot = .up ∧ k < s.dev.loops ∧
    s.dev.link.ports.length = 8 ∧ s.dev.link.loops.length = 4 ∧ s.dev.bit (F.LINK_LOOP_CFG_EN k) = true ∧ s.dev.loopState k = lsDown) ∧
    (∃ (h : Hdr) (k : Nat) (s : State), s.takes h .loopEnum [Word.of k] = true ∧ s.dev.hasToken = true ∧ k < s.dev.loops ∧
    s.dev.link.loops.length = 4 ∧ s.dev.loopState k ≠ lsDown ∧ (s.dev.loopSt k).enum = none) ∧
    (∃ (k : Nat) (p : Nat) (run : EnumRun) (s : State), s.dev.isSender = true ∧ k < s.dev.loops ∧ s.dev.link.loops.length = 4 ∧ p < 0x7F
    ∧ (s.dev.loopSt k).enum = some run ∧ p ∉ run.answers ∧ run.answers.length + 1 < s.dev.layoutCount k) ∧
    (∃ (k : Nat) (run : EnumRun) (q : QCmd) (s : State), s.dev.isSender = true ∧ k < s.dev.loops ∧ s.dev.link.loops.length = 4 ∧
    (s.dev.loopSt k).enum = some run ∧ run.cmd = some q ∧ (s.dev.host.lostReplies.any fun w => q.isFor w.1 w.2.1 w.2.2) = false) ∧
    (∃ (k : Nat) (s : State), s.dev.isSender = true ∧ s.dev.isTwin = false ∧ k < s.dev.loops) ∧
    (∃ (p : Fin 8) (k : Nat) (e : Nat) (s : State), s.dev.linkRuns = true ∧ s.dev.isSender = true ∧ s.dev.portLoop p = some (k, e) ∧
    s.dev.link.loops.length = 4 ∧ (s.dev.loopSt k).cut = true ∧ lsCol ≤ s.dev.portState p ∧ lsCol ≤ s.dev.loopState k ∧
    s.dev.sameNeighbour p = true) ∧
    (∃ (k : Nat) (p : Nat) (x : TileRec) (s : State), s.dev.isSender = true ∧ k < s.dev.loops ∧ s.dev.link.loops.length = 4 ∧
    s.dev.tileRec k p = some x ∧ x.left = false) :=
  ⟨⟨0, on ((linked snd).set (F.LINK_LOOP_CFG_EN 0) 1), by decide +kernel⟩,
   ⟨hd, 0, on (loopDev lsCol snd), by decide +kernel⟩,
   ⟨0, 1, run1, on (laid (enuming snd)), by decide +kernel⟩,
   ⟨0, run1, pingCmd 8, on (laid (enuming snd)), by decide +kernel⟩,
   ⟨0, on (loopDev lsCol snd), by decide +kernel⟩,
   ⟨0, 0, 0, on (((loopDev lsCol (port0 lsCol snd)).onLoop 0 fun l => { l with cut := true }).onPort 0 fun p => { p with known := some (0, 0), peerLoop := some 0 }), by decide +kernel⟩,
   ⟨0, 0, tileAt0 0, on (looped 0 snd), by decide +kernel⟩⟩

theorem witness_TilesAndKeys :
    (∃ (hops : Nat) (fb : Bool) (lid : Nat) (ml : Nat) (s : State), s.dev.isTile = true ∧ s.dev.linkRuns = true ∧ s.dev.boot = .up ∧
    s.dev.endAccepted fb.toNat = true ∧ s.dev.link.tile.enumFrom = [none, none] ∧ lid < 64 ∧ hops < ml ∧ ml ≤ 127) ∧
    (∃ (e : Fin 2) (s : State), s.dev.isTile = true ∧ s.dev.boot = .up ∧ s.dev.endAccepted e = true ∧ s.dev.link.ports.length = 8) ∧
    (∃ (e : Fin 2) (p : Nat) (sel : Nat) (ws : List Word) (key : List Word) (s : State), s.dev.isTile = true ∧ s.dev.boot = .up ∧
    s.dev.endAccepted e = true ∧ s.dev.atPosition p = true ∧ s.dev.link.tile.kp ≠ [] ∧ keyUnwrap s.dev.link.tile.kp ws = some key ∧ sel
    < 4 ∧ s.dev.link.tile.keys.length = 4) ∧
    (∃ (e : Fin 2) (p : Nat) (ws : List Word) (s : State), s.dev.isTile = true ∧ s.dev.boot = .up ∧ s.dev.endAccepted e = true ∧
    s.dev.atPosition p = true ∧ s.dev.senderReportFits ws = true ∧ s.dev.link.tile.secret ≠ []) ∧
    (∃ (e : Fin 2) (p : Nat) (ok : Bool) (ws : List Word) (s : State), s.dev.isTile = true ∧ s.dev.boot = .up ∧ s.dev.endAccepted e =
    true ∧ s.dev.atPosition p = true ∧ (ok && s.dev.senderReportFits ws) = false) ∧
    (∃ (e : Fin 2) (p : Nat) (s : State), s.dev.isTile = true ∧ s.dev.boot = .up ∧ s.dev.endAccepted e = true ∧ s.dev.atPosition p =
    true) ∧
    (∃ (k : Nat) (p : Nat) (peer : List Word) (s : State), s.dev.isSender = true ∧ s.dev.hasToken = true ∧ p < 0x7F ∧ (s.dev.loopSt
    k).keying = some p ∧ s.dev.tileReportFits k p peer = true ∧ s.dev.img.keyReport ≠ [] ∧ k < s.dev.link.loops.length) ∧
    (∃ (k : Nat) (p : Nat) (ok : Bool) (peer : List Word) (s : State), s.dev.isSender = true ∧ s.dev.hasToken = true ∧ p < 0x7F ∧
    (s.dev.loopSt k).keying = some p ∧ (ok && s.dev.tileReportFits k p peer) = false ∧ k < s.dev.link.loops.length) :=
  ⟨⟨4, false, 2, 9, on (linked til), by decide +kernel⟩,
   ⟨0, on (linked til), by decide +kernel⟩,
   ⟨0, 3, 1, wrapped, [5, 6, 7, 8], on ((ident til).onTileLink fun t => { t with kp := [1, 2, 3, 4] }), by decide +kernel⟩,
   ⟨0, 3, keyReport 5 6, on (rooted (ident til)), by decide +kernel⟩,
   ⟨0, 3, true, [7, 8], on (ident til), by decide +kernel⟩,
   ⟨0, 3, on (ident til), by decide +kernel⟩,
   ⟨0, 3, keyReport 5 6, on (((rooted snd).onLoop 0 fun l => { l with keying := some 3, tiles := [{ tileAt0 0 with pos := 3, uidLo := 5, uidHi := 6 }] }).onImg fun i => { i with keyReport := [1] }), by decide +kernel⟩,
   ⟨0, 3, false, [1, 2], on (snd.onLoop 0 fun l => { l with keying := some 3 }), by decide +kernel⟩⟩

theorem witness_RelayedCommands :
    (∃ (h : Hdr) (m : Word) (k : Nat) (p : Nat) (s : State), s.takes h .tablePush [m] = true ∧ s.dev.pushRefusal (Target.ofNat h.target)
    m = none ∧ (Target.ofNat h.target).scope = 1 ∧ (Target.ofNat h.target).loop = k ∧ (Target.ofNat h.target).position = p) ∧
    (∃ (h : Hdr) (s : State), s.takes h .tileStatus [] = true ∧ s.dev.isTile = true) ∧
    (∃ (k : Nat) (p : Nat) (o : Nat) (q : Nat) (r : Relay) (s : State), s.dev.host.relays = [r] ∧ r.loop = k ∧ r.orig = o ∧ r.seq = q ∧
    r.waiting = [(k, p)] ∧ r.own = false ∧ r.bcast = false ∧ o < 10 ∧ (s.dev.host.lostReplies.any fun w => r.cmd.isFor w.1 w.2.1 w.2.2)
    = false) ∧
    (∃ (n : Fin 8) (k : Nat) (e : Nat) (p : Nat) (r : Relay) (pl : List Word) (w : List Word) (s : State), s.dev.portLoop n = some (k,
    e) ∧ s.dev.isSender = true ∧ s.dev.linkRuns = true ∧ s.dev.portActive n = true ∧ s.dev.isStandby = false ∧ s.dev.pingReply k p r pl
    w) ∧
    (∃ (e : Fin 2) (ws : List Word) (c : QCmd) (s : State), s.dev.isTile = true ∧ s.dev.answers = true ∧ s.dev.endAccepted e = true ∧
    (Target.ofNat (Word.field (nth ws 1 0) 0 32)).zerosOk = true ∧ s.dev.addressed (Target.ofNat (Word.field (nth ws 1 0) 0 32)) = true
    ∧ itemReceipt ws = .accept c ∧ (s.dev.host.queue.any fun x => x.orig == c.orig && x.seq == c.seq && x.check == c.check) = false ∧
    s.dev.duplicate c = none ∧ (s.dev.host.queue.filter fun x => x.orig == c.orig).length < 64) ∧
    (∃ (e : Fin 2) (ws : List Word) (s : State), s.dev.isTile = true ∧ s.dev.answers = true ∧ s.dev.endAccepted e = true ∧
    s.dev.addressed (Target.ofNat (Word.field (nth ws 1 0) 0 32)) = false) :=
  ⟨⟨{ hd with target := tileTarget 0 0 3 }, 2, 0, 3, on ((withDb (loopDev lsCol snd)).onLoop 0 fun l => { l with tiles := [{ tileAt0 0 with pos := 3 }] }), by decide +kernel⟩,
   ⟨hd, on til, by decide +kernel⟩,
   ⟨0, 3, 8, 7, relay1, on (relaying snd), by decide +kernel⟩,
   ⟨0, 0, 0, 3, relay1, replyBody, tileWords, on (relaying (linked snd)), by decide +kernel⟩,
   ⟨0, commandPacket 0x01 7 0 0 (tileTarget 0 0 3) false true [], hostCmd ⟨9, 7, 0, 0, tileTarget 0 0 3, false, ((nth (commandPacket 0x01 7 0 0 (tileTarget 0 0 3) false true []) 2 0).toNat)⟩ .ping [], on (ident til), by decide +kernel⟩,
   ⟨0, [0, 0, 0], on (ident til), by decide +kernel⟩⟩

theorem witness_LeaseKept :
    (∃ (s : State), s.dev.hasToken = true ∧ s.dev.twin.asked = false ∧ s.dev.boot = .up ∧ s.dev.linkRuns = true ∧ s.dev.safeNow = false
    ∧ s.dev.link.ports.length = 8 ∧ s.dev.link.loops.length = 4) ∧
    (∃ (s : State), s.dev.hasToken = false ∧ s.dev.leaseFresh = false) ∧
    (∃ (p : Fin 8) (term : Nat) (s : State), s.dev.isTile = true ∧ s.dev.boot = .up ∧ s.dev.linkRuns = true ∧ p.val < 2 ∧ term < 2 ^ 32
    ∧ s.dev.link.tile.leases.length = 2 ∧ s.dev.leaseOf (1 - s.dev.tileEnd p) = none) ∧
    (∃ (p : Fin 8) (lo : Word) (hi : Word) (s : State), s.dev.isTwin = true ∧ s.dev.boot = .up ∧ s.dev.linkRuns = true ∧
    s.dev.portActive p = true ∧ (lo, hi) ≠ s.dev.uid ∧ s.dev.pairState = psSeeking) ∧
    (∃ (p : Fin 8) (term : Nat) (lo : Word) (hi : Word) (s : State), s.dev.isTwin = true ∧ s.dev.boot = .up ∧ s.dev.linkRuns = true ∧
    s.dev.portActive p = true ∧ (lo, hi) ≠ s.dev.uid ∧ s.dev.pairState = psStandby ∧ (lo, hi) = (s.dev.twin.partnerLo,
    s.dev.twin.partnerHi) ∧ s.dev.get F.CTRL_PAIR_TERM_TERM ≤ term % 2 ^ 32) ∧
    (∃ (p : Fin 8) (term : Nat) (lo : Word) (hi : Word) (s : State), s.dev.isTwin = true ∧ s.dev.boot = .up ∧ s.dev.linkRuns = true ∧
    s.dev.portActive p = true ∧ (lo, hi) ≠ s.dev.uid ∧ s.dev.pairState = psHolder ∧ s.dev.get F.CTRL_PAIR_TERM_TERM < term % 2 ^ 32) ∧
    (∃ (p : Fin 8) (term : Nat) (s : State), s.dev.isTwin = true ∧ s.dev.boot = .up ∧ s.dev.linkRuns = true ∧ s.dev.portActive p = true
    ∧ s.dev.pairState = psHolder ∧ term % 2 ^ 32 < s.dev.get F.CTRL_PAIR_TERM_TERM) ∧
    (∃ (s : State), s.dev.isTwin = true ∧ s.dev.boot = .up ∧ s.dev.pairState = psStandby) ∧
    (∃ (s : State), s.dev.pairState ≠ psStandby) :=
  ⟨⟨on (linked snd), by decide +kernel⟩,
   ⟨on (twinDev psStandby snd), by decide +kernel⟩,
   ⟨0, 5, on (linked til), by decide +kernel⟩,
   ⟨7, 8, 9, on (twinDev psSeeking snd), by decide +kernel⟩,
   ⟨7, 5, 8, 9, on (twinDev psStandby snd), by decide +kernel⟩,
   ⟨7, 5, 8, 9, on (twinDev psHolder snd), by decide +kernel⟩,
   ⟨7, 0, on ((twinDev psHolder snd).set F.CTRL_PAIR_TERM_TERM 4), by decide +kernel⟩,
   ⟨on (twinDev psStandby snd), by decide +kernel⟩,
   ⟨on snd, by decide +kernel⟩⟩

theorem witness_TokenPasses :
    (∃ (s : State), s.dev.mayTake = true ∧ s.dev.pairState = psStandby ∧ s.dev.twin.held = []) ∧
    (∃ (s : State), s.dev.pairState ≠ psStandby) ∧
    (∃ (s : State), s.dev.mayTake = true ∧ s.dev.pairState = psSeeking ∧ s.dev.twin.held = []) ∧
    (∃ (h : Hdr) (s : State), s.takes h .tokenYield [] = true ∧ s.dev.isTwin = true ∧ s.dev.pairState = psHolder ∧ s.dev.pairUp = true ∧
    s.dev.bit F.CTRL_PAIR_STAT_IN_SYNC = true ∧ s.dev.tileCommitPending = false ∧ s.dev.twin.yieldAt = none) ∧
    (∃ (h : Hdr) (s : State), s.takes h .tokenYield [] = true ∧ s.dev.isTwin = false) ∧
    (∃ (s : State), s.dev.isTwin = true ∧ s.dev.pairState = psHolder ∧ s.dev.pairUp = true ∧ s.dev.twin.yieldAt = none) ∧
    (∃ (q : QCmd) (n : Nat) (s : State), s.dev.isTwin = true ∧ s.dev.pairState = psHolder ∧ s.dev.twin.yieldAt = some n ∧
    s.dev.twin.yieldCmd = some q ∧ (s.dev.host.lostReplies.any fun w => q.isFor w.1 w.2.1 w.2.2) = false) ∧
    (∃ (n : Nat) (s : State), s.dev.mayTake = true ∧ s.dev.pairState = psStandby ∧ s.dev.twin.yieldAt = some n ∧ s.dev.twin.held = []) ∧
    (∃ (k : Nat) (p : Nat) (r : Relay) (s : State), s.dev.twin.formerUntil.isSome = true ∧ s.dev.host.relays = [r] ∧ r.loop = k ∧
    r.waiting = [(k, p)] ∧ r.own = false ∧ r.bcast = false ∧ r.orig < 10 ∧ (s.dev.host.lostReplies.any fun w => r.cmd.isFor w.1 w.2.1
    w.2.2) = false) ∧
    (∃ (s : State), s.dev.twin.formerUntil = none) :=
  ⟨⟨on ((twinDev psStandby snd).set F.KEEP_SVC_STAT_SERVICE 2), by decide +kernel⟩,
   ⟨on snd, by decide +kernel⟩,
   ⟨on ((twinDev psSeeking snd).set F.KEEP_SVC_STAT_SERVICE 1), by decide +kernel⟩,
   ⟨hd, on (paired (twinDev psHolder snd)), by decide +kernel⟩,
   ⟨hd, on snd, by decide +kernel⟩,
   ⟨on (paired (twinDev psHolder snd)), by decide +kernel⟩,
   ⟨pingCmd 8, 9, on ((twinDev psHolder snd).onTwin fun t => { t with yieldAt := some 9, yieldCmd := some (pingCmd 8) }), by decide +kernel⟩,
   ⟨9, on (((twinDev psStandby snd).set F.KEEP_SVC_STAT_SERVICE 1).onTwin fun t => { t with yieldAt := some 9 }), by decide +kernel⟩,
   ⟨0, 3, relay1, on ((relaying (twinDev psStandby snd)).onTwin fun t => { t with formerUntil := some 9 }), by decide +kernel⟩,
   ⟨on snd, by decide +kernel⟩⟩

theorem witness_MirrorsFollow :
    (∃ (md : Nat) (n : Nat) (es : List (Nat × Word)) (s : State), s.dev.pairUp = true ∧ s.dev.pairState = psStandby ∧ s.dev.validateAt
    (if md < 2 then n - 2 else n - lowGroup s.dev.isTile es) es = none) ∧
    (∃ (md : Nat) (n : Nat) (es : List (Nat × Word)) (f : Fail) (s : State), s.dev.pairUp = true ∧ s.dev.pairState = psStandby ∧
    s.dev.validateAt (if md < 2 then n - 2 else n - lowGroup s.dev.isTile es) es = some f) ∧
    (∃ (o : Nat) (x : Nat) (n : Nat) (c : Commit) (s : State), s.dev.pairUp = true ∧ s.dev.pairState = psStandby ∧ s.dev.commits = [c] ∧
    c.orig = 16 + o ∧ c.txn = x ∧ c.frame = n) ∧
    (∃ (m : Nat) (c : Commit) (s : State), s.dev.isTwin = true ∧ s.dev.pairState = psHolder ∧ s.dev.commits = [c] ∧ c.mirror = some m ∧
    c.stage = .queued) ∧
    (∃ (m : Nat) (st : Nat) (c : Commit) (s : State), s.dev.isTwin = true ∧ s.dev.pairState = psHolder ∧ s.dev.commits = [c] ∧ c.mirror
    = some m ∧ st ≠ 0) ∧
    (∃ (a : Nat) (ws : List Word) (s : State), s.dev.isStandby = true ∧ s.dev.pairUp = true ∧ s.MemInv ∧ s.dev.memRefusal a (8 *
    ws.length) = none) ∧
    (∃ (s : State), s.dev.isStandby = false) ∧
    (∃ (s : State), s.dev.pairUp = true ∧ s.dev.pairState = psHolder) ∧
    (∃ (ep : Nat) (s : State), s.dev.pairUp = true ∧ s.dev.pairState = psStandby ∧ ep < 2 ^ 32) :=
  ⟨⟨3, 7, [], on stby, by decide +kernel⟩,
   ⟨3, 7, badRegs, ((on stby).dev.validateAt 7 badRegs).getD ⟨.ok, 0, 0, 0, 0, 0, 0⟩, on stby, by decide +kernel⟩,
   ⟨8, 5, 7, mirrored, on (withCommit mirrored stby), by decide +kernel⟩,
   ⟨4, held4, on (withCommit held4 hold), by decide +kernel⟩,
   ⟨4, 6, held4, on (withCommit held4 hold), by decide +kernel⟩,
   ⟨8, [1, 2], on (withDram stby), by decide +kernel⟩,
   ⟨on snd, by decide +kernel⟩,
   ⟨on hold, by decide +kernel⟩,
   ⟨4, on stby, by decide +kernel⟩⟩

theorem witness_PairTraffic :
    (∃ (s : State), s.dev.pairUp = true ∧ s.dev.pairState = psStandby ∧ s.dev.compose.next = none) ∧
    (∃ (n : Nat) (k : Nat) (c : Nat) (c' : Nat) (sums : List (Nat × Bool)) (s : State), s.dev.isTwin = true ∧ s.dev.twin.digests = [(n,
    k, c, false)] ∧ sums[k]? = some (c', false) ∧ c ≠ c') ∧
    (∃ (n : Nat) (k : Nat) (c : Nat) (sums : List (Nat × Bool)) (s : State), s.dev.isTwin = true ∧ s.dev.twin.digests = [(n, k, c,
    false)] ∧ sums[k]? = some (c, false)) ∧
    (∃ (ws : List Word) (k : Nat) (e : Nat) (s : State), s.dev.pairUp = true ∧ s.dev.isStandby = true ∧ s.dev.link.ports.length = 8 ∧ k
    < 8 ∧ k = (ParcelHead.ofWord (nth ws 0 0)).loop ∧ (e, k) ∈ s.dev.loopEnds k ∧ Word.field (nth ws 1 0) 0 8 ≠ 6) ∧
    (∃ (ws : List Word) (k : Nat) (e : Nat) (m : Nat) (s : State), s.dev.pairUp = true ∧ s.dev.isStandby = true ∧
    s.dev.link.ports.length = 8 ∧ s.dev.link.loops.length = 4 ∧ k < 4 ∧ k = (ParcelHead.ofWord (nth ws 0 0)).loop ∧ (e, k) ∈
    s.dev.loopEnds k ∧ Word.field (nth ws 1 0) 0 8 = 6 ∧ m = modeOf (Word.field (nth ws 2 0) 0 2) ∧ lsCol ≤ s.dev.portState k) ∧
    (∃ (k : Nat) (p : Nat) (r : Relay) (pl : List Word) (w : List Word) (s : State), s.dev.isTwin = true ∧ s.dev.pairState = psHolder ∧
    k < s.dev.loops ∧ s.dev.pingReply k p r pl w) ∧
    (∃ (k : Nat) (sel : Nat) (ws : List Word) (key : List Word) (s : State), s.dev.pairUp = true ∧ s.dev.pairState = psStandby ∧ k <
    s.dev.loops ∧ s.dev.link.loops.length = 4 ∧ s.dev.twin.kpair ≠ [] ∧ keyUnwrap s.dev.twin.kpair ws = some key ∧ (s.dev.loopSt k).key
    = [] ∧ sel < 4) ∧
    (∃ (k : Nat) (sel : Nat) (ws : List Word) (key : List Word) (s : State), s.dev.pairUp = true ∧ s.dev.pairState = psStandby ∧ k <
    s.dev.loops ∧ s.dev.link.loops.length = 4 ∧ s.dev.twin.kpair ≠ [] ∧ keyUnwrap s.dev.twin.kpair ws = some key ∧ (s.dev.loopSt k).key
    ≠ [] ∧ (s.dev.loopSt k).key ≠ key ∧ sel < 4) ∧
    (∃ (s : State), s.dev.isTile = true ∧ s.dev.linkRuns = true) :=
  ⟨⟨on stby, by decide +kernel⟩,
   ⟨9, 0, 5, 6, [(6, false)], on ((twinDev psHolder snd).onTwin fun t => { t with digests := [(9, 0, 5, false)] }), by decide +kernel⟩,
   ⟨9, 0, 5, [(5, false)], on ((twinDev psHolder snd).onTwin fun t => { t with digests := [(9, 0, 5, false)] }), by decide +kernel⟩,
   ⟨[0, 2], 0, 0, on stby, by decide +kernel⟩,
   ⟨[0, 6, 1], 0, 0, modeOf 1, on (port0 lsCol stby), by decide +kernel⟩,
   ⟨0, 3, relay1, replyBody, tileWords, on (relaying hold), by decide +kernel⟩,
   ⟨0, 1, wrapped, [5, 6, 7, 8], on (stby.onTwin fun t => { t with kpair := [1, 2, 3, 4] }), by decide +kernel⟩,
   ⟨0, 1, wrapped, [5, 6, 7, 8], on ((stby.onTwin fun t => { t with kpair := [1, 2, 3, 4] }).onLoop 0 fun l => { l with key := [1] }), by decide +kernel⟩,
   ⟨on (linked til), by decide +kernel⟩⟩

theorem witness_WallTime :
    (∃ (s : State), s.pending = [] ∧ s.dev.host.queue = []) ∧
    (∃ (k : Fin 3) (s : State), s.dev.ptpRuns k = true ∧ (s.dev.ptp k).master.isSome = true ∧ s.dev.time.paths.length = 3) ∧
    (∃ (k : Fin 3) (q : Nat) (t2 : Int) (s : State), s.dev.ptpRuns k = true ∧ s.dev.time.paths.length = 3 ∧ (s.dev.ptp k).sync = some
    (q, t2)) ∧
    (∃ (k : Fin 3) (q : Nat) (t3 : Int) (m : Int) (s : State), s.dev.ptpRuns k = true ∧ s.dev.time.paths.length = 3 ∧ (s.dev.ptp k).req
    = some (q, t3) ∧ (s.dev.ptp k).ms = some m) ∧
    (∃ (k : Fin 3) (s : State), s.dev.ptpRuns k = true ∧ (s.dev.ptp k).master.isSome = true ∧ s.dev.time.paths.length = 3) ∧
    (∃ (k : Fin 3) (a : Announce) (s : State), s.dev.ptpRuns k = true ∧ a.domain ≠ s.dev.get F.TIME_PTP_CFG_DOMAIN) ∧
    (∃ (k : Fin 3) (a : Announce) (s : State), s.dev.ptpRuns k = true ∧ a.domain = s.dev.get F.TIME_PTP_CFG_DOMAIN ∧
    s.dev.time.paths.length = 3 ∧ (s.dev.ptp k).master = none) ∧
    (∃ (k : Fin 3) (s : State), s.dev.ptpRuns k = true ∧ (s.dev.eventTimes EvCode.time.code).length < 64 ∧ s.dev.host.lost =
    List.replicate 10 0) ∧
    (∃ (s : State), s.dev.get F.TIME_STAT_SRC_IN_USE ≠ 0 ∧ s.dev.timeState = tsLocked) ∧
    (∃ (s : State), s.dev.timeState = tsHold) ∧
    (∃ (s : State), s.dev.timeState ≠ tsHold) ∧
    (∃ (s : State), s.dev.time.keepUntil.isSome = true ∧ s.dev.timeState = tsLocked) ∧
    (∃ (p : Fin 8) (x : TimeParcel) (s : State), s.dev.isTile = true ∧ s.dev.time.running = true ∧ lsCol ≤ s.dev.portState p ∧
    s.dev.time.sides.length = 8 ∧ x.hops < 128 ∧ x.echoValid = false) :=
  ⟨⟨on snd, by decide +kernel⟩,
   ⟨2, on (ptpDev (fun p => { withMaster p with path := some 300 }) snd), by decide +kernel⟩,
   ⟨2, 7, 1500, on (ptpDev (fun p => { withMaster p with sync := some (7, 1500) }) snd), by decide +kernel⟩,
   ⟨2, 7, 1000, 400, on (ptpDev (fun p => { withMaster p with req := some (7, 1000), ms := some 400 }) snd), by decide +kernel⟩,
   ⟨2, on (ptpDev withMaster snd), by decide +kernel⟩,
   ⟨2, announce 5, on (ptpDev id snd), by decide +kernel⟩,
   ⟨2, announce 127, on (ptpDev id snd), by decide +kernel⟩,
   ⟨2, on (ptpDev id snd), by decide +kernel⟩,
   ⟨on ((timeIs tsLocked snd).set F.TIME_STAT_SRC_IN_USE 1), by decide +kernel⟩,
   ⟨on (timeIs tsHold snd), by decide +kernel⟩,
   ⟨on snd, by decide +kernel⟩,
   ⟨on ((timeIs tsLocked snd).onTime fun t => { t with keepUntil := some 9 }), by decide +kernel⟩,
   ⟨1, ⟨3, true, 5, 6, 7, 8, false, 9, 0⟩, on ((timed (linked til)).set (F.LINK_OVL_STAT_STATE 1) lsFull), by decide +kernel⟩⟩

theorem witness_Fsync :
    (∃ (s : State), s.dev.get F.TIME_FSYNC_IN_CFG_MODE = 0) ∧
    (∃ (x : Int) (e : Int) (s : State), s.dev.get F.TIME_FSYNC_IN_CFG_MODE = 1 ∧ s.dev.time.running = true ∧ e = x - (s.dev.get
    F.TIME_FSYNC_IN_CFG_CABLE_PS : Int) ∧ 500000 < (e - s.dev.fsyncPlace e).natAbs) ∧
    (∃ (x : Int) (e : Int) (s : State), s.dev.get F.TIME_FSYNC_IN_CFG_MODE = 1 ∧ s.dev.time.running = true ∧ e = x - (s.dev.get
    F.TIME_FSYNC_IN_CFG_CABLE_PS : Int) ∧ (e - s.dev.fsyncPlace e).natAbs ≤ 500000 ∧ s.dev.time.fsIn.1 < 255) ∧
    (∃ (o : Fin 2) (s : State), s.dev.get (F.TIME_FSYNC_OUT_CFG_MODE o) = 0) ∧
    (∃ (o : Fin 2) (n : Nat) (s : State), s.dev.time.running = true ∧ s.dev.get (F.TIME_FSYNC_OUT_CFG_MODE o) = 1 ∧ n % (s.dev.get
    (F.TIME_FSYNC_OUT_CFG_DIV o) + 1) = s.dev.get (F.TIME_FSYNC_OUT_CFG_PHASE o)) ∧
    (∃ (o : Fin 2) (s : State), s.dev.time.running = true ∧ s.dev.time.leftFree = true ∧ s.dev.get (F.TIME_FSYNC_OUT_CFG_MODE o) = 3) :=
  ⟨⟨on snd, by decide +kernel⟩,
   ⟨5000000, 5000000, on (fsIs 1 snd), by decide +kernel⟩,
   ⟨400000, 400000, on (fsIs 1 snd), by decide +kernel⟩,
   ⟨0, on snd, by decide +kernel⟩,
   ⟨0, 0, on (foIs 1 snd), by decide +kernel⟩,
   ⟨0, on (foIs 3 snd), by decide +kernel⟩⟩

theorem witness_VideoSources :
    (∃ (p : Fin 4) (m : VinMode) (s : State), s.dev.vinOn p = true ∧ s.dev.bit (F.INGEST_VIN_STAT_LOCK p) = false ∧ s.dev.linkOffered p
    m = true ∧ s.dev.ingest.vinModes.length = 4) ∧
    (∃ (p : Fin 4) (s : State), s.dev.bit (F.INGEST_VIN_STAT_LOCK p) = true) ∧
    (∃ (p : Fin 4) (m : VinMode) (s : State), s.dev.linkOffered p m = false) ∧
    (∃ (p : Fin 4) (m : VinMode) (s : State), s.dev.vinOn p = true ∧ s.dev.bit (F.INGEST_VIN_STAT_LOCK p) = true ∧ s.dev.linkOffered p m
    = true ∧ s.dev.ingest.vinModes.length = 4) ∧
    (∃ (s : State), s.dev.ingest.asleep = false ∧ s.dev.ingest.hpdLow.length = 4) ∧
    (∃ (p : Fin 4) (s : State), s.dev.vinOn p = true ∧ s.dev.bit (F.INGEST_VIN_CFG_HDCP_EN p) = true) ∧
    (∃ (n : Nat) (slot : Nat) (f : SrcFrame) (s : State), n < 36 ∧ s.dev.sourceFed n = true ∧ s.dev.frameFits n f = true ∧ f.whole =
    true ∧ s.dev.ingest.sources.length = 48 ∧ s.dev.rateFits n f = true ∧ s.dev.ringSlot n = some slot) ∧
    (∃ (n : Nat) (f : SrcFrame) (s : State), n < 36 ∧ s.dev.sourceFed n = true ∧ s.dev.frameFits n f = true ∧
    s.dev.ingest.sources.length = 48 ∧ s.dev.rateFits n f = true ∧ s.dev.ringSlot n = none) ∧
    (∃ (n : Nat) (f : SrcFrame) (s : State), n < 36 ∧ s.dev.sourceFed n = true ∧ s.dev.frameFits n f = true ∧
    s.dev.ingest.sources.length = 48 ∧ (s.dev.timed n f).fits (s.dev.get (F.INGEST_SRC_CFG_RES n)) = false ∧ (s.dev.timed n
    f).slowEnough f.w f.h = true) ∧
    (∃ (n : Nat) (f : SrcFrame) (s : State), n < 36 ∧ s.dev.sourceFed n = true ∧ s.dev.frameFits n f = false) ∧
    (∃ (n : Nat) (s : State), (s.dev.sourceFed n = false ∨ 36 ≤ n)) :=
  ⟨⟨0, vmode 8000, on (vin snd), by decide +kernel⟩,
   ⟨0, on (vinLock snd), by decide +kernel⟩,
   ⟨0, { vmode 4 with link := 7 }, on (vinLock snd), by decide +kernel⟩,
   ⟨0, vmode 4, on (vinLock snd), by decide +kernel⟩,
   ⟨on snd, by decide +kernel⟩,
   ⟨0, on (vin snd), by decide +kernel⟩,
   ⟨0, 0, vframe, on (srcDev 2 snd), by decide +kernel⟩,
   ⟨0, vframe, on (srcDev 0 snd), by decide +kernel⟩,
   ⟨0, { vframe with key := 10 ^ 10 }, on (rushed (srcDev 2 snd)), by decide +kernel⟩,
   ⟨0, { vframe with sampling := 5 }, on (srcDev 2 snd), by decide +kernel⟩,
   ⟨0, on snd, by decide +kernel⟩⟩

theorem witness_FlowsAndAudio :
    (∃ (f : Nat) (q : Nat) (n : Nat) (p : Nat) (s : State), s.dev.flowOn f p = true ∧ s.dev.ingest.flows.length = 40 ∧ q < 65536 ∧ n <
    65536 ∧ s.dev.get (F.INGEST_FLOW_DST_PORTS f) ≠ 3 ∧ (s.dev.flow f).next = some n ∧ (s.dev.flow f).missing = [] ∧ (q + 65536 - n) %
    65536 < 32768) ∧
    (∃ (f : Nat) (p : Nat) (s : State), s.dev.flowOn f p = true) ∧
    (∃ (f : Nat) (s : State), f < 40 ∧ s.dev.bit (F.INGEST_FLOW_STAT_RECEIVING f) = true) ∧
    (∃ (f : Nat) (sec : Nat) (ns : Nat) (len : Nat) (pl : List Word) (ws : List Word) (s : State), s.dev.flowOn f 0 = true ∧ s.dev.get
    (F.INGEST_FLOW_FMT_TYPE f) = 2 ∧ s.MemInv ∧ ws = Word.pack [(0, 32, s.dev.ingest.ancCount), (32, 16, len), (48, 8, f)] :: Word.of
    sec :: Word.pack [(0, 30, ns)] :: pl ∧ s.dev.ingest.ancAt + ceilDiv (8 * ws.length) 64 * 64 ≤ s.dev.ancArea.2) ∧
    (∃ (i : Nat) (ch : Nat) (v : Nat) (x : Nat) (k : Fin 8) (s : State), s.dev.audioFed 2 i = true ∧ s.MemInv ∧ (∀ j, j < 8 → (s.dev.get
    (F.INGEST_ACH_CFG_KIND j) = 2 ↔ j = k.val)) ∧ s.dev.get (F.INGEST_ACH_CFG_INDEX k) = i ∧ s.dev.get (F.INGEST_ACH_CFG_CH k) = ch ∧
    s.dev.bit F.INGEST_AIN_CFG_CLOCK_IN = false ∧ audioRate (s.dev.get F.INGEST_AIN_CFG_RATE) = s.dev.outRate k ∧
    s.dev.ingest.channels.length = 8 ∧ x = slotSample (s.dev.get F.INGEST_AIN_CFG_SLOT) v * 2 ^ (32 - slotBits (s.dev.get
    F.INGEST_AIN_CFG_SLOT))) ∧
    (∃ (k : Nat) (i : Nat) (s : State), s.dev.audioFed k i = false) ∧
    (∃ (s : State), s.dev.ingestRuns = true ∧ s.dev.bit F.INGEST_AUD_CFG_EN = true ∧ s.dev.bit F.INGEST_AUD_CFG_TRACK = true ∧ -500 ≤
    s.dev.ingest.trim ∧ s.dev.ingest.trim ≤ 500) ∧
    (∃ (c : Fin 4) (s : State), s.dev.answers = true ∧ s.dev.isSender = true ∧ s.dev.variant.full = true ∧ s.dev.ingest.aout.length = 4
    ∧ s.dev.ingest.asleep = false ∧ s.dev.get (F.INGEST_AOUT_CFG_SLOT c) ≤ 2 ∧ s.dev.get (F.INGEST_AOUT_CFG_RATE c) ≤ 6 ∧ bclkOk
    (s.dev.reg R.KEEP_AMCLK_CFG) (s.dev.reg (R.INGEST_AOUT_CFG c)) = true) ∧
    (∃ (c : Fin 4) (n : Nat) (s : State), s.dev.ingest.aout.length = 4 ∧ s.dev.stage c = .zeros n) ∧
    (∃ (c : Fin 4) (s : State), (s.dev.stage c = .off ∨ s.dev.clocked guAudio = false)) ∧
    (∃ (s : State), s.dev.ingest.aout.length = 4 ∧ s.dev.clocked guAudio = true) ∧
    (∃ (c : Fin 4) (s : State), s.dev.stage c = .run ∧ s.dev.clocked guAudio = true) :=
  ⟨⟨5, 3, 65535, 0, on (flowDev snd), by decide +kernel⟩,
   ⟨5, 0, on (flowDev snd), by decide +kernel⟩,
   ⟨5, on (snd.set (F.INGEST_FLOW_STAT_RECEIVING 5) 1), by decide +kernel⟩,
   ⟨5, 6, 7, 8, [9], [Word.pack [(0, 32, 0), (32, 16, 8), (48, 8, 5)], 6, Word.pack [(0, 30, 7)], 9], on ((flowDev snd).setAll [(F.INGEST_FLOW_FMT_TYPE 5, 2), (F.INGEST_ANC_RING_SIZE_LOG2, 12)]), by decide +kernel⟩,
   ⟨0, 1, 6, slotSample 2 6 * 2 ^ (32 - slotBits 2), 3, on ((ainDev snd).setAll [(F.INGEST_AIN_CFG_RATE, 2), (F.INGEST_AOUT_CFG_RATE 1, 2)]), by decide +kernel⟩,
   ⟨2, 0, on snd, by decide +kernel⟩,
   ⟨on ((ainDev snd).onIngest fun i => { i with trim := 500 }), by decide +kernel⟩,
   ⟨1, on (aoutDev 0 snd), by decide +kernel⟩,
   ⟨1, 3, on (staged (.zeros 3) snd), by decide +kernel⟩,
   ⟨1, on snd, by decide +kernel⟩,
   ⟨on (staged (.starting 255) snd), by decide +kernel⟩,
   ⟨1, on (staged .run snd), by decide +kernel⟩⟩

theorem witness_FramesComposed :
    (∃ (s : State), s.dev.compose.next = none) ∧
    (∃ (set : ComposeSet) (s : State), s.dev.compose.next = some set ∧ s.dev.composes = true ∧ s.dev.compose.pipes.length = 4) ∧
    (∃ (k : Fin 4) (set : ComposeSet) (ti : LayoutTile) (b : Nat) (s : State), s.dev.composes = true ∧ k.val < s.dev.loops ∧
    s.dev.compose.cur = some set ∧ (s.dev.loopTiles k)[(s.dev.pipe k).tile]? = some ti ∧ (s.dev.pipe k).composing = true ∧ (s.dev.pipe
    k).opened = some set.frame ∧ s.dev.liveEnds k ≠ [] ∧ s.dev.itemsLeft = [] ∧ (s.dev.pipe k).row + 1 ≠ ti.h ∧ b = (s.dev.pipe
    k).bits.1 + ti.w * codeBits ((s.dev.atSet set).loopCode k set.plain) ∧ s.dev.queued k + b / 1920 ≤ 8192) ∧
    (∃ (s : State), s.dev.composes = false) ∧
    (∃ (k : Fin 4) (sl : Nat) (ti : Nat) (n : Nat) (s : State), (s.dev.pipe k).composing = true ∧ (s.dev.pipe k).opened = some n ∧
    (s.dev.pipe k).slot = sl ∧ (s.dev.pipe k).tile ≤ ti ∧ (s.dev.fastest k).isSome = true ∧ s.dev.composing.bit
    F.COMPOSE_CFG_ABORT_SCOPE = true) ∧
    (∃ (k : Fin 4) (sl : Nat) (ti : Nat) (n : Nat) (s : State), (s.dev.pipe k).composing = true ∧ (s.dev.pipe k).opened = some n ∧ k.val
    < s.dev.loops ∧ (s.dev.pipe k).slot = sl ∧ (s.dev.pipe k).tile ≤ ti ∧ (s.dev.fastest k).isSome = true ∧ s.dev.composing.bit
    F.COMPOSE_CFG_ABORT_SCOPE = false) ∧
    (∃ (k : Fin 4) (s : State), (s.dev.pipe k).opened = none ∧ (s.dev.pipe k).composing = false) ∧
    (∃ (n : Nat) (k : Nat) (e : Nat) (p : Nat) (s : State), s.dev.isSender = true ∧ k < s.dev.loops ∧ (s.dev.pipe k).opened = some n ∧
    (∀ j, j < s.dev.loops → (s.dev.pipe j).composing = false) ∧ (e, p) ∈ s.dev.loopEnds k ∧ (s.dev.port p).frame = some n ∧ (s.dev.port
    p).pixSent < (s.dev.port p).pixAll ∧ s.dev.bit F.CTRL_PAIR_STAT_MUTED = false ∧ s.dev.link.ports.length = 8) ∧
    (∃ (n : Nat) (s : State), s.dev.isSender = true ∧ (∀ k, k < s.dev.loops → (s.dev.pipe k).opened ≠ some n)) ∧
    (∃ (s : State), s.dev.isSender = false) :=
  ⟨⟨on snd, by decide +kernel⟩,
   ⟨set7, on ((loopDev lsOne (port0 lsOne snd)).onCompose fun c => { c with next := some set7 }), by decide +kernel⟩,
   ⟨0, set7, lay0 1, 256 * codeBits ((piped snd).atSet set7 |>.loopCode 0 false), on (piped snd), by decide +kernel⟩,
   ⟨on { snd with boot := .held }, by decide +kernel⟩,
   ⟨0, 0, 1, 7, on ((piped snd).onCompose fun c => { c with cur := some { set7 with regs := set7.regs ++ [(R.COMPOSE_CFG, Word.setField 0 F.COMPOSE_CFG_ABORT_SCOPE.lo 1 1)] } }), by decide +kernel⟩,
   ⟨0, 0, 1, 7, on (piped snd), by decide +kernel⟩,
   ⟨0, on snd, by decide +kernel⟩,
   ⟨7, 0, 0, 0, on (drained snd), by decide +kernel⟩,
   ⟨7, on snd, by decide +kernel⟩,
   ⟨on til, by decide +kernel⟩⟩

theorem witness_BasinsRun :
    (∃ (s : State), s.dev.compose.waiting = [] ∧ (∀ b, (s.dev.basin b).next = none)) ∧
    (∃ (i : WorkItem) (b : Nat) (s : State), s.dev.safe.inReset.contains 4 = false ∧ (∀ c, (s.dev.basin c).next = none) ∧
    s.dev.compose.waiting = [i] ∧ i.after = none ∧ s.dev.chooseBasin i = some b ∧ (s.dev.basin b).queue = []) ∧
    (∃ (b : Nat) (n : Nat) (set : List Nat) (slots : List Nat) (s : State), s.dev.safe.inReset.contains 4 = false ∧
    s.dev.compose.waiting = [] ∧ b < 16 ∧ b < s.dev.compose.basins.length ∧ (s.dev.basin b).next = some (n, set, slots) ∧ (∀ i ∈
    s.dev.itemsLeft, i.background = true ∨ n ≤ i.frame)) ∧
    (∃ (b : Nat) (e : Nat) (c : Nat) (i : WorkItem) (s : State), b < 16 ∧ e < 16 ∧ (s.dev.basin b).running = [(e, i)] ∧ (s.dev.basin
    b).queue = [] ∧ i.kernel ≠ kDiagEngine ∧ i.kernel ≠ kDiagPool ∧ c ≤ i.ceiling) ∧
    (∃ (b : Nat) (e : Nat) (s : State), e < 16 ∧ (s.dev.basin b).running = []) ∧
    (∃ (b : Nat) (e : Nat) (c : Nat) (c' : Nat) (i : WorkItem) (s : State), b < 16 ∧ e < 16 ∧ s.dev.calmEngine b e ∧ (s.dev.basin
    b).running = [(e, i)] ∧ i.background = true ∧ 4 * kernelCost i.kernel * i.units + 2048 < c ∧ c' ≤ 4 * kernelCost i.kernel * i.units
    + 2048) ∧
    (∃ (b : Nat) (e : Nat) (e' : Nat) (c : Nat) (i : WorkItem) (s : State), b < 16 ∧ e < 16 ∧ s.dev.calmEngine b e ∧ (s.dev.basin
    b).running = [(e, i)] ∧ i.background = false ∧ i.pin = none ∧ i.tries = 0 ∧ c ≤ 4 * kernelCost i.kernel * i.units + 2048 ∧ e' ≠ e ∧
    (s.dev.basin b).inService e' = true ∧ (s.dev.basin b).suspect.testBit e' = false) ∧
    (∃ (b : Nat) (e : Nat) (a : FabricArrival) (w : Word) (flips : List Nat) (s : State), b < 16 ∧ e < 16 ∧ s.dev.calmEngine b e ∧
    (s.dev.basin b).running = [] ∧ s.dev.keepRuns = true ∧ s.dev.safe.inReset.contains 4 = false ∧ a.site = .engine (16 * b + e) ∧
    ((s.dev.fabric.link a.site).take a).sent[a.place]? = some w ∧ failures w a.flips = 4 ∧ failures 0 flips = 4) ∧
    (∃ (b : Nat) (n : Nat) (a : FabricArrival) (w : Word) (flips : List Nat) (s : State), a.site = .basinPort b ∧ s.dev.keepRuns = true
    ∧ s.dev.safe.inReset.contains 4 = false ∧ ((s.dev.fabric.link a.site).take a).sent[a.place]? = some w ∧ 0 < failures w a.flips ∧
    failures w a.flips < 4 ∧ 0 < failures 0 flips ∧ failures 0 flips < 4 ∧ n = satTo (2 ^ 32 - 1) (s.dev.get F.COMPOSE_KERR_CORRECTED +
    1)) ∧
    (∃ (a : FabricArrival) (s : State), s.dev.keepRuns = true ∧ (∀ w, ((s.dev.fabric.link a.site).take a).sent[a.place]? = some w →
    failures w a.flips = 0)) ∧
    (∃ (flips : List Nat) (s : State), failures 0 flips = 4 ∧ s.dev.keepRuns = true ∧ s.dev.safe.inReset.contains 0 = false ∧
    s.dev.safeNow = false) ∧
    (∃ (b : Nat) (e : Nat) (s : State), e < 16 ∧ (s.dev.basin b).inService e = true ∧ (s.dev.basin b).st = 3) ∧
    (∃ (b : Nat) (e : Nat) (s : State), e < 16 ∧ (s.dev.basin b).st ≠ 3) ∧
    (∃ (b : Nat) (e : Nat) (c : Nat) (i : WorkItem) (s : State), b < 16 ∧ e < 16 ∧ s.dev.calmEngine b e ∧ (s.dev.basin b).running = [(e,
    i)] ∧ c ≤ 4 * kernelCost i.kernel * i.units + 2048 ∧ i.background = true) ∧
    (∃ (b : Nat) (e : Nat) (s : State), b < 16 ∧ e < 16 ∧ (s.dev.basin b).active = true) ∧
    (∃ (b : Nat) (s : State), (s.dev.basin b).st = 2 ∧ s.dev.hasLibrary = true ∧ s.dev.fewOut) ∧
    (∃ (b : Nat) (s : State), ((s.dev.basin b).st ≠ 2 ∨ s.dev.hasLibrary = false)) :=
  ⟨⟨on (basinIs {} snd), by decide +kernel, (next_none {} rfl)⟩,
   ⟨item3, 1, on ((basinIs ready1 snd).onCompose fun c => { c with waiting := [item3] }), by decide +kernel, (next_none ready1 rfl), by decide +kernel⟩,
   ⟨1, 7, [1], [], on (basinIs { ready1 with next := some (7, [1], []) } snd), by decide +kernel⟩,
   ⟨1, 4, 9, item3, on (basinIs busy1 snd), by decide +kernel⟩,
   ⟨1, 4, on (basinIs ready1 snd), by decide +kernel⟩,
   ⟨1, 4, 10 ^ 9, 9, item3, on (basinIs busy1 snd), by decide +kernel⟩,
   ⟨1, 4, 5, 9, item4, on (basinIs (busyWith item4) snd), by decide +kernel⟩,
   ⟨1, 4, brokenAt (.engine 20) 4, 5, [1, 1, 1, 1], on (basinIs ready1 snd), by decide +kernel⟩,
   ⟨1, 1, brokenAt (.basinPort 1) 1, 5, [1], on snd, by decide +kernel⟩,
   ⟨brokenAt (.basinPort 1) 0, on snd, by decide +kernel, (fun _ _ => rfl)⟩,
   ⟨[1, 1, 1, 1], on snd, by decide +kernel⟩,
   ⟨1, 4, on (basinIs ready1 snd), by decide +kernel⟩,
   ⟨1, 2, on snd, by decide +kernel⟩,
   ⟨1, 4, 9, { item3 with kernel := kDiagPool, passes := false, reads := [⟨.pool 1, 0, [1, 1, 1, 1]⟩] }, on (basinIs (busyWith { item3 with kernel := kDiagPool, passes := false, reads := [⟨.pool 1, 0, [1, 1, 1, 1]⟩] }) snd), by decide +kernel⟩,
   ⟨1, 4, on (basinIs { ready1 with suspect := 16, faults := [(4, 1)] } snd), by decide +kernel⟩,
   ⟨1, on (withLib (basinIs { ready1 with st := 2 } snd)), by decide +kernel⟩,
   ⟨1, on snd, by decide +kernel⟩⟩

theorem witness_TablesAndLedger :
    (∃ (e : Fin 2) (pos : Nat) (s : State), s.dev.isTile = true ∧ s.dev.boot = .up ∧ s.dev.endAccepted e = true ∧ s.dev.atPosition pos =
    true) ∧
    (∃ (e : Fin 2) (pos : Nat) (s : State), s.dev.isTile = true ∧ s.dev.boot = .up ∧ s.dev.endAccepted e = true ∧ s.dev.atPosition pos =
    false) ∧
    (∃ (e : Fin 2) (s : State), s.dev.isTile = true ∧ s.dev.boot = .up ∧ s.dev.endAccepted e = false) ∧
    (∃ (e : Fin 2) (pos : Nat) (cls : Nat) (crc : Nat) (len : Nat) (ws : List Word) (s : State), s.dev.isTile = true ∧ s.dev.boot = .up
    ∧ s.dev.endAccepted e = true ∧ s.dev.atPosition pos = true ∧ stagedWords s.dev.lamp.staging cls len = some ws ∧ (checkWord 0
    ws).toNat = crc ∧ classRules cls ws (if holdsClass s.dev.lamp.accepted tcHeader then s.dev.lamp.accepted else s.dev.lamp.held)
    s.dev.tileRect s.dev.prog.emitters = none) ∧
    (∃ (e : Fin 2) (pos : Nat) (cls : Nat) (crc : Nat) (len : Nat) (s : State), s.dev.isTile = true ∧ s.dev.boot = .up ∧
    s.dev.endAccepted e = true ∧ s.dev.atPosition pos = true ∧ (∀ w, s.dev.judgeClass cls crc len ≠ .ok w)) ∧
    (∃ (e : Fin 2) (pos : Nat) (epoch : Nat) (mask : Nat) (s : State), s.dev.isTile = true ∧ s.dev.boot = .up ∧ s.dev.endAccepted e =
    true ∧ s.dev.atPosition pos = true ∧ epoch < 2 ^ 32 ∧ s.dev.lamp.pushBad = none ∧ (∀ c, 1 ≤ c → c ≤ 6 → mask.testBit c = true →
    holdsClass s.dev.lamp.accepted c = true)) ∧
    (∃ (e : Fin 2) (pos : Nat) (b : Nat × Nat) (s : State), s.dev.isTile = true ∧ s.dev.boot = .up ∧ s.dev.endAccepted e = true ∧
    s.dev.atPosition pos = true ∧ s.dev.lamp.pushBad = some b) ∧
    (∃ (s : State), s.dev.isTile = true ∧ s.dev.lamp.rebuild = 1) ∧
    (∃ (s : State), s.dev.isTile = true ∧ s.dev.lamp.rebuild = 2) ∧
    (∃ (s : State), s.dev.lamp.rebuild = 0) ∧
    (∃ (h : Hdr) (s : State), s.takes h .ledgerSave [] = true ∧ s.dev.isTile = true ∧ s.dev.lamp.saving = none) ∧
    (∃ (h : Hdr) (s : State), s.takes h .ledgerSave [] = true ∧ s.dev.isSender = true) ∧
    (∃ (s : State), s.dev.maySave = true ∧ s.dev.lampsLit = true) ∧
    (∃ (s : State), s.dev.maySave = true ∧ s.dev.lamp.saveRetry = true) ∧
    (∃ (s : State), s.dev.lampsLit = false) ∧
    (∃ (r : SaveRun) (q : QCmd) (s : State), s.dev.lamp.saving = some r ∧ s.dev.lamp.saveCmds = [q] ∧ s.dev.flash.ledgers.length = 2 ∧
    s.dev.flash.lastArea < 2 ∧ (s.dev.host.lostReplies.any fun x => q.isFor x.1 x.2.1 x.2.2) = false) ∧
    (∃ (r : SaveRun) (s : State), s.dev.lamp.saving = some r ∧ s.dev.flash.ledgers.length = 2 ∧ s.dev.flash.lastArea < 2) ∧
    (∃ (s : State), s.dev.lamp.saving = none) ∧
    (∃ (s : State), s.dev.lampsLit = true) :=
  ⟨⟨1, 3, on tile3, by decide +kernel⟩,
   ⟨1, 4, on tile3, by decide +kernel⟩,
   ⟨0, on ((tile3).onTileLink fun t => { t with leases := [none, some (4, 0)] }), by decide +kernel⟩,
   ⟨1, 3, 1, (checkWord 0 header1).toNat, 3, header1, on (staged1 tile3), by decide +kernel⟩,
   by refine ⟨1, 3, 1, 0, 3, on tile3, ?_, ?_, ?_, ?_, (fun w => by rw [show (on tile3).dev.judgeClass 1 0 3 = .error 0 from rfl]; exact nofun)⟩ <;> decide +kernel,
   by refine ⟨1, 3, 7, 2, on (accepted1 tile3), ?_, ?_, ?_, ?_, ?_, ?_, (by intro c h1 h2 h3; rcases (show c = 1 ∨ c = 2 ∨ c = 3 ∨ c = 4 ∨ c = 5 ∨ c = 6 from (by omega)) with rfl | rfl | rfl | rfl | rfl | rfl <;> first | rfl | exact absurd h3 (by decide))⟩ <;> decide +kernel,
   ⟨1, 3, (1, 5), on (tile3.onLamp fun l => { l with pushBad := some (1, 5) }), by decide +kernel⟩,
   ⟨on (til.onLamp fun l => { l with rebuild := 1 }), by decide +kernel⟩,
   ⟨on (til.onLamp fun l => { l with rebuild := 2 }), by decide +kernel⟩,
   ⟨on til, by decide +kernel⟩,
   ⟨hd, on (local_ til), by decide +kernel⟩,
   ⟨hd, on snd, by decide +kernel⟩,
   ⟨on (showing til), by decide +kernel⟩,
   ⟨on (til.onLamp fun l => { l with saveRetry := true }), by decide +kernel⟩,
   ⟨on til, by decide +kernel⟩,
   ⟨save1, pingCmd 8, on (saving til), by decide +kernel⟩,
   ⟨save1, on (saving til), by decide +kernel⟩,
   ⟨on til, by decide +kernel⟩,
   ⟨on (showing til), by decide +kernel⟩⟩

theorem witness_TileFrames :
    (∃ (s : State), s.dev.isTile = false) ∧
    (∃ (s : State), s.dev.isTile = true ∧ s.dev.boot = .up ∧ (s.dev.awake = false ∨ s.dev.safeNow = true ∨ s.dev.bit
    F.LINK_TILE_STAT_IDENT = false)) ∧
    (∃ (n : Nat) (s : State), s.dev.isTile = true ∧ s.dev.boot = .up ∧ s.dev.awake = true ∧ s.dev.safeNow = false ∧ s.dev.bit
    F.LINK_TILE_STAT_IDENT = true ∧ ((s.dev.link.tile.rx.find? fun x => x.n == n) = none ∨ (∃ x, (s.dev.link.tile.rx.find? fun x => x.n
    == n) = some x ∧ x.ended = false ∧ x.aborted = [] ∧ x.tagOk ≠ some false ∧ s.dev.rxComplete x = false))) ∧
    (∃ (n : Nat) (x : RxFrame) (s : State), s.dev.isTile = true ∧ s.dev.boot = .up ∧ s.dev.awake = true ∧ s.dev.safeNow = false ∧
    s.dev.bit F.LINK_TILE_STAT_IDENT = true ∧ (s.dev.link.tile.rx.find? fun x => x.n == n) = some x ∧ x.ended = false ∧ s.dev.rxAborted
    x = true) ∧
    (∃ (n : Nat) (x : RxFrame) (o : FrameOpen) (set : CorSet) (s : State), s.dev.isTile = true ∧ s.dev.boot = .up ∧ s.dev.awake = true ∧
    s.dev.safeNow = false ∧ s.dev.bit F.LINK_TILE_STAT_IDENT = true ∧ (s.dev.link.tile.rx.find? fun x => x.n == n) = some x ∧ x.ended =
    false ∧ x.aborted = [] ∧ x.tagOk ≠ some false ∧ x.opened = some o ∧ s.dev.rxComplete x = true ∧ (∀ r, r < 16 → s.dev.bit
    (F.COMPOSE_SREC_CFG_EN r) = false) ∧ s.dev.lamp.next = some set ∧ set.frame = n) ∧
    (∃ (s : State), s.dev.safeNow = true) ∧
    (∃ (s : State), s.dev.isTile = true ∧ s.dev.boot = .up ∧ s.dev.safeNow = false ∧ s.dev.awake = false) ∧
    (∃ (n : Nat) (f : DriveFrame) (s : State), s.dev.isTile = true ∧ s.dev.boot = .up ∧ s.dev.safeNow = false ∧ s.dev.awake = true ∧
    s.dev.lamp.ready = some f ∧ f.n = n) ∧
    (∃ (n : Nat) (g : DriveFrame) (s : State), s.dev.isTile = true ∧ s.dev.boot = .up ∧ s.dev.safeNow = false ∧ s.dev.awake = true ∧ (∀
    f, s.dev.lamp.ready = some f → f.n ≠ n) ∧ s.dev.lamp.shown = some g) ∧
    (∃ (s : State), s.dev.isTile = true ∧ s.dev.boot = .up ∧ s.dev.safeNow = false ∧ s.dev.awake = true ∧ s.dev.lamp.ready = none ∧
    s.dev.lamp.shown = none) :=
  ⟨⟨on snd, by decide +kernel⟩,
   ⟨on { til with power := .sleep }, by decide +kernel, by decide +kernel, (Or.inl (by decide +kernel))⟩,
   by refine ⟨7, on tile3, ?_, ?_, ?_, ?_, ?_, (Or.inl (by decide +kernel))⟩ <;> decide +kernel,
   ⟨7, { n := 7, aborted := [0, 1] }, on (receiving { n := 7, aborted := [0, 1] } tile3), by decide +kernel⟩,
   ⟨7, { n := 7, opened := some fopen }, fopen, cset 7, on (nextSet 7 (receiving { n := 7, opened := some fopen } tile3)), by decide +kernel⟩,
   ⟨on (til.set F.KEEP_SAFE_STAT_SAFE 1), by decide +kernel⟩,
   ⟨on { til with power := .sleep }, by decide +kernel⟩,
   ⟨7, drive 7, on (tile3.onLamp fun l => { l with ready := some (drive 7) }), by decide +kernel⟩,
   by refine ⟨7, drive 6, on (tile3.onLamp fun l => { l with shown := some (drive 6) }), ?_, ?_, ?_, ?_, (by intro f h; cases h), ?_⟩ <;> decide +kernel,
   ⟨on tile3, by decide +kernel⟩⟩

theorem witness_PhotometryRuns :
    (∃ (i : Fin 8) (s : State), (s.dev.photoRuns = false ∨ s.dev.lampsLit = false ∨ i.val ∉ s.dev.photoInputs)) ∧
    (∃ (i : Fin 8) (s : State), s.dev.photoRuns = true ∧ s.dev.lampsLit = true ∧ i.val ∈ s.dev.photoInputs ∧ s.dev.photo.inputs.length =
    8) ∧
    (∃ (i : Fin 8) (es : List Rat) (s : State), s.dev.photoRuns = true ∧ s.dev.lampsLit = true ∧ i.val ∈ s.dev.photoInputs ∧
    s.dev.photo.inputs.length = 8 ∧ s.dev.lamp.locate = none ∧ s.dev.photo.failed.testBit i = false ∧ s.dev.predict i = some es) ∧
    (∃ (i : Fin 8) (s : State), ((s.dev.input i).frames < s.dev.photoSet F.LAMP_PHOTO_CFG_WINDOW ∨ s.dev.photoRuns = false)) ∧
    (∃ (i : Fin 8) (s : State), s.dev.photoRuns = true ∧ i.val ∈ s.dev.photoInputs ∧ s.dev.photo.inputs.length = 8 ∧ s.dev.photoSet
    F.LAMP_PHOTO_CFG_WINDOW ≤ (s.dev.input i).frames ∧ s.dev.photo.run = none) ∧
    (∃ (i : Fin 8) (r : PhotoRun) (s : State), s.dev.photoRuns = true ∧ i.val ∈ s.dev.photoInputs ∧ s.dev.photo.inputs.length = 8 ∧
    s.dev.photoSet F.LAMP_PHOTO_CFG_WINDOW ≤ (s.dev.input i).frames ∧ s.dev.photo.run = some r ∧ r.mask.testBit i = true ∧ (s.dev.input
    i).winB = none ∧ (s.dev.input i).windows < s.dev.photoSet F.LAMP_PHOTO_CFG_RUN_MAX) ∧
    (∃ (i : Fin 8) (r : PhotoRun) (s : State), s.dev.photoRuns = true ∧ i.val ∈ s.dev.photoInputs ∧ s.dev.photo.inputs.length = 8 ∧
    s.dev.photoSet F.LAMP_PHOTO_CFG_WINDOW ≤ (s.dev.input i).frames ∧ s.dev.photo.run = some r ∧ (r.mask.testBit i = false ∨
    (s.dev.input i).winB.isSome = true ∨ s.dev.photoSet F.LAMP_PHOTO_CFG_RUN_MAX ≤ (s.dev.input i).windows)) ∧
    (∃ (h : Hdr) (m : Word) (s : State), s.takes h .calRun [m] = true ∧ (s.dev.isSender = true ∨ Word.field m 0 8 = 0 ∨
    s.dev.photo.run.isSome = true ∨ s.dev.calReady = false)) ∧
    (∃ (h : Hdr) (m : Word) (s : State), s.takes h .calRun [m] = true ∧ s.dev.isTile = true ∧ Word.field m 0 8 ≠ 0 ∧ holdsClass
    s.dev.lamp.held tcPhoto = true ∧ (∀ i, i < 8 → (Word.field m 0 8).testBit i = true → i ∈ s.dev.photoInputs) ∧ s.dev.photo.run = none
    ∧ s.dev.calReady = true) ∧
    (∃ (s : State), (s.dev.calReady = false ∨ s.dev.photo.run.isSome = true ∨ s.dev.photoInputs = [] ∨ s.dev.calDue = false)) ∧
    (∃ (s : State), s.dev.calReady = true ∧ s.dev.photo.run = none ∧ s.dev.photoInputs ≠ [] ∧ s.dev.calDue = true ∧ s.dev.photo.endedAt
    = none) ∧
    (∃ (s : State), s.dev.photo.run = none) ∧
    (∃ (r : PhotoRun) (i : Nat) (s : State), s.dev.photo.run = some r ∧ i < 8 ∧ r.mask.testBit i = true ∧ (s.dev.input i).winB = none ∧
    (s.dev.input i).windows < s.dev.photoSet F.LAMP_PHOTO_CFG_RUN_MAX) ∧
    (∃ (r : PhotoRun) (i : Nat) (a : List Rat) (b : List Rat) (s : State), s.dev.photo.run = some r ∧ i < 8 ∧ (∀ j, j < 8 →
    (r.mask.testBit j = true ↔ j = i)) ∧ (s.dev.input i).winA = some a ∧ (s.dev.input i).winB = some b ∧ (s.dev.input i).judge
    (s.dev.photoSet F.LAMP_PHOTO_CFG_AGREE_PERMILLE) = 1 ∧ s.dev.photoSet F.LAMP_PHOTO_CFG_FB_MODE = 0 ∧ s.dev.flash.photoK.length = 8) ∧
    (∃ (r : PhotoRun) (i : Nat) (s : State), s.dev.photo.run = some r ∧ i < 8 ∧ (∀ j, j < 8 → (r.mask.testBit j = true ↔ j = i)) ∧
    ((s.dev.input i).winB.isSome = true ∨ s.dev.photoSet F.LAMP_PHOTO_CFG_RUN_MAX ≤ (s.dev.input i).windows) ∧ (s.dev.input i).judge
    (s.dev.photoSet F.LAMP_PHOTO_CFG_AGREE_PERMILLE) ≠ 1) :=
  ⟨⟨1, on photoDev, by decide +kernel⟩,
   ⟨0, on photoDev, by decide +kernel⟩,
   ⟨0, ((on photoDev).dev.predict 0).getD [], on photoDev, by decide +kernel⟩,
   ⟨0, on photoDev, by decide +kernel⟩,
   ⟨0, on (inputIs { frames := 65535 } photoDev), by decide +kernel⟩,
   ⟨0, run1of photoDev, on (runs 1 (inputIs { frames := 65535 } photoDev)), by decide +kernel⟩,
   ⟨0, run1of photoDev, on (runs 1 (inputIs { frames := 65535, winB := some [] } photoDev)), by decide +kernel⟩,
   ⟨hd, 1, on snd, by decide +kernel⟩,
   ⟨hd, 1, on (local_ photoDev), by decide +kernel⟩,
   ⟨on snd, by decide +kernel⟩,
   ⟨on photoDev, by decide +kernel⟩,
   ⟨on snd, by decide +kernel⟩,
   ⟨run1of photoDev, 0, on (runs 1 photoDev), by decide +kernel⟩,
   ⟨run1of (photoDev.set F.LAMP_PHOTO_CFG_FB_MODE 0), 0, [1, 1, 1], [1, 1, 1], on (runs 1 (inputIs { winA := some [1, 1, 1], winB := some [1, 1, 1] } (photoDev.set F.LAMP_PHOTO_CFG_FB_MODE 0))), by decide +kernel⟩,
   ⟨run1of photoDev, 0, on (runs 1 (inputIs { winB := some [1, 1, 1] } photoDev)), by decide +kernel⟩⟩

theorem witness_ImagesAndTrust :
    (∃ (h : Hdr) (sl : Word) (cl : Word) (src : Nat) (bytes : Nat) (start : Nat) (ws : List Word) (s : State), s.takes h .imageLoad [sl,
    cl, Word.of src, Word.of bytes] = true ∧ src < 2 ^ 64 ∧ bytes < 2 ^ 64 ∧ (s.dev.isTile = true ∧ h.orig ≠ 9 ∨ s.dev.isSender = true ∧
    (Target.ofNat h.target).scope = 0) ∧ src % 64 = 0 ∧ bytes % 8 = 0 ∧ s.dev.memRefusal src bytes = none ∧ s.dev.loadRefusal
    (Word.field cl 0 8) (Word.field sl 0 1) = none ∧ ws = memWords s.mem src (bytes / 8) ∧ s.dev.judgeLoad (Word.field cl 0 8)
    (Word.field sl 0 1) bytes ws = .ok (some start) ∧ Word.field cl 0 8 < s.dev.images.length ∧ (s.dev.cls (Word.field cl 0
    8)).slots.length = 2) ∧
    (∃ (h : Hdr) (sl : Word) (cl : Word) (src : Nat) (bytes : Nat) (x : Status × Nat) (s : State), s.takes h .imageLoad [sl, cl, Word.of
    src, Word.of bytes] = true ∧ src < 2 ^ 64 ∧ bytes < 2 ^ 64 ∧ (s.dev.isTile = true ∧ h.orig ≠ 9 ∨ s.dev.isSender = true ∧
    (Target.ofNat h.target).scope = 0) ∧ ((src % 64 ≠ 0 ∨ bytes % 8 ≠ 0) ∧ x = (.range, 0) ∨ src % 64 = 0 ∧ bytes % 8 = 0 ∧
    s.dev.memRefusal src bytes = some x.1 ∧ x.2 = 0 ∨ src % 64 = 0 ∧ bytes % 8 = 0 ∧ s.dev.memRefusal src bytes = none ∧
    s.dev.loadRefusal (Word.field cl 0 8) (Word.field sl 0 1) = some x.1 ∧ x.2 = 0 ∨ src % 64 = 0 ∧ bytes % 8 = 0 ∧ s.dev.memRefusal src
    bytes = none ∧ s.dev.loadRefusal (Word.field cl 0 8) (Word.field sl 0 1) = none ∧ s.dev.judgeLoad (Word.field cl 0 8) (Word.field sl
    0 1) bytes (memWords s.mem src (bytes / 8)) = .error x)) ∧
    (∃ (h : Hdr) (sl : Word) (cl : Word) (src : Nat) (bytes : Nat) (k : Nat) (p : Nat) (s : State), s.takes h .imageLoad [sl, cl,
    Word.of src, Word.of bytes] = true ∧ src < 2 ^ 64 ∧ bytes < 2 ^ 64 ∧ s.dev.isSender = true ∧ (Target.ofNat h.target).scope = 1 ∧
    (Target.ofNat h.target).loop = k ∧ (Target.ofNat h.target).position = p ∧ src % 64 = 0 ∧ bytes % 8 = 0 ∧ s.dev.memRefusal src bytes
    = none ∧ s.dev.relayRefusal (Target.ofNat h.target) = none) ∧
    (∃ (h : Hdr) (w : Word) (s : State), s.takes h .imageVerify [w] = true ∧ classKnown (imgWord w).2.1 = true ∧ s.dev.classRole
    (imgWord w).2.1 = true ∧ (imgWord w).2.2 = false ∧ (s.dev.isTile = true ∨ (Target.ofNat h.target).scope = 0)) ∧
    (∃ (h : Hdr) (w : Word) (c : Nat) (sl : Nat) (s : State), s.takes h .imageVerify [w] = true ∧ imgWord w = (sl, c, true) ∧ isCode c =
    true ∧ s.dev.classRole c = true ∧ (s.dev.isTile = true ∨ (Target.ofNat h.target).scope = 0) ∧ (∀ j ∈ s.dev.img.jobs, j.cls ≠ c) ∧ 2
    ≤ ((s.dev.cls c).slot sl).state ∧ ((s.dev.cls c).slot sl).state ≤ 4 ∧ c < s.dev.images.length ∧ (s.dev.cls c).slots.length = 2) ∧
    (∃ (h : Hdr) (w : Word) (s : State), s.takes h .imageVerify [w] = true ∧ classKnown (imgWord w).2.1 = false ∧ (s.dev.isTile = true ∨
    (Target.ofNat h.target).scope = 0)) ∧
    (∃ (h : Hdr) (w : Word) (c : Nat) (sl : Nat) (s : State), s.takes h .imageActivate [w] = true ∧ imgWord w = (sl, c, false) ∧
    classKnown c = true ∧ s.dev.classRole c = true ∧ (s.dev.isTile = true ∨ (Target.ofNat h.target).scope = 0) ∧ (∀ j ∈ s.dev.img.jobs,
    j.cls = c → j.recheck = true) ∧ ((s.dev.cls c).active = some sl ∨ activateRefusal s.dev s.otp c sl false = none) ∧ c <
    s.dev.images.length) ∧
    (∃ (h : Hdr) (w : Word) (c : Nat) (sl : Nat) (b : Bool) (x : Status × Nat) (s : State), s.takes h .imageActivate [w] = true ∧
    imgWord w = (sl, c, b) ∧ classKnown c = true ∧ s.dev.classRole c = true ∧ (s.dev.isTile = true ∨ (Target.ofNat h.target).scope = 0)
    ∧ (∀ j ∈ s.dev.img.jobs, j.cls = c → j.recheck = true) ∧ (s.dev.cls c).active ≠ some sl ∧ activateRefusal s.dev s.otp c sl b = some
    x) ∧
    (∃ (h : Hdr) (w : Word) (c : Nat) (sl : Nat) (s : State), s.takes h .imageActivate [w] = true ∧ imgWord w = (sl, c, true) ∧
    classKnown c = true ∧ s.dev.classRole c = true ∧ (s.dev.isTile = true ∨ (Target.ofNat h.target).scope = 0) ∧ (∀ j ∈ s.dev.img.jobs,
    j.cls = c → j.recheck = true) ∧ ((s.dev.cls c).active = some sl ∨ activateRefusal s.dev s.otp c sl true = none) ∧
    s.dev.bootEnv.hkoStable = false ∧ s.straps.role < 3) ∧
    (∃ (h : Hdr) (w : Word) (c : Nat) (sl : Nat) (k : Nat) (p : Nat) (s : State), s.takes h .imageActivate [w] = true ∧ imgWord w = (sl,
    c, false) ∧ classKnown c = true ∧ c ≠ icFw ∧ s.dev.isSender = true ∧ (Target.ofNat h.target).scope = 1 ∧ (Target.ofNat
    h.target).loop = k ∧ (Target.ofNat h.target).position = p ∧ s.dev.relayRefusal (Target.ofNat h.target) = none) ∧
    (∃ (h : Hdr) (a : Word) (b : Word) (c : Word) (d : Word) (s : State), s.takes h .attest [a, b, c, d] = true ∧ s.dev.img.nextIndex <
    2 ^ 20) ∧
    (∃ (h : Hdr) (a : Word) (b : Word) (c : Word) (d : Word) (s : State), s.takes h .attest [a, b, c, d] = true ∧ 2 ^ 20 ≤
    s.dev.img.nextIndex) ∧
    (∃ (c : Nat) (s : State), (∀ j ∈ s.dev.img.jobs, j.cls = c → j.relayed = false)) ∧
    (∃ (off : Nat) (c : Nat) (ws : List Word) (all : List Word) (j : ImgJob) (s : State), s.dev.isTile = true ∧ s.dev.img.jobs = [j] ∧
    j.cls = c ∧ j.relayed = true ∧ j.recheck = false ∧ off ≤ j.words.length ∧ all = j.withWords off ws ∧ (j.cmd = none ∨ all.length < 16
    ∨ all.length < 16 + imgTableWords (imgBlocks all))) ∧
    (∃ (off : Nat) (c : Nat) (start : Nat) (ws : List Word) (all : List Word) (j : ImgJob) (q : QCmd) (s : State), s.dev.isTile = true ∧
    s.dev.img.jobs = [j] ∧ j.cls = c ∧ j.relayed = true ∧ j.recheck = false ∧ off ≤ j.words.length ∧ all = j.withWords off ws ∧ j.cmd =
    some q ∧ 16 ≤ all.length ∧ 16 + imgTableWords (imgBlocks all) ≤ all.length ∧ s.dev.judgeLoad c j.slot (nth q.payload 3 0).toNat all
    = .ok (some start) ∧ c < s.dev.images.length ∧ (s.dev.cls c).slots.length = 2 ∧ j.slot < 2 ∧ (s.dev.host.lostReplies.any fun x =>
    q.isFor x.1 x.2.1 x.2.2) = false) ∧
    (∃ (off : Nat) (c : Nat) (ws : List Word) (all : List Word) (j : ImgJob) (q : QCmd) (x : Status × Nat) (s : State), s.dev.isTile =
    true ∧ s.dev.img.jobs = [j] ∧ j.cls = c ∧ j.relayed = true ∧ j.recheck = false ∧ off ≤ j.words.length ∧ all = j.withWords off ws ∧
    j.cmd = some q ∧ 16 ≤ all.length ∧ 16 + imgTableWords (imgBlocks all) ≤ all.length ∧ s.dev.judgeLoad c j.slot (nth q.payload 3
    0).toNat all = .error x ∧ (s.dev.host.lostReplies.any fun x => q.isFor x.1 x.2.1 x.2.2) = false) ∧
    (∃ (c : Nat) (s : State), (∀ j ∈ s.dev.img.jobs, j.cls ≠ c)) ∧
    (∃ (c : Nat) (j : ImgJob) (s : State), s.dev.img.jobs = [j] ∧ j.cls = c ∧ j.recheck = false ∧ j.cmd = none ∧ c < s.dev.images.length
    ∧ (s.dev.cls c).slots.length = 2 ∧ j.slot < 2) ∧
    (∃ (c : Nat) (j : ImgJob) (s : State), s.dev.img.jobs = [j] ∧ j.cls = c ∧ j.recheck = true ∧ c < s.dev.images.length ∧ (s.dev.cls
    c).slots.length = 2 ∧ j.slot < 2) ∧
    (∃ (s : State), s.dev.img.rollout = none) ∧
    (∃ (s : State), s.dev.img.rollout.isSome = true) ∧
    (∃ (k : Nat) (p : Nat) (s : State), s.dev.isSender = true ∧ s.dev.hasToken = true ∧ s.dev.service = 2 ∧ s.dev.loopRuns k = true ∧
    ((s.dev.tileRec k p).any fun x => !x.full) = true) ∧
    (∃ (k : Nat) (p : Nat) (s : State), (((s.dev.tileRec k p).any fun x => !x.full) = false ∨ s.dev.service ≠ 2)) ∧
    (∃ (c : Nat) (s : State), (s.dev.boot ≠ .up ∨ s.dev.isTile = true ∧ c ≠ icTables ∨ s.dev.isSender = true ∧ c ≠ icSlate ∨
    s.dev.isTile = true ∧ s.dev.img.tablesLoaded = true)) ∧
    (∃ (ws : List Word) (s : State), s.dev.boot = .up ∧ s.dev.isTile = true ∧ s.dev.img.tablesLoaded = false ∧ (s.dev.useClass s.otp
    icTables).inUse icTables = some ws) ∧
    (∃ (ws : List Word) (s : State), s.dev.boot = .up ∧ s.dev.isSender = true ∧ s.MemInv ∧ (s.dev.useClass s.otp icSlate).inUse icSlate
    = some ws) ∧
    (∃ (s : State), (s.dev.boot ≠ .up ∨ s.dev.isTile = true ∨ s.dev.img.caldbLoaded = true)) ∧
    (∃ (ws : List Word) (s : State), s.dev.boot = .up ∧ s.dev.isSender = true ∧ s.dev.img.caldbLoaded = false ∧ (s.dev.useClass s.otp
    icCaldb).inUse icCaldb = some ws) :=
  ⟨by refine ⟨hd, 1, 8, 64, 4288, 0, memWords imgState.mem 64 536, imgState, ?_, ?_, ?_, (Or.inr (by decide +kernel)), ?_, ?_, ?_, ?_, (rfl), (judge_fresh _ _ _ _ _ (by decide +kernel) headerMem (by decide +kernel) (by decide +kernel)), ?_⟩ <;> decide +kernel,
   by refine ⟨hd, 1, 8, 64, 4289, (.range, 0), imgState, ?_, ?_, ?_, (Or.inr (by decide +kernel)), (Or.inl (by decide +kernel))⟩ <;> decide +kernel,
   ⟨{ hd with target := tileTarget 0 0 3 }, 1, 8, 64, 4288, 0, 3, on ((withDram (loopDev lsCol snd)).onLoop 0 fun l => { l with tiles := [{ tileAt0 0 with pos := 3 }] }), by decide +kernel⟩,
   by refine ⟨hd, activate8, on snd, ?_, ?_, ?_, ?_, (Or.inr (by decide +kernel))⟩ <;> decide +kernel,
   by refine ⟨hd, Word.pack [(0, 1, 1), (8, 8, 3), (16, 1, 1)], 3, 1, on (local_ (slotted 3 3 [1, 2] none til)), ?_, ?_, ?_, ?_, (Or.inl (by decide +kernel)), ?_⟩ <;> decide +kernel,
   ⟨hd, 0x500, on snd, by decide +kernel, by decide +kernel, (Or.inr (by decide +kernel))⟩,
   by refine ⟨hd, activate8, 8, 1, on (slotted 8 2 [] none snd), ?_, ?_, ?_, ?_, (Or.inr (by decide +kernel)), ?_⟩ <;> decide +kernel,
   by refine ⟨hd, activate8, 8, 1, false, (.state, 0x0486), on (slotted 8 0 [] none snd), ?_, ?_, ?_, ?_, (Or.inr (by decide +kernel)), ?_⟩ <;> decide +kernel,
   by refine ⟨hd, activate8 + 0x10000, 8, 1, on (slowDev (slotted 8 2 [] none snd)), ?_, ?_, ?_, ?_, (Or.inr (by decide +kernel)), ?_, (Or.inr (by decide +kernel)), ?_⟩ <;> decide +kernel,
   ⟨{ hd with target := tileTarget 0 0 3 }, activate8, 8, 1, 0, 3, on ((loopDev lsCol snd).onLoop 0 fun l => { l with tiles := [{ tileAt0 0 with pos := 3 }] }), by decide +kernel⟩,
   ⟨hd, 1, 2, 3, 4, on snd, by decide +kernel⟩,
   ⟨hd, 1, 2, 3, 4, on (snd.onImg fun i => { i with nextIndex := 2 ^ 20 }), by decide +kernel⟩,
   ⟨8, on til, by decide +kernel⟩,
   ⟨0, 8, [1], [1], jobOf 8 false true [] none, on (jobs (jobOf 8 false true [] none) til), by decide +kernel⟩,
   by refine ⟨24, 8, 0, [8], image8.take 25, jobOf 8 false true (image8.take 24) (some (loadCmd 4288)), loadCmd 4288, on (jobs (jobOf 8 false true (image8.take 24) (some (loadCmd 4288))) til), ?_, ?_, ?_, ?_, ?_, ?_, ?_, ?_, ?_, ?_, (judge_fresh _ _ _ _ _ (by decide +kernel) header25 (by decide +kernel) (by decide +kernel)), ?_⟩ <;> decide +kernel,
   by refine ⟨24, 8, [8], image8.take 25, jobOf 8 false true (image8.take 24) (some (loadCmd 4289)), loadCmd 4289, (.range, 0), on (jobs (jobOf 8 false true (image8.take 24) (some (loadCmd 4289))) til), ?_, ?_, ?_, ?_, ?_, ?_, ?_, ?_, ?_, ?_, (judge_size _ _ _ _ _ (by decide +kernel)), ?_⟩ <;> decide +kernel,
   ⟨8, on snd, by decide +kernel⟩,
   ⟨8, jobOf 8 false false image8 none, on (jobs (jobOf 8 false false image8 none) snd), by decide +kernel⟩,
   ⟨1, jobOf 1 true false [] none, on (jobs (jobOf 1 true false [] none) (slotted 1 3 [1, 2] none snd)), by decide +kernel⟩,
   ⟨on snd, by decide +kernel⟩,
   ⟨on (snd.onImg fun i => { i with rollout := some (none, 0) }), by decide +kernel⟩,
   ⟨0, 3, on (((loopDev lsCol snd).set F.KEEP_SVC_STAT_SERVICE 2).onLoop 0 fun l => { l with tiles := [{ tileAt0 0 with pos := 3, full := false }] }), by decide +kernel⟩,
   ⟨0, 3, on snd, (Or.inl (by decide +kernel))⟩,
   ⟨8, on til, (Or.inr (Or.inl (by decide +kernel)))⟩,
   ⟨image8, on (inUse1 11 (slotted 11 3 image8 none til)), by decide +kernel⟩,
   ⟨image8, on (inUse1 10 (slotted 10 3 image8 none snd)), by decide +kernel⟩,
   ⟨on til, (Or.inr (Or.inl (by decide +kernel)))⟩,
   ⟨image8, on (inUse1 12 (slotted 12 3 image8 none snd)), by decide +kernel⟩⟩

theorem witness_LaneInstructions :
    (∃ (g : Nat) (s : State), s.dev.laneAt g = some .nop) ∧
    (∃ (g : Nat) (n : Nat) (s : State), s.dev.laneAt g = some (.shift n)) ∧
    (∃ (g : Nat) (k : Nat) (n : Nat) (s : State), s.dev.laneAt g = some (.shiftk k n)) ∧
    (∃ (g : Nat) (lat : Bool) (blk : Bool) (m : Nat) (c : Bool) (h : Nat) (s : State), s.dev.laneAt g = some (.pins lat blk m c h)) ∧
    (∃ (g : Nat) (e : Nat) (s : State), s.dev.laneAt g = some (.wait e)) ∧
    (∃ (g : Nat) (e : Nat) (x : Int) (s : State), (s.dev.group g).waiting = some e ∧ (s.dev.group g).woken = some x) ∧
    (∃ (g : Nat) (s : State), ((s.dev.group g).waiting = none ∨ (s.dev.group g).woken = none)) ∧
    (∃ (g : Nat) (p : Nat) (l : Bool) (o : Nat) (w : Nat) (s : State), s.dev.laneAt g = some (.tpulse p l o w) ∧ (s.dev.wallPs : Int) ≤
    (s.dev.group g).base + (2500 * o : Nat)) ∧
    (∃ (g : Nat) (p : Nat) (l : Bool) (o : Nat) (w : Nat) (s : State), s.dev.laneAt g = some (.tpulse p l o w) ∧ (s.dev.group g).base +
    (2500 * o : Nat) < (s.dev.wallPs : Int)) ∧
    (∃ (g : Nat) (c : Nat) (v : Nat) (s : State), s.dev.laneAt g = some (.setc c v)) ∧
    (∃ (g : Nat) (c : Nat) (x : Nat) (v : Nat) (s : State), s.dev.laneAt g = some (.loop c x) ∧ nth (s.dev.group g).counters c 0 = v +
    1) ∧
    (∃ (g : Nat) (c : Nat) (x : Nat) (s : State), s.dev.laneAt g = some (.loop c x) ∧ nth (s.dev.group g).counters c 0 = 0) ∧
    (∃ (g : Nat) (x : Nat) (s : State), s.dev.laneAt g = some (.jump x)) ∧
    (∃ (g : Nat) (x : Nat) (s : State), s.dev.laneAt g = some (.gclk x)) ∧
    (∃ (g : Nat) (fs : List Bool) (s : State), s.dev.laneAt g = some (.rdiag fs.length)) ∧
    (∃ (g : Nat) (s : State), s.dev.laneAt g = some .stop ∧ s.dev.groupSeen g = [] ∧ ((s.dev.group g).owed = none ∨ (s.dev.group
    g).routine ≠ lrSwap)) ∧
    (∃ (g : Nat) (n : Nat) (k : Nat) (x : Int) (s : State), s.dev.laneAt g = some .stop ∧ s.dev.groupSeen g = [] ∧ (s.dev.group g).owed
    = some (n, k, x) ∧ (s.dev.group g).routine = lrSwap) ∧
    (∃ (g : Nat) (h : Nat) (s : State), s.dev.laneAt g = some .stop ∧ s.dev.groupSeen g ≠ [] ∧ s.dev.lamp.reads = [] ∧ h ∈
    s.dev.groupsUsed ∧ h ≠ g ∧ (s.dev.group g).owed = none) ∧
    (∃ (g : Nat) (s : State), s.dev.laneAt g = none) :=
  ⟨⟨0, on (laneDev .nop id), by decide +kernel⟩,
   ⟨0, 9, on (laneDev (.shift 9) id), by decide +kernel⟩,
   ⟨0, 5, 3, on (laneDev (.shiftk 5 3) id), by decide +kernel⟩,
   ⟨0, true, false, 2, true, 7, on (laneDev (.pins true false 2 true 7) id), by decide +kernel⟩,
   ⟨0, 3, on (laneDev (.wait 3) id), by decide +kernel⟩,
   ⟨0, 3, 9000, on (laneDev (.wait 3) fun g => { g with waiting := some 3, woken := some 9000 }), by decide +kernel⟩,
   ⟨0, on (laneDev .nop id), by decide +kernel⟩,
   ⟨0, 1, true, 4, 6, on (laneDev (.tpulse 1 true 4 6) id), by decide +kernel⟩,
   ⟨0, 1, true, 4, 6, on (laneDev (.tpulse 1 true 4 6) fun g => { g with base := -10001 }), by decide +kernel⟩,
   ⟨0, 2, 9, on (laneDev (.setc 2 9) id), by decide +kernel⟩,
   ⟨0, 2, 1, 8, on (laneDev (.loop 2 1) fun g => { g with counters := [0, 0, 9, 0] }), by decide +kernel⟩,
   ⟨0, 2, 1, on (laneDev (.loop 2 1) id), by decide +kernel⟩,
   ⟨0, 1, on (laneDev (.jump 1) id), by decide +kernel⟩,
   ⟨0, 8, on (laneDev (.gclk 8) id), by decide +kernel⟩,
   ⟨0, [true, false], on (laneDev (.rdiag 2) id), by decide +kernel⟩,
   ⟨0, on (laneDev .stop id), by decide +kernel, by decide +kernel, (Or.inl (by decide +kernel))⟩,
   ⟨0, 7, 0, 9000, on (laneDev .stop fun g => { g with routine := lrSwap, owed := some (7, 0, 9000) }), by decide +kernel⟩,
   ⟨0, 1, on (laneDev .stop fun g => { g with flags := [true, false], diag := some upload1 }), by decide +kernel⟩,
   ⟨0, on til, by decide +kernel⟩⟩

theorem witness_LaneEvents :
    (∃ (n : Nat) (k : Nat) (s : State), (s.dev.lampsRun = false ∨ s.dev.slotLit n k = false)) ∧
    (∃ (n : Nat) (k : Nat) (s : State), s.dev.lampsRun = true ∧ s.dev.slotLit n k = true ∧ s.dev.lamp.groups.length = 16) ∧
    (∃ (n : Nat) (k : Nat) (s : State), s.dev.lampsRun = true ∧ s.dev.slotLit n k = true ∧ s.dev.lamp.groups.length = 16) ∧
    (∃ (k : Nat) (c : Nat) (s : State), s.dev.pwmN k ≤ c) ∧
    (∃ (n : Nat) (k : Nat) (c : Nat) (s : State), s.dev.lampsRun = true ∧ s.dev.slotLit n k = true ∧ c < s.dev.pwmN k) ∧
    (∃ (k : Nat) (c : Nat) (l : Nat) (s : State), (s.dev.pwmN k ≤ c ∨ s.dev.prog.lines < l)) ∧
    (∃ (n : Nat) (k : Nat) (c : Nat) (s : State), s.dev.lampsRun = true ∧ s.dev.slotLit n k = true ∧ c < s.dev.pwmN k) ∧
    (∃ (n : Nat) (k : Nat) (c : Nat) (l : Nat) (s : State), s.dev.lampsRun = true ∧ s.dev.slotLit n k = true ∧ c < s.dev.pwmN k ∧ l <
    s.dev.prog.lines) ∧
    (∃ (x : Int) (s : State), (s.dev.lampsRun = false ∨ s.dev.prog.proofNs = 0 ∨ s.dev.prog.rb = false ∨ s.dev.bit
    F.LAMP_FAULT_CFG_PROOF_EN = false ∨ s.dev.proofPlace x = false ∨ s.dev.nextProof = none)) ∧
    (∃ (x : Int) (l : Nat) (g : Nat) (s : State), s.dev.lampsRun = true ∧ s.dev.prog.proofNs ≠ 0 ∧ s.dev.prog.rb = true ∧ s.dev.bit
    F.LAMP_FAULT_CFG_PROOF_EN = true ∧ s.dev.proofPlace x = true ∧ s.dev.nextProof = some l ∧ g ∈ s.dev.groupsUsed ∧ ((s.dev.group
    g).routine = lrUpload ∨ (s.dev.group g).routine = lrSwap)) ∧
    (∃ (x : Int) (l : Nat) (s : State), s.dev.lampsRun = true ∧ s.dev.prog.proofNs ≠ 0 ∧ s.dev.prog.rb = true ∧ s.dev.bit
    F.LAMP_FAULT_CFG_PROOF_EN = true ∧ s.dev.proofPlace x = true ∧ s.dev.nextProof = some l ∧ s.dev.lamp.groups.length = 16 ∧ (∀ g ∈
    s.dev.groupsUsed, (s.dev.group g).routine ≠ lrUpload ∧ (s.dev.group g).routine ≠ lrSwap)) ∧
    (∃ (j : Nat) (e : Nat) (s : State), (s.dev.lampsLit = false ∨ s.dev.tileN ≤ j ∨ e ∉ s.dev.prog.emitters ∨ inMap s.dev.flash.map j e
    = true)) ∧
    (∃ (j : Nat) (e : Nat) (s : State), s.dev.lampsLit = true ∧ j < s.dev.tileN ∧ e ∈ s.dev.prog.emitters ∧ inMap s.dev.flash.map j e =
    false) ∧
    (∃ (j : Nat) (e : Nat) (s : State), (s.dev.lamp.unverified.any fun v => v.1 == 4 * j + e) = true ∧ s.dev.bit
    F.LAMP_DIAG_STAT_COVERAGE_LOW = false) ∧
    (∃ (j : Nat) (e : Nat) (s : State), ((s.dev.lamp.unverified.any fun v => v.1 == 4 * j + e) = false ∨ s.dev.bit
    F.LAMP_DIAG_STAT_COVERAGE_LOW = true)) :=
  ⟨⟨7, 0, on snd, by decide +kernel⟩,
   ⟨7, 0, on photoDev, by decide +kernel⟩,
   ⟨7, 0, on photoDev, by decide +kernel⟩,
   ⟨0, 1, on photoDev, by decide +kernel⟩,
   ⟨7, 0, 0, on photoDev, by decide +kernel⟩,
   ⟨0, 0, 5, on photoDev, by decide +kernel⟩,
   ⟨7, 0, 0, on photoDev, by decide +kernel⟩,
   ⟨7, 0, 0, 3, on photoDev, by decide +kernel⟩,
   ⟨5, on snd, by decide +kernel⟩,
   ⟨0, 0, 0, on (proofDev lrUpload), by decide +kernel⟩,
   ⟨0, 0, on (proofDev lrIdle), by decide +kernel⟩,
   ⟨0, 1, on snd, by decide +kernel⟩,
   ⟨0, 1, on photoDev, by decide +kernel⟩,
   ⟨0, 1, on (til.onLamp fun l => { l with unverified := [(1, 5)] }), by decide +kernel⟩,
   ⟨0, 1, on til, by decide +kernel⟩⟩

theorem witness_StepsKeepMemoryForm :
    (∃ (s : State) (t : State), s.MemInv ∧ step s = .next t) :=
  ⟨{ on (withDram snd) with mem := [(64, 1), (66, 2)] }, { on ((withDram snd).tick.msixTick.cvuTick.railTick) with mem := [(64, 1), (66, 2)] }, by decide +kernel, (rfl)⟩

theorem witness_StepsKeepShape :
    (∃ (s : State) (t : State), s.dev.Shape ∧ step s = .next t) :=
  ⟨on snd, { on snd with dev := snd.tick.msixTick.cvuTick.railTick }, by decide +kernel, (rfl)⟩

theorem witness_LaneWordsDecode :
    (∃ (i : LaneOp), i.wf = true) :=
  ⟨.tpulse 1 true 65535 511, by decide +kernel⟩

end Sys2Proof.Tests
end

section
/-!
Facts of the register tables (R9, R18): what a look-up finds stands in a table, and every family of the tables that has RWL fields
has no shadowed ones beside them, and none of its RWL fields is empty.
-/
namespace Sys2Proof.Machine

open Sys2Proof

theorem mem_of_findReg {a i : Nat} {f : RegFam} {l : List RegFam} (h : findReg a l = some (f, i)) : f ∈ l := by
  induction l with
  | nil => simp [findReg] at h
  | cons g l ih =>
    unfold findReg at h
    split at h
    · obtain ⟨rfl, rfl⟩ := h
      exact List.mem_cons_self
    · exact List.mem_cons_of_mem _ (ih h)

/-- A register that an address names stands in the table of one of the regions. -/
theorem mem_of_regAt {a i : Nat} {f : RegFam} (h : regAt a = some (f, i)) : ∃ r, f ∈ regTable r := by
  unfold regAt at h
  split at h
  · cases h
  · split at h
    · cases h
    · exact ⟨_, mem_of_findReg h⟩

/-- A family with RWL fields has no shadowed ones, and each of its RWL fields has a bit in the register. -/
def RegFam.rwlApart (f : RegFam) : Bool :=
  !f.has .rwl || (!f.has .rws && f.fields.all fun x => x.ty != .rwl || Word.mask x.lo x.width != 0)

theorem regTable_rwlApart : ∀ r, (regTable r).all RegFam.rwlApart = true
  | 0 | 1 | 2 | 3 | 4 | 5 | 6 | 7 => by decide +kernel
  | _ + 8 => rfl

theorem RegFam.has_iff {f : RegFam} {ty : FieldType} : f.has ty = true ↔ ∃ x ∈ f.fields, x.ty = ty := by
  simp [RegFam.has]

theorem rwlApart_of_regAt {a i : Nat} {f : RegFam} (h : regAt a = some (f, i)) : f.rwlApart = true := by
  obtain ⟨r, hr⟩ := mem_of_regAt h
  exact List.all_eq_true.mp (regTable_rwlApart r) f hr

/-- No register has both RWL and shadowed fields. -/
theorem not_has_rws_of_rwl {a i : Nat} {f : RegFam} (h : regAt a = some (f, i)) (hl : f.has .rwl = true) : f.has .rws = false := by
  have := rwlApart_of_regAt h
  simp only [RegFam.rwlApart, hl, Bool.not_true, Bool.false_or, Bool.and_eq_true, Bool.not_eq_true'] at this
  exact this.1

/-- A mask of all bits takes in an RWL field of every register that has one. -/
theorem exists_rwl_mask {a i : Nat} {f : RegFam} (h : regAt a = some (f, i)) (hl : f.has .rwl = true) :
    ∃ x ∈ f.fields, x.ty = .rwl ∧ Word.mask x.lo x.width &&& BitVec.allOnes 64 ≠ 0 := by
  have hr := rwlApart_of_regAt h
  obtain ⟨x, hx, ht⟩ := RegFam.has_iff.mp hl
  simp only [RegFam.rwlApart, hl, Bool.not_true, Bool.false_or, Bool.and_eq_true, List.all_eq_true] at hr
  exact ⟨x, hx, ht, by rw [BitVec.and_allOnes]; simpa [ht] using hr.2 x hx⟩

end Sys2Proof.Machine
end

section
/-!
A host command that the device takes and answers at once: its reply, and that replying keeps what the command's meaning left.
-/
namespace Sys2Proof.Machine

open Sys2Proof

theorem State.Keeps.trans {s t u : State} {but : List Nat} (h : s.Keeps t but) (g : t.Keeps u but) : s.Keeps u but := by
  obtain ⟨hr, hm, ho, hs, hp⟩ := h
  obtain ⟨gr, gm, go, gs, gp⟩ := g
  exact ⟨fun a ha => (gr a ha).trans (hr a ha), fun a => (gm a).trans (hm a), go.trans ho, gs.trans hs, gp.trans hp⟩

/-- Changes of the device that leave its registers. -/
theorem State.keeps_of_reg (s : State) (d : Dev) (but : List Nat) (h : ∀ a, a ∉ but → d.reg a = s.dev.reg a) :
    s.Keeps { s with dev := d } but := ⟨h, fun _ => rfl, rfl, rfl, rfl⟩

theorem State.keeps_touched (s : State) (q : QCmd) : s.Keeps (s.touched q) [] :=
  s.keeps_of_reg _ _ fun a _ => Dev.touch_reg _ _ a

/-- The reply to a command that is taken is not one a lost path has swallowed. -/
theorem State.takes_replied {s : State} {h : Hdr} {op : Op} {pl : List Word} (ht : s.takes h op pl = true) :
    (s.dev.host.lostReplies.any fun w => (hostCmd h op pl).isFor w.1 w.2.1 w.2.2) = false := by
  simp only [State.takes, Bool.and_eq_true, Bool.not_eq_true'] at ht
  obtain ⟨⟨⟨⟨-, hl⟩, -⟩, -⟩, -⟩ := ht
  exact hl

/-- A command the device takes, whose meaning leaves a state and answers at once, is answered so, and the reply keeps that state. -/
theorem State.answered_of_body {s s' : State} {h : Hdr} {op : Op} {pl ws : List Word} {body : State → QCmd → State × Answer} {st : Status}
    {dt : Nat} (ht : s.takes h op pl = true)
    (hb : body (s.touched (hostCmd h op pl)) (hostCmd h op pl) = (s', .now st dt ws))
    (hl : s'.dev.host.lostReplies = s.dev.host.lostReplies) :
    ∃ t, runRow h op pl body s = .next t ∧ t.Answered (hostCmd h op pl) s'.dev.responder st dt ws ∧ s'.Keeps t [] := by
  refine ⟨_, by rw [runRow, State.command_takes _ _ _ _ _ ht, State.runBody, hb], ?_, ?_⟩
  · exact Dev.reply_kept _ _ st dt ws (by rw [hl]; exact State.takes_replied ht)
  · exact s'.keeps_of_reg _ _ fun a _ => (Dev.sends_reply _ _ _ _ _).reg a

/-- A command that the device takes and refuses, its meaning having changed nothing. -/
theorem State.refused_of_body {s : State} {h : Hdr} {op : Op} {pl ws : List Word} {body : State → QCmd → State × Answer} {st : Status}
    {dt : Nat} (ht : s.takes h op pl = true)
    (hb : body (s.touched (hostCmd h op pl)) (hostCmd h op pl) = (s.touched (hostCmd h op pl), .now st dt ws)) :
    ∃ t, runRow h op pl body s = .next t ∧ t.Answered (hostCmd h op pl) s.dev.responder st dt ws ∧ s.Keeps t [] := by
  obtain ⟨t, hn, ha, hk⟩ := State.answered_of_body ht hb (Dev.touch_lost _ _)
  exact ⟨t, hn, by simpa [State.touched] using ha, (s.keeps_touched _).trans hk⟩

/-! ### The unit of a register while a command runs -/

@[simp] theorem Dev.touch_unitPresent (d : Dev) (q : QCmd) (u : UnitKind) (i : Nat) : (d.touch q).unitPresent u i = d.unitPresent u i := by
  rw [Dev.touch_eq]
  rfl

@[simp] theorem Dev.touch_unitActive (d : Dev) (q : QCmd) (u : UnitKind) (i : Nat) : (d.touch q).unitActive u i = d.unitActive u i := by
  rw [Dev.touch_eq]
  rfl

@[simp] theorem Dev.touch_bit (d : Dev) (q : QCmd) (f : Fld) : (d.touch q).bit f = d.bit f := by simp [Dev.bit]

end Sys2Proof.Machine
end

section
/-!
Refused writes of one register: by the boot lock (R11), outside any transaction, and inside one for want of shadowed fields (R77).
-/
namespace Sys2Proof.Machine

open Sys2Proof

/-! ### Refusals of a register -/

section
variable {s : State} {a i : Nat} {m v : Word} {f : RegFam}

/-- After boot lock a write whose mask takes in a bit of an RWL field is refused (R11). -/
theorem State.writeOne_locked (hr : regAt a = some (f, i)) (hp : s.dev.unitPresent f.unit i = true) (ha : s.dev.unitActive f.unit i = true)
    (hf : ∃ x ∈ f.fields, x.ty = .rwl ∧ Word.mask x.lo x.width &&& m ≠ 0) (hl : s.dev.bit F.CTRL_BOOT_STAT_LOCKED = true) :
    s.writeOne a m v = .error (.locked, 0) := by
  have ht : (f.fields.any fun x => x.ty == .rwl && Word.mask x.lo x.width &&& m != 0) = true := by simpa using hf
  unfold State.writeOne
  simp only [hr, hp, ha, hl, ht, Bool.not_true, Bool.false_eq_true, if_false, Bool.and_self, if_true]

/-- A transaction takes no write of a register without shadowed fields (R77). -/
theorem Dev.shadowWrite_noShadow {d : Dev} (t : Txn) (hr : regAt a = some (f, i)) (hp : d.unitPresent f.unit i = true)
    (ha : d.unitActive f.unit i = true) (hf : f.has .rws = false) (hm : a ≠ R.COMPOSE_SLOT_MASK) :
    d.shadowWrite t a m v = .error .noShadow := by
  simp [Dev.shadowWrite, hr, hp, ha, hf, hm]

theorem mirroredReg_eq_false (hr : regAt a = some (f, i)) (hf : f.has .rws = false) : mirroredReg a = false := by
  simp [mirroredReg, hr, hf]

/-- The mask of a tile's slots has shadowed fields. -/
theorem ne_slotMask (hr : regAt a = some (f, i)) (hf : f.has .rws = false) : a ≠ R.COMPOSE_SLOT_MASK := by
  rintro rfl
  have hs : shadowedReg R.COMPOSE_SLOT_MASK = true := by decide +kernel
  simp [shadowedReg, hr, hf] at hs

/-! ### The commands -/

variable {q : QCmd} {field : Bool}

/-- Outside any transaction a write of one register without shadowed fields is refused as the register refuses it. -/
theorem writeBody_refused {e : Status × Nat} (hq : q.txn = 0) (hw : writesOf q field = [(a, m, v)]) (hr : regAt a = some (f, i))
    (hf : f.has .rws = false) (he : s.writeOne a m v = .error e) : writeBody field s q = (s, .now e.1 e.2 []) := by
  simp [writeBody, hw, hq, mirroredReg_eq_false hr hf, State.writeAll, hr, hf, he]

/-- Inside a transaction it is refused with E_NOSHADOW (R77). -/
theorem writeBody_noShadow (hq : q.txn ≠ 0) (hw : writesOf q field = [(a, m, v)]) (hr : regAt a = some (f, i))
    (hp : s.dev.unitPresent f.unit i = true) (ha : s.dev.unitActive f.unit i = true) (hf : f.has .rws = false) :
    writeBody field s q = (s, .refuse .noShadow) := by
  have hs (t : Txn) : s.dev.shadowWrite t a m v = .error .noShadow := Dev.shadowWrite_noShadow t hr hp ha hf (ne_slotMask hr hf)
  simp [writeBody, hw, hq, mirroredReg_eq_false hr hf, Dev.shadowWrites, hs]

theorem writesOf_writeReg (h : Hdr) (ha : a < 2 ^ 64) :
    writesOf (hostCmd h .writeReg [Word.of a, v]) false = [(a, BitVec.allOnes 64, v)] := by
  simpa [writesOf, hostCmd, nth, Word.of] using ha

theorem writesOf_writeField (h : Hdr) (ha : a < 2 ^ 64) : writesOf (hostCmd h .writeField [Word.of a, m, v]) true = [(a, m, v)] := by
  simpa [writesOf, hostCmd, nth, Word.of] using ha

/-- A command that writes one locked register outside any transaction changes nothing (R11). -/
theorem State.locked_refused {h : Hdr} {op : Op} {pl : List Word} (ht : s.takes h op pl = true) (hq : h.txn = 0)
    (hw : writesOf (hostCmd h op pl) field = [(a, m, v)]) (hr : regAt a = some (f, i)) (hp : s.dev.unitPresent f.unit i = true)
    (ha : s.dev.unitActive f.unit i = true) (hf : ∃ x ∈ f.fields, x.ty = .rwl ∧ Word.mask x.lo x.width &&& m ≠ 0)
    (hl : s.dev.bit F.CTRL_BOOT_STAT_LOCKED = true) :
    ∃ t, runRow h op pl (writeBody field) s = .next t ∧ t.Answered (hostCmd h op pl) s.dev.responder .locked 0 [] ∧ s.Keeps t [] := by
  have hrws : f.has .rws = false := not_has_rws_of_rwl hr (RegFam.has_iff.mpr (hf.imp fun x hx => ⟨hx.1, hx.2.1⟩))
  have he : (s.touched (hostCmd h op pl)).writeOne a m v = .error (.locked, 0) :=
    State.writeOne_locked hr (by simpa [State.touched] using hp) (by simpa [State.touched] using ha) hf (by simpa [State.touched] using hl)
  exact State.refused_of_body ht (writeBody_refused hq hw hr hrws he)

end

end Sys2Proof.Machine
end

section
/-!
Boot lock and RWL fields (R11, R77).
-/
namespace Sys2Proof.Machine

open Sys2Proof

theorem exec_registerWrite_window (a : Nat) (v : Word) (s : State) : exec (.registerWrite .window a v) s = .next (s.writeRow a v) := rfl

/-- Settles O12: no register has RWL and shadowed fields, so outside a transaction a write meets the lock's refusal, inside one E_NOSHADOW. -/
theorem lockedFieldsKeep : Obligations.LockedFieldsKeep := by
  unfold Obligations.LockedFieldsKeep
  refine ⟨?direct, ?writeReg, ?writeField, ?inTransaction⟩
  case direct =>
    intro a v f i s hs hr hp ha hf hl
    have he := State.writeOne_locked (v := v) hr hp ha (exists_rwl_mask hr hf) hl
    rw [exec_registerWrite_window, State.writeRow_of_error s a v _ _ hs he]
    rfl
  case writeReg =>
    intro h a v f i s ht h64 hq hr hp ha hf hl
    exact State.locked_refused ht hq (writesOf_writeReg h h64) hr hp ha (exists_rwl_mask hr hf) hl
  case writeField =>
    intro h a m v f i s ht h64 hq hr hp ha hf hl
    exact State.locked_refused ht hq (writesOf_writeField h h64) hr hp ha hf hl
  case inTransaction =>
    intro h a m v f i x s ht h64 hq _ hr hp ha hf
    refine State.refused_of_body ht (writeBody_noShadow hq (writesOf_writeField h h64) hr ?_ ?_ (not_has_rws_of_rwl hr hf))
    · simpa [State.touched] using hp
    · simpa [State.touched] using ha

end Sys2Proof.Machine
end

section
/-!
Status flags and the clear of them while hardware sets some (R12, R13, R14).
-/
namespace Sys2Proof.Machine

open Sys2Proof

/-! ### The flags of a register -/

/-- The status flags of a register, as a word. -/
def RegFam.flagWord (f : RegFam) : Word :=
  f.fields.foldl (fun m x => if x.ty = .w1c then m ||| Word.mask x.lo x.width else m) 0

/-- A bit of the flags of some fields is one of the flags before them or lies in one of theirs. -/
theorem getLsbD_foldl_flags (l : List FieldSpec) (m : Word) (b : Nat) (hb : b < 64) :
    (l.foldl (fun m x => if x.ty = .w1c then m ||| Word.mask x.lo x.width else m) m).getLsbD b =
      (m.getLsbD b || l.any fun x => x.ty == .w1c && decide (x.lo ≤ b) && decide (b < x.lo + x.width)) := by
  induction l generalizing m with
  | nil => simp
  | cons x l ih =>
    rw [List.foldl_cons, ih, List.any_cons, ← Bool.or_assoc]
    congr 1
    split
    · next hx => simp only [BitVec.getLsbD_or, Word.getLsbD_mask, hx, hb, beq_self_eq_true, decide_true, Bool.true_and]
    · next hx => rw [beq_eq_false_iff_ne.mpr hx, Bool.false_and, Bool.false_and, Bool.or_false]

theorem RegFam.getLsbD_flagWord (f : RegFam) (b : Nat) (hb : b < 64) : f.flagWord.getLsbD b = f.flagBit b := by
  simp [RegFam.flagWord, RegFam.flagBit, getLsbD_foldl_flags _ _ _ hb]

/-- AGAIN is bit 63 (R14). -/
theorem getLsbD_againMask (b : Nat) : (Word.mask 63 1).getLsbD b = decide (b = 63) := by
  rw [Word.getLsbD_mask, Bool.eq_iff_iff]
  simp only [Bool.and_eq_true, decide_eq_true_eq]
  omega

/-! ### A clear -/

/-- The flags, AGAIN aside, that a clear and hardware meet at in one cycle. -/
def RegFam.flagsHit (f : RegFam) (mask hw : Word) : Word := mask &&& hw &&& (f.flagWord &&& ~~~(Word.mask 63 1))

/-- What a clear leaves of a register that held a word. -/
def RegFam.flagsCleared (f : RegFam) (old mask hw : Word) : Word :=
  let w := old &&& ~~~(mask &&& f.flagWord) ||| hw &&& (f.flagWord &&& ~~~(Word.mask 63 1))
  if f.flagsHit mask hw = 0 then w else w ||| f.flagWord &&& Word.mask 63 1

theorem Dev.clearFlags_eq {d : Dev} {a i : Nat} {f : RegFam} (mask hw : Word) (hr : regAt a = some (f, i))
    (hp : d.unitPresent f.unit i = true) (ha : d.unitActive f.unit i = true) :
    d.clearFlags a mask hw = d.setReg a (f.flagsCleared (d.reg a) mask hw) := by
  unfold Dev.clearFlags
  simp only [hr, hp, ha, Bool.not_true, Bool.or_self, Bool.false_eq_true, if_false]
  rfl

section
variable {f : RegFam} {old mask hw : Word} {b : Nat}

theorem RegFam.getLsbD_flagsHit (hb : b < 64) :
    (f.flagsHit mask hw).getLsbD b = (mask.getLsbD b && hw.getLsbD b && (f.flagBit b && !decide (b = 63))) := by
  simp only [RegFam.flagsHit, BitVec.getLsbD_and, BitVec.getLsbD_not, getLsbD_againMask, RegFam.getLsbD_flagWord _ _ hb, hb, decide_true,
    Bool.true_and]

/-- Nothing is hit when no flag below AGAIN is both cleared and set (R14). -/
theorem RegFam.flagsHit_eq_zero_iff :
    f.flagsHit mask hw = 0 ↔ ¬∃ b, b < 63 ∧ f.flagBit b = true ∧ mask.getLsbD b = true ∧ hw.getLsbD b = true := by
  constructor
  · rintro h ⟨b, hb, hf, hm, hh⟩
    have hne : b ≠ 63 := by omega
    have hset : (f.flagsHit mask hw).getLsbD b = true := by
      rw [RegFam.getLsbD_flagsHit (by omega)]
      simp [hm, hh, hf, hne]
    simp [h] at hset
  · intro h
    refine BitVec.eq_of_getLsbD_eq fun b hb => ?_
    rw [RegFam.getLsbD_flagsHit hb, BitVec.ofNat_eq_ofNat, BitVec.getLsbD_zero, Bool.eq_false_iff]
    simp only [ne_eq, Bool.and_eq_true, Bool.not_eq_true', decide_eq_false_iff_not]
    rintro ⟨⟨hm, hh⟩, hf, hne⟩
    exact h ⟨b, by omega, hf, hm, hh⟩

/-- A bit after a clear: a set bit stays unless it is a flag and cleared, hardware sets flags other than AGAIN, a hit sets AGAIN. -/
theorem RegFam.getLsbD_flagsCleared (hb : b < 64) :
    (f.flagsCleared old mask hw).getLsbD b =
      (old.getLsbD b && !(mask.getLsbD b && f.flagBit b) || hw.getLsbD b && (f.flagBit b && !decide (b = 63)) ||
        decide (f.flagsHit mask hw ≠ 0) && (f.flagBit b && decide (b = 63))) := by
  unfold RegFam.flagsCleared
  by_cases hit : f.flagsHit mask hw = 0 <;>
    simp only [hit, if_true, if_false, BitVec.getLsbD_or, BitVec.getLsbD_and, BitVec.getLsbD_not, getLsbD_againMask,
      RegFam.getLsbD_flagWord _ _ hb, hb, ne_eq, not_true_eq_false, not_false_eq_true, decide_true, decide_false, Bool.true_and,
      Bool.false_and, Bool.or_false]

/-- A flag below AGAIN is set after a clear when hardware sets it in the same cycle, or when it was set and is not cleared (R12, R13). -/
theorem RegFam.getLsbD_flagsCleared_flag (hb : b < 63) (hf : f.flagBit b = true) :
    (f.flagsCleared old mask hw).getLsbD b = (hw.getLsbD b || (old.getLsbD b && !mask.getLsbD b)) := by
  have hne : b ≠ 63 := by omega
  simp [RegFam.getLsbD_flagsCleared (by omega : b < 64), hf, hne, Bool.or_comm]

/-- AGAIN is set after a clear that hits a flag hardware sets, or when it was set and is not cleared (R14). -/
theorem RegFam.getLsbD_flagsCleared_again (hf : f.flagBit 63 = true) :
    (f.flagsCleared old mask hw).getLsbD 63 = (old.getLsbD 63 && !mask.getLsbD 63 || decide (f.flagsHit mask hw ≠ 0)) := by
  rw [RegFam.getLsbD_flagsCleared (by omega), hf]
  simp only [Bool.and_true, decide_true, Bool.not_true, Bool.and_false, Bool.or_false]

/-- A bit that is no flag keeps. -/
theorem RegFam.getLsbD_flagsCleared_other (hf : f.flagBit b = false) : (f.flagsCleared old mask hw).getLsbD b = old.getLsbD b := by
  by_cases hb : b < 64
  · rw [RegFam.getLsbD_flagsCleared hb, hf]
    simp only [Bool.and_false, Bool.not_false, Bool.and_true, Bool.false_and, Bool.or_false]
  · rw [BitVec.getLsbD_of_ge _ b (by omega), BitVec.getLsbD_of_ge _ b (by omega)]

end

/-! ### The instruction -/

theorem exec_statusFlagClear {s : State} {a i : Nat} {f : RegFam} (mask hw : Word) (hs : s.dev.answers = true)
    (hr : regAt a = some (f, i)) (hp : s.dev.unitPresent f.unit i = true) (ha : s.dev.unitActive f.unit i = true) :
    exec (.statusFlagClear a mask hw) s = .next { s with dev := s.dev.setReg a (f.flagsCleared (s.dev.reg a) mask hw) } := by
  change execStatusFlagClear a mask hw s = _
  rw [execStatusFlagClear, State.onDev, hs, if_pos rfl, Dev.clearFlags_eq mask hw hr hp ha]

/-- Settles O13, bit by bit: a flag below AGAIN, AGAIN with and without a hit, every other bit. -/
theorem statusFlagClears : Obligations.StatusFlagClears := by
  unfold Obligations.StatusFlagClears
  intro a mask hw f i s hs hr hp ha
  refine ⟨_, exec_statusFlagClear mask hw hs hr hp ha, ?flag, ?again, ?noHit, ?other, ?frame⟩
  case frame =>
    exact s.keeps_of_reg _ _ fun b hb => Dev.reg_setReg_ne _ _ _ _ fun h => hb (h ▸ List.mem_cons_self)
  all_goals simp only [Dev.reg_setReg_same]
  case flag => exact fun b hb hf => RegFam.getLsbD_flagsCleared_flag hb hf
  case again =>
    intro hf hx
    have hit : f.flagsHit mask hw ≠ 0 := fun h => RegFam.flagsHit_eq_zero_iff.mp h hx
    rw [RegFam.getLsbD_flagsCleared_again hf, decide_eq_true hit, Bool.or_true]
  case noHit =>
    intro hf hx
    have hit : f.flagsHit mask hw = 0 := RegFam.flagsHit_eq_zero_iff.mpr hx
    rw [RegFam.getLsbD_flagsCleared_again hf, decide_eq_false (not_not_intro hit), Bool.or_false]
  case other => exact fun b hf => RegFam.getLsbD_flagsCleared_other hf

end Sys2Proof.Machine
end

section
/-!
Writes of a register that a transaction, a commit or a tile's prepared part holds (R78), by commands whose TXN fits its place in the packet
(R50): the numbers 256 and 257 that stand for an implied transaction and for what is past its transaction are no TXN then.
-/
namespace Sys2Proof.Machine

open Sys2Proof

/-! ### The front of a command leaves reservations -/

@[simp] theorem Dev.touch_isStandby (d : Dev) (q : QCmd) : (d.touch q).isStandby = d.isStandby := by
  rw [Dev.touch_eq]
  rfl

@[simp] theorem Dev.touch_takesShadows (d : Dev) (q : QCmd) (a : Nat) : (d.touch q).takesShadows a = d.takesShadows a := by
  rw [Dev.touch_eq]
  rfl

@[simp] theorem Dev.touch_prepared (d : Dev) (q : QCmd) : (d.touch q).prepared = d.prepared := by rw [Dev.touch_eq]

/-- The transaction a command names takes the command's time, the others stay (R80). -/
def QCmd.restart (q : QCmd) (now : Nat) (t : Txn) : Txn :=
  if q.txn ≠ 0 ∧ t.orig = q.orig ∧ t.id = q.txn then { t with last := now } else t

@[simp] theorem QCmd.restart_orig (q : QCmd) (n : Nat) (t : Txn) : (q.restart n t).orig = t.orig := by unfold restart; split <;> rfl
@[simp] theorem QCmd.restart_id (q : QCmd) (n : Nat) (t : Txn) : (q.restart n t).id = t.id := by unfold restart; split <;> rfl
@[simp] theorem QCmd.restart_shadows (q : QCmd) (n : Nat) (t : Txn) : (q.restart n t).shadows = t.shadows := by unfold restart; split <;> rfl

theorem Dev.touch_txns (d : Dev) (q : QCmd) : (d.touch q).txns = d.txns.map (q.restart d.now) := by
  by_cases hq : q.txn = 0
  · have hid : q.restart d.now = id := funext fun t => by simp [QCmd.restart, hq]
    rw [hid, List.map_id]
    unfold Dev.touch
    simp only [hq, bne_self_eq_false, Bool.false_eq_true, if_false]
    split <;> rfl
  · have hf : q.restart d.now = fun t => if t.orig == q.orig then if t.id = q.txn then { t with last := d.now } else t else t :=
      funext fun t => by by_cases ho : t.orig = q.orig <;> simp [QCmd.restart, hq, ho]
    rw [hf]
    unfold Dev.touch
    simp only [bne_iff_ne, ne_eq, hq, not_false_eq_true, if_true]
    split <;> rfl

@[simp] theorem Dev.touch_txnOf (d : Dev) (q : QCmd) (o : Nat) : (d.touch q).txnOf o = (d.txnOf o).map (q.restart d.now) := by
  simp only [Dev.txnOf, Dev.touch_txns, List.find?_map, Function.comp_def, QCmd.restart_orig]

theorem Dev.ReservedFrom.touch {d : Dev} {a : Nat} {own : Nat × Nat} (h : d.ReservedFrom a own) (q : QCmd) :
    (d.touch q).ReservedFrom a own := by
  obtain ⟨x, hx, ho, ha⟩ | hc | hp := h
  · refine .inl ⟨q.restart d.now x, ?_, by simpa using ho, by simpa using ha⟩
    rw [Dev.touch_txns]
    exact List.mem_map_of_mem hx
  · exact .inr (.inl (by simpa using hc))
  · exact .inr (.inr (by simpa using hp))

/-! ### The refusal -/

/-- The transaction that a write command's registers go to: the one it names, or the implied one (R10), numbered 256. -/
def QCmd.own (q : QCmd) : Nat × Nat := (q.orig, if q.txn = 0 then 256 else q.txn)

section
variable {d : Dev} {s : State} {a : Nat} {m v : Word} {own : Nat × Nat}

/-- A register reserved from a transaction has a holder whose numbers are not the transaction's, unless the transaction is 257. -/
theorem Dev.reservedTo_any_ne (h : d.ReservedFrom a own) (hn : own.2 ≠ 257) :
    ((d.reservedTo a).any fun r => !(r.1 == own.1 && r.2 == own.2)) = true := by
  have other {o : Nat} : (o, 257) ≠ own := fun e => hn (e ▸ rfl)
  have key (r : Nat × Nat) (hr : r ∈ d.reservedTo a) (hne : r ≠ own) :
      ((d.reservedTo a).any fun r => !(r.1 == own.1 && r.2 == own.2)) = true := by
    refine List.any_eq_true.mpr ⟨r, hr, ?_⟩
    rw [Bool.not_eq_true', Bool.and_eq_false_imp]
    exact fun h1 => beq_eq_false_iff_ne.mpr fun h2 => hne (Prod.ext (beq_iff_eq.mp h1) h2)
  obtain ⟨x, hx, ho, ha⟩ | ⟨c, hc, ha⟩ | ⟨p, hp, ha⟩ := h
  · refine key (x.orig, x.id) ?_ ho
    simp only [Dev.reservedTo, List.mem_append, List.mem_map, List.mem_filter]
    exact .inl (.inl ⟨x, ⟨hx, by simpa using ha⟩, rfl⟩)
  · refine key (c.orig, 257) ?_ other
    simp only [Dev.reservedTo, List.mem_append, List.mem_map, List.mem_filter]
    exact .inl (.inr ⟨c, ⟨hc, by simpa using ha⟩, rfl⟩)
  · have he : (p.entries.any fun e => e.1 == a) = true := by simpa using ha
    exact key (9, 257) (List.mem_append_right _ (by simp [hp, he])) other

theorem Dev.takesShadows_iff : d.takesShadows a = true ↔ ∃ f i, regAt a = some (f, i) ∧ d.unitPresent f.unit i = true ∧
    d.unitActive f.unit i = true ∧ f.has .rws = true ∧ (d.isTile && a == R.COMPOSE_SLOT_MASK) = false := by
  unfold Dev.takesShadows
  cases regAt a with
  | none => exact ⟨fun h => absurd h Bool.false_ne_true, fun ⟨_, _, h, _⟩ => nomatch h⟩
  | some p =>
    simp only [Bool.and_eq_true, Bool.not_eq_true', and_assoc]
    exact ⟨fun h => ⟨p.1, p.2, rfl, h⟩, fun ⟨_, _, h, hs⟩ => by cases h; exact hs⟩

/-- A transaction takes no write of a register reserved to another (R78). -/
theorem Dev.shadowWrite_busy {t : Txn} (hs : d.takesShadows a = true) (h : d.ReservedFrom a (t.orig, t.id)) (hn : t.id ≠ 257) :
    d.shadowWrite t a m v = .error .busy := by
  obtain ⟨f, i, hr, hp, ha, hf, hm⟩ := Dev.takesShadows_iff.mp hs
  have hb := Dev.reservedTo_any_ne h hn
  simp only [Dev.shadowWrite, hr, hp, ha, hf, hm, hb, Bool.not_true, Bool.or_self, Bool.false_eq_true, if_false, if_true]

/-- A write of one register reserved to another transaction is refused with E_BUSY. -/
theorem writeBody_busy {q : QCmd} {field : Bool} (hw : writesOf q field = [(a, m, v)]) (hq : q.txn < 2 ^ 8)
    (ho : q.txn ≠ 0 → ∃ x, s.dev.txnOf q.orig = some x ∧ x.id = q.txn) (hb : s.dev.isStandby = false)
    (hs : s.dev.takesShadows a = true) (h : s.dev.ReservedFrom a q.own) : writeBody field s q = (s, .refuse .busy) := by
  have busy (t : Txn) (ht : (t.orig, t.id) = q.own) : s.dev.shadowWrite t a m v = .error .busy :=
    Dev.shadowWrite_busy hs (ht ▸ h) (by have := congrArg Prod.snd ht; simp only [QCmd.own] at this; split at this <;> omega)
  by_cases h0 : q.txn = 0
  · obtain ⟨f, i, hr, -, -, hf, -⟩ := Dev.takesShadows_iff.mp hs
    have := busy ⟨q.orig, 256, [], false, [], s.dev.now, 0, []⟩ (by simp [QCmd.own, h0])
    simp [writeBody, hw, hb, h0, State.writeAll, hr, hf, this, Answer.refuse]
  · obtain ⟨x, hx, hid⟩ := ho h0
    have hxo : x.orig = q.orig := by simpa using List.find?_some hx
    have := busy x (by simp [QCmd.own, h0, hid, hxo])
    simp [writeBody, hw, hb, h0, hx, Dev.shadowWrites, this]

/-- A command the device takes and refuses touches the device, then only sends. -/
theorem State.sends_of_refused {t : State} {h : Hdr} {op : Op} {pl : List Word} {body : State → QCmd → State × Answer} {st : Status}
    (ht : s.takes h op pl = true)
    (hb : body (s.touched (hostCmd h op pl)) (hostCmd h op pl) = (s.touched (hostCmd h op pl), .refuse st))
    (hn : runRow h op pl body s = .next t) : (s.dev.touch (hostCmd h op pl)).Sends t.dev := by
  rw [runRow, State.command_takes _ _ _ _ _ ht, State.runBody, hb] at hn
  cases hn
  exact Dev.sends_answer (s.dev.touch (hostCmd h op pl)) (hostCmd h op pl) (.refuse st)

/-- Such a write by a command the device takes is answered E_BUSY, and changes nothing but the times of its transaction and session. -/
theorem State.reserved_refused {h : Hdr} {op : Op} {pl : List Word} {field : Bool} (ht : s.takes h op pl = true) (hwf : h.wf = true)
    (hw : writesOf (hostCmd h op pl) field = [(a, m, v)]) (ho : h.txn ≠ 0 → ∃ x, s.dev.txnOf h.orig = some x ∧ x.id = h.txn)
    (hb : s.dev.isStandby = false) (hs : s.dev.takesShadows a = true) (hr : s.dev.ReservedFrom a (hostCmd h op pl).own) :
    ∃ t, runRow h op pl (writeBody field) s = .next t ∧ t.Answered (hostCmd h op pl) s.dev.responder .busy 0 [] ∧
      t.dev.txns = s.dev.txns.map ((hostCmd h op pl).restart s.dev.now) ∧ t.dev.commits = s.dev.commits ∧ s.Keeps t [] := by
  have hq : h.txn < 2 ^ 8 := by
    simp only [Hdr.wf, Bool.and_eq_true, decide_eq_true_eq] at hwf
    exact hwf.1.1.1.2
  have hbody := writeBody_busy (s := s.touched (hostCmd h op pl)) hw hq (fun h0 => ?own) (by simpa [State.touched] using hb)
    (by simpa [State.touched] using hs) (hr.touch _)
  case own =>
    obtain ⟨x, hx, hid⟩ := ho h0
    refine ⟨(hostCmd h op pl).restart s.dev.now x, ?_, by rwa [QCmd.restart_id]⟩
    change (s.dev.touch _).txnOf h.orig = _
    rw [Dev.touch_txnOf, hx]
    rfl
  obtain ⟨t, hn, ha, hk⟩ := State.refused_of_body ht hbody
  obtain ⟨-, htx, hc, -⟩ := (State.sends_of_refused ht hbody hn).fields
  exact ⟨t, hn, ha, htx.trans (Dev.touch_txns _ _), hc.trans (Dev.touch_commits _ _), hk⟩

end

end Sys2Proof.Machine
end

section
/-!
The same write by a command whose TXN is 257, which no packet carries (R50, R76): the model gives that number to the commits a register is
reserved to, so a transaction of that number passes for the commit of its originator and takes the write (assumption log 26).
-/
namespace Sys2Proof.Machine

open Sys2Proof

/-! ### The counterexample -/

/-- A command over SPI of transaction 257, and that transaction, open and empty. -/
def hdr257 : Hdr := ⟨8, 1, 257, 0, 0, false, 0⟩
def txn257 : Txn := ⟨8, 257, [], false, [], 0, 0, []⟩

/-- A commit of the same originator, of transaction 5, that waits for validation and holds COMPOSE_BG. -/
def pendingBg : Commit :=
  ⟨8, Op.txnCommit.code, 1, 5, 0, 0, .saddle, false, 0, [(R.COMPOSE_BG, 1)], [(R.COMPOSE_BG, 1)], .validating, 0, [], [], 0, none, [], []⟩

/-- A sender in service, its units ungated, with both. -/
def reserved257 : State :=
  { dev := { boot := .up, regs := [(R.KEEP_GATE_RUN, BitVec.allOnes 64)], txns := [txn257], commits := [pendingBg] } }

theorem reserved257_takes : reserved257.takes hdr257 .writeField [Word.of R.COMPOSE_BG, 1, 1] = true := by decide +kernel

theorem reserved257_takesShadows : reserved257.dev.takesShadows R.COMPOSE_BG = true := by decide +kernel

theorem reserved257_reservedFrom : reserved257.dev.ReservedFrom R.COMPOSE_BG (hdr257.orig, hdr257.txn) :=
  .inr (.inl ⟨pendingBg, List.mem_cons_self, List.mem_cons_self⟩)

/-- The commit's reservation and the transaction have the same numbers. -/
theorem reserved257_reservedTo : reserved257.dev.reservedTo R.COMPOSE_BG = [(txn257.orig, txn257.id)] := by decide +kernel

/-- The write joins the transaction. -/
theorem reserved257_written :
    ((reserved257.command hdr257 .writeField [Word.of R.COMPOSE_BG, 1, 1] bodyWriteField).dev.txnOf hdr257.orig).map (·.shadows) =
      some [(R.COMPOSE_BG, 1)] := by decide +kernel

/-- Refutes O9: its third clause bounds TXN nowhere, and transaction 257 of an originator takes a WRITE_FIELD of a register that the
originator's pending commit holds. For each TXN a packet can carry the refusals hold (`State.reserved_refused`). -/
theorem not_reservedRegisters : ¬ Obligations.ReservedRegisters := by
  unfold Obligations.ReservedRegisters
  rintro ⟨-, -, inTransaction, -⟩
  obtain ⟨t, hn, -, hsh, -⟩ := inTransaction hdr257 R.COMPOSE_BG 1 1 txn257 reserved257 reserved257_takes (by decide) (by decide)
    (by decide +kernel) reserved257_takesShadows rfl rfl reserved257_reservedFrom
  have ht : reserved257.command hdr257 .writeField [Word.of R.COMPOSE_BG, 1, 1] bodyWriteField = t := by cases hn; rfl
  rw [← ht, reserved257_written] at hsh
  exact absurd hsh (by decide)

end Sys2Proof.Machine
end

section
/-!
Rewriting a field of a word with what it holds, and with a number taken modulo the field's width.
-/
namespace Sys2Proof

/-- A field takes the low bits of a number. -/
theorem Word.setField_mod (w : Word) (lo width v : Nat) : Word.setField w lo width (v % 2 ^ width) = Word.setField w lo width v := by
  simp only [Word.setField, Nat.mod_mod]

/-- A field rewritten with what it holds. -/
theorem Word.setField_field (w : Word) (lo width : Nat) : Word.setField w lo width (Word.field w lo width) = w := by
  refine BitVec.eq_of_getLsbD_eq fun i hi => ?_
  rw [Word.getLsbD_setField]
  split
  · next h =>
    have hw : i - lo < width := by omega
    rw [Word.testBit_field, Nat.add_sub_cancel' h.1]
    simp [hi, hw]
  · rfl

theorem Word.setField_zero (w : Word) (lo width : Nat) (h : Word.field w lo width = 0) : Word.setField w lo width 0 = w := by
  simpa only [h] using Word.setField_field w lo width

theorem satTo_eq_min (bound n : Nat) : satTo bound n = min bound n := by
  unfold satTo
  split <;> omega

end Sys2Proof
end

section
/-!
TOKEN_STATUS (R309): its three words, with the age of the last renewal at a holder, after a renewal, and before any.
-/
namespace Sys2Proof.Machine

open Sys2Proof

/-! ### The front of a command leaves what TOKEN_STATUS reads -/

@[simp] theorem Dev.touch_now (d : Dev) (q : QCmd) : (d.touch q).now = d.now := by rw [Dev.touch_eq]
@[simp] theorem Dev.touch_free (d : Dev) (q : QCmd) : (d.touch q).free = d.free := by rw [Dev.touch_eq]
@[simp] theorem Dev.touch_twin (d : Dev) (q : QCmd) : (d.touch q).twin = d.twin := by rw [Dev.touch_eq]

@[simp] theorem Dev.touch_hasToken (d : Dev) (q : QCmd) : (d.touch q).hasToken = d.hasToken := by
  simp only [Dev.hasToken, Dev.isSender, Dev.pairState, Dev.touch_role, Dev.touch_get]

@[simp] theorem Dev.touch_lastRenewal (d : Dev) (q : QCmd) : (d.touch q).lastRenewal = d.lastRenewal := by
  rw [Dev.touch_eq]
  rfl

/-! ### A meaning that draws a free value -/

theorem State.runRow_now {s s' : State} {h : Hdr} {op : Op} {pl ws : List Word} {body : State → QCmd → State × Answer} {st : Status}
    {dt : Nat} (ht : s.takes h op pl = true)
    (hb : body (s.touched (hostCmd h op pl)) (hostCmd h op pl) = (s', .now st dt ws)) :
    runRow h op pl body s = .next { s' with dev := s'.dev.reply (hostCmd h op pl) st dt ws } := by
  rw [runRow, State.command_takes _ _ _ _ _ ht, State.runBody, hb]
  rfl

/-- A command that the device takes, whose meaning draws a free value and answers OK, still changes nothing else. -/
theorem State.reads_of_draw {s : State} {h : Hdr} {op : Op} {pl ws : List Word} {body : State → QCmd → State × Answer}
    (ht : s.takes h op pl = true)
    (hb : body (s.touched (hostCmd h op pl)) (hostCmd h op pl) =
      ({ s.touched (hostCmd h op pl) with dev := (s.dev.touch (hostCmd h op pl)).draw }, .ok ws)) :
    ∃ t, runRow h op pl body s = .next t ∧ s.Reads t (hostCmd h op pl) ws := by
  obtain ⟨t, hn, ha, hk⟩ := State.answered_of_body ht hb (Dev.touch_lost _ _)
  obtain rfl := Host.Outcome.next.inj (hn.symm.trans (State.runRow_now ht hb))
  obtain ⟨-, -, commits, lamp, compose, ingest, -, -, -, -, images, -⟩ :=
    (Dev.sends_reply (s.dev.touch (hostCmd h op pl)).draw (hostCmd h op pl) .ok 0 ws).fields
  have hd : s.Keeps { s.touched (hostCmd h op pl) with dev := (s.dev.touch (hostCmd h op pl)).draw } [] :=
    s.keeps_of_reg _ _ fun a _ => Dev.touch_reg _ _ a
  have hr : (s.dev.touch (hostCmd h op pl)).draw.responder = s.dev.responder := Dev.touch_responder _ _
  refine ⟨_, hn, hr ▸ ha, hd.trans hk, ?_, ?_, ?_, ?_, ?_⟩
  · exact commits.trans (Dev.touch_commits _ _)
  · exact compose.trans (Dev.touch_compose _ _)
  · exact lamp.trans (Dev.touch_lamp _ _)
  · exact ingest.trans (Dev.touch_ingest _ _)
  · exact images.trans (Dev.touch_images _ _)

/-! ### The reply's words -/

/-- The reply of TOKEN_STATUS with an age of the last renewal. -/
def Dev.tokenWords (d : Dev) (age : Nat) : List Word :=
  [d.reg R.CTRL_PAIR_STAT, d.reg R.CTRL_PAIR_TERM, Word.pack [(0, 16, age), (16, 32, d.twin.partnerEpoch)]]

@[simp] theorem Dev.touch_tokenWords (d : Dev) (q : QCmd) (age : Nat) : (d.touch q).tokenWords age = d.tokenWords age := by
  simp only [Dev.tokenWords, Dev.touch_reg, Dev.touch_twin]

/-- An age of 0 leaves the partner's epoch alone in its word. -/
theorem Dev.tokenWords_zero (d : Dev) : d.tokenWords 0 =
    [d.reg R.CTRL_PAIR_STAT, d.reg R.CTRL_PAIR_TERM, Word.pack [(16, 32, d.twin.partnerEpoch)]] := by
  have low : Word.field (Word.pack [(16, 32, d.twin.partnerEpoch)]) 0 16 = 0 :=
    (Word.field_setField_ne _ _ _ _ _ _ (.inr (by omega))).trans (Word.field_zero _ _)
  rw [Dev.tokenWords, Word.pack, Word.setField_zero _ _ _ low]

/-- An age shows its low 16 bits. -/
theorem Dev.tokenWords_mod (d : Dev) (age : Nat) : d.tokenWords (age % 2 ^ 16) = d.tokenWords age := by
  simp only [Dev.tokenWords, Word.pack, Word.setField_mod]

section
variable {s : State} (q : QCmd)

theorem bodyTokenStatus_holder (ht : s.dev.hasToken = true) : bodyTokenStatus s q = (s, .ok (s.dev.tokenWords 0)) := by
  simp only [bodyTokenStatus, ht, if_true]
  rfl

theorem bodyTokenStatus_renewed {x : Nat} (ht : s.dev.hasToken = false) (hx : s.dev.lastRenewal = some x) :
    bodyTokenStatus s q = (s, .ok (s.dev.tokenWords (min 0xFFFF ((s.dev.now - x) / 10 ^ 9)))) := by
  simp only [bodyTokenStatus, ht, hx, satTo_eq_min, Bool.false_eq_true, if_false]
  rfl

theorem bodyTokenStatus_unrenewed (ht : s.dev.hasToken = false) (hx : s.dev.lastRenewal = none) :
    bodyTokenStatus s q = ({ s with dev := s.dev.draw }, .ok (s.dev.tokenWords (Config.noRenewal s.dev.free))) := by
  simp only [bodyTokenStatus, ht, hx, Bool.false_eq_true, if_false]
  rfl

end

/-! ### The command -/

theorem exec_tokenStatus (h : Hdr) (s : State) : exec (.tokenStatus h) s = runRow h .tokenStatus [] bodyTokenStatus s := rfl

/-- Settles O3, by the three ages: 0 at a holder, the time since the last renewal, or before any a free value, whose low 16 bits show. -/
theorem tokenStatusAnswers : Obligations.TokenStatusAnswers := by
  unfold Obligations.TokenStatusAnswers
  simp only [exec_tokenStatus]
  refine ⟨?holder, ?renewed, ?unrenewed⟩
  case holder =>
    intro h s ht holds
    rw [← Dev.tokenWords_zero]
    refine s.reads_of h _ _ _ _ ht ?_
    rw [bodyTokenStatus_holder _ (by simpa [State.touched] using holds)]
    simp only [State.touched, Dev.touch_tokenWords]
  case renewed =>
    intro h x s ht holds hx
    refine s.reads_of h _ _ (s.dev.tokenWords _) _ ht ?_
    rw [bodyTokenStatus_renewed (x := x) _ (by simpa [State.touched] using holds) (by simpa [State.touched] using hx)]
    simp only [State.touched, Dev.touch_tokenWords, Dev.touch_now]
  case unrenewed =>
    intro h s ht holds hx
    have hb := bodyTokenStatus_unrenewed (s := s.touched (hostCmd h .tokenStatus [])) (hostCmd h .tokenStatus [])
      (by simpa [State.touched] using holds) (by simpa [State.touched] using hx)
    simp only [State.touched, Dev.touch_tokenWords, Dev.touch_free, ← Dev.tokenWords_mod _ (Config.noRenewal _)] at hb
    obtain ⟨t, hn, hr⟩ := State.reads_of_draw ht hb
    exact ⟨t, _, hn, Nat.mod_lt _ (Nat.two_pow_pos 16), hr⟩

end Sys2Proof.Machine
end
